-- ==== Sys2Proof/Word.lean ====
section
/-! DEFINITION. The machine's words and the shape of a sparse table. -/
namespace Sys2Proof

/-- One 32-bit register of the management space (R535). -/
abbrev Word := BitVec 32

/-- One stored line: the 640-bit codeword (R20). -/
abbrev Line := BitVec 640

/-- What a line carries for its users: 512 user bits and the metadata byte in bits [519:512] (R21, R22). -/
abbrev Content := BitVec 520

/-- One 128-bit slot of a Wiesh packet (R81, R112). -/
abbrev Slot := BitVec 128

/-- A sparse table: keys strictly rising, no entry equal to what an unlisted key reads as. -/
abbrev Tab (V : Type) := List (Nat × V)

end Sys2Proof
end

