-- ==== Sys2Proof/Syntax.lean ====
section
/-! DEFINITION. The commands the block takes (spec/opcode_table.json), with their operands. The table gives a
row no bits; an operand is what the spec's words say the step is told from outside: a packet's fields, a register's
address and value, a port, pseudo-channel or sensor number, or what a physical sensor, sampler or medium delivered. -/
namespace Sys2Proof

/-- A management master (R4, R546): fabric MGT with the source node of the access, the I3C target, the management
core, JTAG. -/
inductive Master where
  | mgt (node : BitVec 12)
  | i3c
  | core
  | jtag
deriving DecidableEq, Repr

/-- The fields of slot 0 of a request packet (R112), without the opcode, which the command names. -/
structure Req where
  /-- CLS [6:5]. -/
  cls : BitVec 2
  /-- HOPS [10:7]. -/
  hops : BitVec 4
  /-- RI [11]. -/
  ri : Bool
  /-- TAG [23:12]. -/
  tag : BitVec 12
  /-- SRC [35:24]. -/
  src : BitVec 12
  /-- ADDR [84:36], a global address. -/
  addr : BitVec 49
  /-- TU [85]. -/
  tu : Bool
  /-- TV [89:86]. -/
  tv : BitVec 4
  /-- SUB [95:90]. -/
  sub : BitVec 6
  /-- ARG [127:96]. -/
  arg : BitVec 32
deriving DecidableEq, Repr

/-- What one receiver delivers in training: the 160 bits of a frame (R78), and by how many picoseconds the lane's markers
come after those of the earliest lane of the port. -/
structure LaneFrame where
  bits : BitVec 160
  lag : Nat
deriving DecidableEq, Repr

/-- What one calibration window counted for one target lane (R277): the lane number, T, and the errors of the
sixteen probes in ascending probe index. -/
structure LaneWindow where
  lane : Nat
  trans : Nat
  errs : List Nat
deriving DecidableEq, Repr

/-- What the training sweeps of one lane showed (R269): bit v of the mask is set when RDLY setting v passed, and the errors
that the die's write checker counted on the lane at each WDLY setting (R268). -/
structure LaneSweep where
  lane : Nat
  rdly : BitVec 128
  werrs : List Nat
deriving DecidableEq, Repr

/-- The five records that frame a session (R328). -/
inductive RecordKind where
  | session
  | flushStart
  | commit
  | abandon
  | flushEnd
deriving DecidableEq, Repr

/-- The sources of a wake event, in the order of PWR.RUNG.STATUS.WAKE_SRC codes 1-8. -/
inductive WakeSrc where
  | fabric
  | mgmt
  | internal
  | carder
  | thermal
  | pwrfail
  | timer
  | reqNoon
deriving DecidableEq, Repr

/-- One converter sample of a temperature sensor (R413, R417): a value in units of 0.25 degrees, or an open or
shorted input. -/
inductive Sample where
  | value (t : BitVec 11)
  | openOrShort
  | shortedToReturn
deriving DecidableEq, Repr

/-- What a source tells the collector of one event beside its index (R453, R461). -/
structure FaultInfo where
  forced : Bool
  real : Bool
  addr : Option (BitVec 49)
  access : BitVec 4
  master : BitVec 16
deriving DecidableEq, Repr

/-- The two conditions of R473, as the clock and supply monitors read at the moment. -/
structure Conditions where
  qclkInRange : Bool
  suppliesInRange : Bool
deriving DecidableEq, Repr

/-- What a burn meets: the supply monitors (R498), and whether its pulses come to their end, with neither PWRFAIL_N nor
Tshut among them (R507). -/
structure BurnConditions where
  suppliesInRange : Bool
  uncut : Bool
deriving DecidableEq, Repr

/-- A failing cell that array BIST found (R480): die within the tier, bank, row and column. -/
structure FailCell where
  die : Fin 8
  bank : Fin 32
  row : BitVec 14
  col : BitVec 5
deriving DecidableEq, Repr

/-- A lane that an interconnect pass found failing (R474). -/
inductive LaneFault where
  | tsv (pc : Fin 128) (lane : Fin 44)
  | fabric (port : Fin 6) (pl : Fin 9)
  | pcie (n : Fin 2)
deriving DecidableEq, Repr

/-- The counter units of R521. -/
inductive PerfUnit where
  | quad (q : Fin 4)
  | fp (n : Fin 6)
  | xbar
  | fuller
  | hb (n : Fin 2)
deriving DecidableEq, Repr

/-- What a cartridge reports of itself when its link comes up (R364, R368): its identity, whether it offers the
LBA format of R364, and its number of blocks. -/
structure CartReport where
  cartId : BitVec 64
  formatOffered : Bool
  blocks : Nat
deriving DecidableEq, Repr

/-- The 512-bit key K of a cartridge, by what it is derived from (R372): root key, CART_ID, PAIR_GEN. Keys and
envelopes are modelled by what they were made from (DESIGN CHOICE, notes/assumptions/31.md). -/
structure HbKey where
  root : BitVec 256
  cart : BitVec 64
  gen : BitVec 32
deriving DecidableEq, Repr

/-- An export envelope (R385): target, the wrapped key, and the public key of the certificate it is signed under. -/
structure Envelope where
  target : BitVec 64
  key : HbKey
  signer : BitVec 768
deriving DecidableEq, Repr

/-- A block on a cartridge (R376): its descriptor, and the content of a VERSION block by line, or the payload of a
record as numbers in the order of R383. -/
structure Block where
  kind : BitVec 16
  lba : Nat
  rsn : Nat
  vsn : Nat
  unit : Nat
  epoch : BitVec 32
  /-- Code of each line that is not absent (R377). -/
  tags : Tab Nat
  lines : Tab Content
  payload : List Nat
deriving DecidableEq, Repr

/-- A superblock (R375). WRAPPED_KEY by the root key and CART_ID its KEK derives from and the key inside, KCV by the key
it was computed from. -/
structure Super where
  rsn : Nat
  mode : Nat
  member : Nat
  synced : Bool
  testKey : Bool
  adopted : Bool
  restoreOnly : Bool
  cartId : BitVec 64
  owner : BitVec 64
  partner : BitVec 64
  pairGen : BitVec 32
  wrapRoot : BitVec 256
  wrapCart : BitVec 64
  key : HbKey
  kcv : HbKey
  logBlocks : Nat
  ckptLba : Nat
  ckptRsn : Nat
  rated : Nat
  written : Nat
  /-- SUCCESSOR0-3 (R386). -/
  envelopes : List (Nat × Envelope)
deriving DecidableEq, Repr

/-- The medium of a cartridge. -/
structure Cart where
  report : CartReport
  /-- The two superblock copies; none: unreadable. -/
  superA : Option Super
  superB : Option Super
  /-- The log, newest block first. -/
  log : List Block
deriving DecidableEq, Repr

/-- What the end of a Dawn step reports (R509, R519): whether it failed, and a bitmap of the units that failed
(fabric lanes for step 4, pseudo-channels for step 8); for step 2, the OTP words whose two samples disagreed. -/
structure StepReport where
  failed : Bool
  units : List Nat
deriving DecidableEq, Repr

/-- The commands of the block: one constructor per row of the spec's table of operations and events, in the
table's order but for thirteen commands without operands, which stand last (the compiler numbers only the first 245
constructors that carry operands). A docstring names the row and the rule that governs it.
(DESIGN CHOICE, notes/assumptions/5.md) -/
inductive Instr where
  /-- REGISTER_WRITE (R5). A management write to a register that has no row of its own updates its fields according to their kinds. -/
  | registerWrite (addr : BitVec 24) (ws : List (Master × BitVec 32))
  /-- STATUS_WRITE_BACK (R550). A write to a status register whose SEQ matches clears EVENT and the fields named as cleared. -/
  | statusWriteBack (m : Master) (addr : BitVec 24) (v : BitVec 32)
  /-- XLATE_GO (R46). GO in CHIP.AMAP.XLATE_CTL samples the address and starts a translation. -/
  | xlateGo
  /-- XLATE_DONE (R46). The translation ends and sets VALID with the decode; one held by a structural reload ends under the new map. -/
  | xlateDone
  /-- RD (R120). A read request for a line is checked and either admitted to L0 or queued as L1, then answered. -/
  | rd (port : Fin 6) (r : Req)
  /-- WR (R121). A full-line write is accepted into the write queue and answered under R191. -/
  | wr (port : Fin 6) (r : Req) (data : BitVec 512)
  /-- WRM (R123). A masked write joins or opens a merge entry, or runs as a WR when all bytes are enabled. -/
  | wrm (port : Fin 6) (r : Req) (mask : BitVec 128) (data : BitVec 512)
  /-- ATOM (R124). An atomic on an 8-byte field joins a merge entry and executes at its retirement. -/
  | atom (port : Fin 6) (r : Req) (slot1 : BitVec 128)
  /-- TAG (R126). A tag operation reads or changes T3:T0 of a line. -/
  | tag (port : Fin 6) (r : Req)
  /-- EPOCH_QUERY (R127). Returns the open and latest durable epochs. -/
  | epochQuery (port : Fin 6) (r : Req)
  /-- EPOCH_SEAL (R304). The Fuller takes a SEAL and sets a seal point, or defers the SEAL. -/
  | epochSeal (port : Fin 6) (r : Req)
  /-- EPOCH_WAIT_DURABLE (R314). Completes when the named epoch is durable, at once if it already is. -/
  | epochWaitDurable (port : Fin 6) (r : Req)
  /-- REGION_QUERY (R130). Returns the class, attributes, match state and dirty units of a region. -/
  | regionQuery (port : Fin 6) (r : Req)
  /-- REGION_FLUSH (R130). Completes when every line dirty in the region at execution is durable. -/
  | regionFlush (port : Fin 6) (r : Req)
  /-- OUTCOME (R151). An outcome query returns a tag's record and fences it. -/
  | outcome (port : Fin 6) (r : Req)
  /-- MRD (R131). A fabric management read of one register. -/
  | mrd (port : Fin 6) (r : Req)
  /-- MWR (R132). A fabric management write of one register. -/
  | mwr (port : Fin 6) (r : Req)
  /-- BROADCAST_MWR (R164). A broadcast management write is filtered, executed without response and forwarded. -/
  | broadcastMwr (port : Fin 6) (r : Req)
  /-- MIR_WR (R319). A received mirror write is stored as an L2 order 3 write, marked dirty and answered. -/
  | mirWr (port : Fin 6) (r : Req) (data : BitVec 512)
  /-- MIR_XCHG (R136). A received mirror region exchange is answered OK or STATE_ERR. -/
  | mirXchg (port : Fin 6) (r : Req) (slot1 : BitVec 128)
  /-- MIR_WR_RESPONSE (R318). The response to a sent MIR_WR releases the waiting requests, sends the next MIR_WR or breaks the mirror. -/
  | mirWrResponse (port : Fin 6) (hdr : BitVec 128)
  /-- MIR_XCHG_RESPONSE (R41). An OK answer to the device's MIR_XCHG marks its region matched or starts the resync. -/
  | mirXchgResponse (port : Fin 6) (hdr : BitVec 128)
  /-- MIR_XCHG_TIMER (R41). Every 10 ms the device sends MIR_XCHG again for an unmatched or broken region. -/
  | mirXchgTimer
  /-- MIR_TIMEOUT (R321). A MIR_WR without success after MIR_TMO breaks the mirror of its region. -/
  | mirTimeout (tag : BitVec 12)
  /-- NODE_ASSIGN (R157). A broadcast NODE_ASSIGN with a matching UID gives the device a node ID or is refused. -/
  | nodeAssign (port : Fin 6) (r : Req) (slot1 : BitVec 128)
  /-- HELLO (R161). A received HELLO records the neighbour and re-evaluates routability and mismatch. -/
  | hello (port : Fin 6) (hdr : BitVec 128)
  /-- HELLO_TIMER (R160). Every 100 ms the device sends a HELLO on each port. -/
  | helloTimer
  /-- HELLO_LOST (R456). No HELLO for 300 ms on a port raises FP_HELLO_LOST. -/
  | helloLost (port : Fin 6)
  /-- SYNC_DELAY_REQ (R179). A received DELAY_REQ is answered at once with DELAY_RSP; CLS, HOPS, TAG and SRC stand in its
  slot 0. -/
  | syncDelayReq (port : Fin 6) (cls : BitVec 2) (hops : BitVec 4) (tag src : BitVec 12) (t1 : BitVec 64)
  /-- SYNC_DELAY_RSP (R180). A received DELAY_RSP yields the offset, and the device slews or steps its time. -/
  | syncDelayRsp (port : Fin 6) (tag : BitVec 12) (t1 t2 t3 : BitVec 64)
  /-- SYNC_TIMER (R180). Every 1 ms a non-root device sends DELAY_REQ towards the root. -/
  | syncTimer
  /-- ALERT (R181). A received ALERT broadcast is filtered, delivered to host ports and forwarded. -/
  | alert (port : Fin 6) (r : Req)
  /-- FORWARD_PACKET (R167). A packet for another node is looked up and forwarded, or answered UNREACHABLE or dropped. -/
  | forwardPacket (port : Option (Fin 6)) (vc : BitVec 2) (slots : List (BitVec 128))
  /-- DUP_FILTER_EXPIRE (R163). A broadcast duplicate-filter entry expires after 2 ms. -/
  | dupFilterExpire
  /-- HOLD_DISCARD (R149). A REQ packet held more than 100 us is discarded without response. -/
  | holdDiscard (port : Fin 6)
  /-- MGT_HOLD_DISCARD (R171). An MGT packet held more than 100 us is discarded without response. -/
  | mgtHoldDiscard (port : Fin 6)
  /-- OUTCOME_SRC_RELEASE (R154). RELEASE in OUTCOME_SRCnn frees an outcome entry and clears its records. -/
  | outcomeSrcRelease (e : Fin 64)
  /-- FLIT_RECEIVE (R89). A received flit is decoded, checked and accepted, discarded or NAKed, and its ACK and credits are taken. -/
  | flitReceive (port : Fin 6) (lanes : List (BitVec 320))
  /-- NAK_RECEIVE (R90). A received NAK makes the transmitter replay every held flit after ACK. -/
  | nakReceive (port : Fin 6) (ack : BitVec 12)
  /-- NAK_RESEND (R89). After 1 us in NAK-pending without accepting a flit, the receiver sends NAK again. -/
  | nakResend (port : Fin 6)
  /-- REPLAY_TIMEOUT (R91). No ACK progress for 2 us replays from the oldest held flit, or enters recovery. -/
  | replayTimeout (port : Fin 6)
  /-- SHADOW_MOVE (R77). An LCTL SHADOW_MOVE announces a move of the peer's transmit shadow. -/
  | shadowMove (port : Fin 6) (ll : Fin 8)
  /-- SHADOW_ROTATE (R77). Every 1 ms with ROTATE_EN the device moves its transmit shadow to the next logical lane. -/
  | shadowRotate (port : Fin 6)
  /-- SPARE_REQ (R103). A received SPARE_REQ makes the device move its transmit shadow to the requested lane. -/
  | spareReq (port : Fin 6) (ll : Fin 8)
  /-- LANE_RETURN (R108). A received LANE_RETURN announces a logical lane moving back to its physical lane. -/
  | laneReturn (port : Fin 6) (ll : Fin 8) (pl : Fin 9)
  /-- IDLE_ENTER (R109). A received IDLE_ENTER announces that the peer transmitter goes idle. -/
  | idleEnter (port : Fin 6)
  /-- CREDIT_ADV (R94). A received CREDIT_ADV sets the peer's advertised credits per VC. -/
  | creditAdv (port : Fin 6) (req rsp mgt per : BitVec 10)
  /-- LANE_TEST (R108). A received LANE_TEST makes the device send training frames on a lane. -/
  | laneTest (port : Fin 6) (pl : Fin 9)
  /-- LANE_PASS (R108). A received LANE_PASS makes the transmitter send LANE_RETURN and move the lane back. -/
  | lanePass (port : Fin 6) (pl : Fin 9)
  /-- RETRAIN_REQ (R100). A received RETRAIN_REQ puts the port into recovery. -/
  | retrainReq (port : Fin 6)
  /-- LANE_FAIL_DETECT (R101). The receiver declares a physical lane failed and switches in the spare or requests it. -/
  | laneFailDetect (port : Fin 6) (pl : Fin 9)
  /-- SPARE_COMPARE_FAIL (R106). A spare that fails its comparison in 16 consecutive flits goes to FAILED. -/
  | spareCompareFail (port : Fin 6)
  /-- TRAIN_FRAME_RECEIVE (R78). A received training frame drives the training states and FFE requests of its lane. -/
  | trainFrameReceive (port : Fin 6) (pin : Fin 9) (frame : LaneFrame)
  /-- TRAIN_QUIET_DONE (R79). QUIET ends after 10 us, or 1 us in recovery, and training moves to LOCK. -/
  | trainQuietDone (port : Fin 6)
  /-- TRAIN_LOCK_TIMEOUT (R79). A lane without lock after 1 ms is marked failed. -/
  | trainLockTimeout (port : Fin 6)
  /-- TRAIN_TIMEOUT (R79). A training state timeout returns the port to QUIET, or to DOWN after three failures. -/
  | trainTimeout (port : Fin 6)
  /-- DOWN_RETRY (R79). Every 1 ms a DOWN port starts a new full training. -/
  | downRetry (port : Fin 6)
  /-- RECOVERY_FAIL (R80). A recovery that does not reach ACTIVE within 50 us fails, and three in a row start full training or lose the port. -/
  | recoveryFail (port : Fin 6)
  /-- LANE_RETRY_TIMER (R108). Every 60 s the device attempts to rejoin a retired lane with LANE_TEST. -/
  | laneRetryTimer (port : Fin 6)
  /-- LINK_IDLE_ENTER (R109). With all flits acknowledged the device sends IDLE_ENTER and squelches its transmitter. -/
  | linkIdleEnter (port : Fin 6)
  /-- LINK_RESUME (R109). A receive lane leaves squelch and the receiver takes flits after the training frames. -/
  | linkResume (port : Fin 6)
  /-- FP_RETRAIN (R111). RETRAIN in FAB.FPn.CFG starts recovery, or full training in DOWN. -/
  | fpRetrain (port : Fin 6)
  /-- FP_FULL_TRAIN (R111). FULL_TRAIN in FAB.FPn.CFG starts full training. -/
  | fpFullTrain (port : Fin 6)
  /-- FP_LANE_RETRY (R108). LANE_RETRY in FAB.FPn.CFG starts a rejoin attempt for every retired lane. -/
  | fpLaneRetry (port : Fin 6)
  /-- HELD_TRAIN_CMD (R111). A training command held during training is acted on when the port reaches ACTIVE or DOWN. -/
  | heldTrainCmd (port : Fin 6)
  /-- ROUTE_SWITCH (R175). GO in ROUTE.TBL.SWITCH activates the other bank and sets GEN. -/
  | routeSwitch
  /-- CLEAR_LEARNED (R168). CLEAR_LEARNED sets LIMIT to 0 in every learned entry of both banks. -/
  | clearLearned
  /-- ROUTE_ENTRY_WRITE (R166). A write to ROUTE.TBL.ENTRY stores the selected entry with LEARNED = 0 and may advance INDEX. -/
  | routeEntryWrite (v : BitVec 32)
  /-- PORT_ACCEPT (R177). ACCEPT records the present neighbour and can make the port routable. -/
  | portAccept (port : Fin 6)
  /-- LINE_SLOT (R195). For each line slot the channel controller chooses the request that takes it. -/
  | lineSlot (pc : Fin 128)
  /-- PAGE_HOLD_EXPIRE (R186). PAGE_HOLD ticks after the last column command the controller precharges the idle row. -/
  | pageHoldExpire (pc : Fin 128) (bank : Fin 32)
  /-- BANK_TIMING_EXPIRE (R185). tRP or tRFC passes and the bank returns to IDLE. -/
  | bankTimingExpire (pc : Fin 128) (bank : Fin 32)
  /-- LINE_DECODE (R236). The inline decoder takes a line read from the Crown through its path and hands the result on. -/
  | lineDecode (pc : Fin 128) (noise : BitVec 640)
  /-- MERGE_RETIRE (R203). A merge entry is read for retirement when its trigger occurs. -/
  | mergeRetire (pc : Fin 128) (line : BitVec 31)
  /-- TAKE_OUT (R210). TAKE_OUT moves a SERVING or REJOINING pseudo-channel to DRAINING. -/
  | takeOut (pc : Fin 128)
  /-- REJOIN (R211). REJOIN moves an OUT pseudo-channel with INIT_DONE to REJOINING, or is ignored. -/
  | rejoin (pc : Fin 128)
  /-- DRAIN_COMPLETE (R210). A draining pseudo-channel whose queues are empty goes OUT. -/
  | drainComplete (pc : Fin 128)
  /-- TIMING_WRITE (R212). A write to a timing field loads at least the minimum and takes effect at the next slot boundary. -/
  | timingWrite (pc : Fin 128) (reg : Fin 4) (v : BitVec 32)
  /-- TSV_POINT_CHANGE (R188). A quadrant stops column commands, closes rows and waits for the new TSV point. -/
  | tsvPointChange (q : Fin 4)
  /-- TSV_POINT_READY (R188). The TSV PHY reports the new point and the controllers resume. -/
  | tsvPointReady (q : Fin 4)
  /-- REFRESH_DUE (R215). The due timer gives a due point to the next bank and adds to its debt. -/
  | refreshDue (pc : Fin 128)
  /-- REFMU_COMPLETE (R225). A REFmu of a forced make-up completes and the next one is issued. -/
  | refmuComplete (pc : Fin 128)
  /-- REF_CFG_WRITE (R224). A write to REF_CFG loads clamped values, and setting FORCE_HOT counts as a band entry. -/
  | refCfgWrite (pc : Fin 128) (v : BitVec 32)
  /-- QME_SLOT (R12). A QME slot begins for a pseudo-channel: refresh plan, calibration judgement, then Carder decode. -/
  | qmeSlot (q : Fin 4)
  /-- CARDER_PAGE_INTERVAL (R247). At each page interval the Carder reads the page at WALK_PTR. -/
  | carderPageInterval (pc : Fin 128)
  /-- HEAL_COPY_DELIVERED (R244). The Fuller delivers the Hatbox copy and the heal write is issued. -/
  | healCopyDelivered (line : BitVec 31)
  /-- HEAL_TIMEOUT (R244). A heal without its copy 10 ms after taking its entry fails. -/
  | healTimeout (line : BitVec 31)
  /-- TIER_FORCE (R240). FORCE in CHIP.ECC.TIERt puts the tier in erasure mode with FORCE_DIE. -/
  | tierForce (t : Fin 2)
  /-- TIER_CLEAR (R240). CLEAR in CHIP.ECC.TIERt takes the tier out of erasure mode. -/
  | tierClear (t : Fin 2)
  /-- DIE_SUPPLY_LOST (R239). A die's supply monitor reports the die lost and its tier enters erasure mode. -/
  | dieSupplyLost (d : Fin 16) (q : Fin 4)
  /-- INJ_ARM (R260). ARM in CHIP.ECC.INJ_CTL arms a flip-mask injection or refuses it. -/
  | injArm
  /-- CAND_POP (R253). POP removes the oldest repair candidate. -/
  | candPop
  /-- FUSE_BURN (R254). GO in CHIP.ECC.FUSE_CMD starts a core-die fuse burn or refuses it. -/
  | fuseBurn
  /-- FUSE_BURN_DONE (R254). A fuse burn ends with its result. -/
  | fuseBurnDone (verified cutOff : Bool)
  /-- LANE_REPAIR_GO (R255). REPAIR_GO declares REPAIR_LANE failed. -/
  | laneRepairGo (pc : Fin 128)
  /-- WALK_RESTART (R247). WALK_RESTART sets WALK_PTR to 0 at the next page interval. -/
  | walkRestart (pc : Fin 128)
  /-- CAL_COMPARE_DONE (R276). After 16 compared slots the round substitutes the spare or abandons the pair, and the window starts. -/
  | calCompareDone (pc : Fin 128) (differs blamed : BitVec 4)
  /-- CAL_WINDOW_END (R278). An 8 us window ends and each target's pass bitmap, width and jump are computed. -/
  | calWindowEnd (pc : Fin 128) (ws : List LaneWindow)
  /-- PATTERN_WINDOW_END (R287). A pattern window ends when every lane's T reaches 2^14. -/
  | patternWindowEnd (pc : Fin 128) (ws : List LaneWindow)
  /-- CAL_RETRAIN (R272). RETRAIN in CAL_CTL starts a seeded training in INIT or OUT. -/
  | calRetrain (pc : Fin 128)
  /-- CAL_FULL_TRAIN (R269). FULL_TRAIN in CAL_CTL starts a full training in INIT or OUT. -/
  | calFullTrain (pc : Fin 128)
  /-- OUT_RETRAIN (R272). A pseudo-channel OUT for more than 10 ms gets a seeded training before re-initialisation. -/
  | outRetrain (pc : Fin 128)
  /-- TRAIN_GROUP_DONE (R269). Training of one lane group ends and the next group starts. -/
  | trainGroupDone (pc : Fin 128) (sweeps : List LaneSweep)
  /-- CAL_OVR_GO (R262). GO in CAL_OVR loads a lane setting at the next line boundary. -/
  | calOvrGo (pc : Fin 128)
  /-- DESTAGE_START (R296). The Fuller chooses the next dirty unit and reads it for destage. -/
  | destageStart
  /-- DESTAGE_DURABLE (R292). A unit is durable and the Fuller clears D in its lines. -/
  | destageDurable (unit : BitVec 25)
  /-- SEED_ADMIT (R300). The Fuller admits the lowest seed unit into the dirty set. -/
  | seedAdmit
  /-- SEAL_POINT (R304). At Tseal every controller switches its open epoch and the SEAL response is sent. -/
  | sealPoint
  /-- COW_STALL_TIMEOUT (R312). A copy-on-write stall that reaches COW_STALL_MAX folds S. -/
  | cowStallTimeout
  /-- EPOCH_COMMIT_DONE (R313). The COMMIT record of S is durable, d becomes S and the state becomes OPEN. -/
  | epochCommitDone
  /-- FULLER_SEAL (R326). CMD SEAL acts as an EPOCH SEAL. -/
  | fullerSeal
  /-- FLUSH_REGION (R326). CMD FLUSH_REGION acts as a REGION FLUSH. -/
  | flushRegion
  /-- FLUSH_ALL (R326). CMD FLUSH_ALL flushes every persistent region. -/
  | flushAll
  /-- FULLER_FOLD (R326). CMD FOLD folds S, or ends with STATE_ERR outside SEALING. -/
  | fullerFold
  /-- PWRFAIL_ASSERT (R332). PWRFAIL_N low for 200 ns sets a power-fail point. -/
  | pwrfailAssert
  /-- SUPPLY_UNDERVOLT (R564). A monitor of rails 00–09 reads low for 1 us and takes a power-fail point. -/
  | supplyUndervolt (rail : Fin 12)
  /-- DRAIN_WINDOW_END (R334). 20 us after the power-fail point the fabric lanes are squelched and the flush stages start. -/
  | drainWindowEnd
  /-- HATBOX_RECORD_DURABLE (R335). A record becomes durable and the flush moves to its next stage, resume or closing. -/
  | hatboxRecordDurable (rec : RecordKind)
  /-- FLUSH_ENERGY_SAMPLE (R336). Every 10 us during a flush HOLDUP_V is sampled, and at the closing reserve destage stops. -/
  | flushEnergySample (mv : Nat)
  /-- CLOSING_DONE (R337). Cartridges report shutdown, or 2 ms pass, and the device cuts the Crown and enters the safe state. -/
  | closingDone
  /-- PWRFAIL_DEASSERT (R338). PWRFAIL_N rises. -/
  | pwrfailDeassert
  /-- SAFE_STATE_EXIT (R338). After PWRFAIL_N has been deasserted for 10 ms a device in the safe state restores. -/
  | safeStateExit
  /-- THALT_FLUSH_START (R339). Firmware starts the Thalt flush. -/
  | thaltFlushStart
  /-- HOLDUP_SAMPLE (R331). Every 1 ms in Noon the live energy is estimated and EFF lowered or raised. -/
  | holdupSample (mv : Nat)
  /-- HOLDUP_AUDIT_DONE (R477). The hold-up audit ends, giving Ea and EFF. -/
  | holdupAuditDone (vaMv droopUv : Nat)
  /-- RESTORE_START (R343). The Fuller writes ABANDON and SESSION, classes the last session and every pseudo-channel serves. -/
  | restoreStart
  /-- BULK_RESTORE_UNIT (R346). A unit of the bulk restore is written with its restore content. -/
  | bulkRestoreUnit (readable : Bool)
  /-- FAULTIN_DONE (R350). A demand fault-in writes its unit and releases the waiting requests. -/
  | faultinDone (unit : BitVec 25) (readable : Bool)
  /-- UNSAVED_POP (R355). POP removes the oldest UNSAVED FIFO entry. -/
  | unsavedPop
  /-- TSHUT_CUT (R425). A Tshut or Brim-limit trip opens the Crown and SerDes switches and records the latch. -/
  | tshutCut (sensor : Fin 80) (value : BitVec 11)
  /-- PAIR (R371). PAIR formats a cartridge, derives its key, writes its superblock and enters RESYNC. -/
  | pair (n : Fin 2)
  /-- EJECT (R389). EJECT quiesces a cartridge for removal or is refused. -/
  | eject (n : Fin 2)
  /-- KEY_EXPORT (R385). EXPORT writes a key envelope for a target certificate. -/
  | keyExport
  /-- KEY_IMPORT (R386). IMPORT adopts a foreign cartridge through its envelope. -/
  | keyImport
  /-- NVME_COMPLETION (R365). An NVMe command completes on a Hatbox port. -/
  | nvmeCompletion (n : Fin 2) (cid : Nat) (ok : Bool)
  /-- NVME_CMD_TIMEOUT (R367). A command not done after 500 ms is aborted, then the controller is reset. -/
  | nvmeCmdTimeout (n : Fin 2) (cid : Nat)
  /-- HB_LINK_DOWN (R390). A cartridge fails or is removed and its port becomes FAILED or ABSENT. -/
  | hbLinkDown (n : Fin 2) (removed : Bool)
  /-- HB_LINK_TRAIN_TIMEOUT (R361). A Hatbox link not trained within 100 ms leaves its cartridge FAILED. -/
  | hbLinkTrainTimeout (n : Fin 2)
  /-- WEAR_CHECK (R387). Every hour the device reads the wear log pages and updates the life forecast. -/
  | wearCheck (n : Fin 2) (pctUsed dataUnits rated : Nat) (readOnly : Bool)
  /-- CLEANER_START (R384). With less than 1/8 of the log free the cleaner reclaims the oldest segment. -/
  | cleanerStart (n : Fin 2)
  /-- DUSK_ENTER (R396). After DUSK_IDLE of idleness the device enters Dusk. -/
  | duskEnter
  /-- WAKE_EVENT (R397). A wake event takes the device from Dusk or Night back to Noon. -/
  | wakeEvent (src : WakeSrc)
  /-- WAKE_TIMER_EXPIRE (R402). The wake timer expires in Night or Midnight. -/
  | wakeTimerExpire
  /-- MIDNIGHT_WAKE (R342). A wake event in Midnight powers the Crown, trains it and restores. -/
  | midnightWake (src : WakeSrc)
  /-- RUNG_REQ_NOON (R404). REQ with TARGET NOON cancels a held request or wakes the device. -/
  | rungReqNoon
  /-- RUNG_REQ_NIGHT (R399). REQ with TARGET NIGHT is held until the Night conditions hold. -/
  | rungReqNight
  /-- RUNG_REQ_MIDNIGHT (R403). REQ with TARGET MIDNIGHT sets a Midnight point or wakes the device first. -/
  | rungReqMidnight
  /-- NIGHT_ENTER (R399). A held Night request whose conditions hold starts Night entry. -/
  | nightEnter
  /-- NIGHT_REQ_TIMEOUT (R399). A Night request not satisfied within 100 ms ends with REFUSED. -/
  | nightReqTimeout
  /-- GOV_INTERVAL (R406). Every 100 us the governor compares P100 with the budget and moves its level. -/
  | govInterval (p100 inst : Nat) (quads : List Nat)
  /-- THERMAL_LEVEL_TICK (R407). Every 1 ms a quadrant's thermal level rises in Throttle or falls after it. -/
  | thermalLevelTick (q : Fin 4)
  /-- TSV_POINT_REQ (R412). GO in PWR.CLK.TSV_REQ requests a TSV frequency change for a quadrant. -/
  | tsvPointReq
  /-- SENSOR_SAMPLE (R415). A sensor sample is checked, used and evaluated against the bands. -/
  | sensorSample (sensor : Fin 80) (smp : Sample)
  /-- SENSOR_RESTORE (R418). RESTORE returns a BROKEN sensor to use. -/
  | sensorRestore (sensor : Fin 80)
  /-- WATCHDOG_EXPIRE (R432). PERIOD ms without a kick restarts the management core. -/
  | watchdogExpire
  /-- WDT_KICK (R432). A write of 0xC3 to KICK restarts the watchdog count. -/
  | wdtKick (v : BitVec 8)
  /-- CORE_RESTART (R434). RESTART restarts the management core without fault. -/
  | coreRestart
  /-- BOOT_ROM_TIMEOUT (R432). A boot ROM that has not handed over within 150 ms is restarted. -/
  | bootRomTimeout
  /-- FIRMWARE_HANDOVER (R445). The boot ROM selects, checks and starts a firmware slot. -/
  | firmwareHandover
  /-- I3C_REG_READ (R436). An I3C private write requests a register read. -/
  | i3cRegRead (bytes : List (BitVec 8))
  /-- I3C_REG_WRITE (R436). An I3C private write carries a register write. -/
  | i3cRegWrite (bytes : List (BitVec 8))
  /-- ENTDAA (R435). The I3C CCC ENTDAA assigns a dynamic address. -/
  | entdaa (da : BitVec 7)
  /-- SETDASA (R435). The I3C CCC SETDASA sets the dynamic address from the static one. -/
  | setdasa (da : BitVec 7)
  /-- RSTDAA (R435). The I3C CCC RSTDAA resets the dynamic address. -/
  | rstdaa
  /-- ENEC (R439). The I3C CCC ENEC enables interrupts and re-raises pending ones. -/
  | enec (ev : BitVec 8)
  /-- DISEC (R439). The I3C CCC DISEC disables interrupts. -/
  | disec (ev : BitVec 8)
  /-- RSTACT (R435). The I3C CCC RSTACT requests a peripheral reset. -/
  | rstact (act : BitVec 8)
  /-- IBI_RETRY (R439). 100 us after a NACK a pending interrupt is raised again. -/
  | ibiRetry
  /-- FWUP_BEGIN (R446). BEGIN erases the inactive firmware slot. -/
  | fwupBegin (m : Master)
  /-- FWUP_VERIFY (R446). VERIFY reads the slot back and checks it. -/
  | fwupVerify (m : Master)
  /-- FWUP_ACTIVATE (R446). ACTIVATE verifies and sets the slot on trial. -/
  | fwupActivate (m : Master)
  /-- FWUP_CONFIRM (R447). CONFIRM makes the trial slot active and advances the rollback counter. -/
  | fwupConfirm (m : Master)
  /-- FWUP_ABORT (R446). ABORT clears a trial. -/
  | fwupAbort (m : Master)
  /-- FWUP_DATA_WRITE (R446). A write to FWUP DATA programs a word at ADDR, or completes BUSY. -/
  | fwupDataWrite (m : Master) (v : BitVec 32)
  /-- LC_TRANSITION (R451). LC.CMD burns the next lifecycle state or refuses it. -/
  | lcTransition (m : Master)
  /-- FAULT_EVENT (R457). The collector samples a source event and applies its reaction, capture and journal record. -/
  | faultEvent (src : Fin 512) (external : Option FaultInfo)
  /-- FAULT_INTEGRITY (R455). A pair illegal for four samples raises COLLECTOR_INTEGRITY and ignores the source. -/
  | faultIntegrity (src : Fin 512)
  /-- INTEGRITY_RECOVER (R455). After 1 ms of legal pairs the collector uses the source again. -/
  | integrityRecover (src : Fin 512)
  /-- CAPTURE_HANDLE (R463). A matching write-back of CAP0.SEQ frees the capture. -/
  | captureHandle (m : Master) (v : BitVec 32)
  /-- FAULT_FORCE (R467). FORCE makes a source signal one forced event. -/
  | faultForce (src : Fin 512)
  /-- FORCED_EVENT_END (R467). A forced event's 1 us hold ends. -/
  | forcedEventEnd (src : Fin 512)
  /-- FAULT_ESCALATE (R469). A forced event whose qualifier turns real applies REACT and fills the capture. -/
  | faultEscalate (src : Fin 512)
  /-- ALERT_TIMER (R466). After the 100 us gap the pending ERR_PIN events are sent in an ALERT. -/
  | alertTimer
  /-- ERRN_RELEASE (R465). ERR_N is released once its minimum 1 us has passed and no rule holds it. -/
  | errnRelease
  /-- BIST_INTERCONNECT (R474). CMD with KIND INTERCONNECT starts an interconnect pass. -/
  | bistInterconnect (cond : Conditions)
  /-- BIST_ANALOG (R476). CMD with KIND ANALOG runs analogue BIST or is refused. -/
  | bistAnalog (cond : Conditions) (failing : BitVec 4) (lanes : List (Fin 54)) (sensors : List (Fin 80))
  /-- BIST_ARRAY (R481). CMD with KIND ARRAY runs array BIST on a pseudo-channel, with or without PRESERVE. -/
  | bistArray (cond : Conditions)
  /-- BIST_ABORT (R483). ABORT ends an array BIST's save or test and goes to its restore. -/
  | bistAbort
  /-- IC_PASS_TIMER (R474). Every IC_PERIOD seconds an interconnect pass starts. -/
  | icPassTimer (cond : Conditions)
  /-- BIST_COND_CHECK (R473). Every 1 ms a running self-test checks QCLK and supplies, and aborts on failure. -/
  | bistCondCheck (cond : Conditions)
  /-- BIST_STEP_DONE (R481). A step of an array BIST run ends and the next one starts. -/
  | bistStepDone (failing : List FailCell)
  /-- MGMT_ACCESS (R555). JTAG Update-DR under MGMT_ACCESS starts a management access. -/
  | mgmtAccess (dr : BitVec 64)
  /-- DAWN_HOLD (R515). JTAG DAWN_HOLD holds Dawn before fabric discovery. -/
  | dawnHold
  /-- DAWN_RELEASE (R515). JTAG DAWN_RELEASE starts steps 9 and 10. -/
  | dawnRelease
  /-- STACK_SEL (R491). JTAG STACK_SEL gives IEEE 1838 access to a core die. -/
  | stackSel (dies : BitVec 16)
  /-- WRAP_SEL (R491). JTAG WRAP_SEL gives IEEE 1500 access to a Brim core. -/
  | wrapSel (core : Nat) (wsBypass cleared : Bool)
  /-- SCAN_ENTER (R488). JTAG SCAN_ENTER clears secrets, cuts the Crown and enables scan, or acts as BYPASS. -/
  | scanEnter (cleared : Bool)
  /-- OTP_READ (R492). An OTP READ command reads one word at both references. -/
  | otpRead (m : Master) (tight : BitVec 72)
  /-- OTP_PROG (R499). An OTP PROG command burns and verifies a word. -/
  | otpProg (m : Master) (cond : BurnConditions) (verified : Bool)
  /-- OTP_SEAL (R500). An OTP SEAL command computes and burns a region copy's digest. -/
  | otpSeal (m : Master) (cond : BurnConditions) (verified : Bool) (weak : List (Fin 2048))
  /-- OTP_REBURN (R501). An OTP REBURN command burns a word's programmed bits again. -/
  | otpReburn (m : Master) (cond : BurnConditions) (agree verified : Bool)
  /-- OTP_REDIRECT (R502). An OTP REDIRECT command moves a row to a spare row. -/
  | otpRedirect (m : Master) (cond : BurnConditions)
  /-- OTP_WEAK_POP (R492). POP removes the oldest weak-list entry. -/
  | otpWeakPop
  /-- BATT_STAGE_DATA (R61). An access to STAGE_DATA claims the buffer if free, moves a word and advances ADDR. -/
  | battStageData (m : Master) (write : Option (BitVec 32))
  /-- BATT_STAGE_ADDR (R61). An access to STAGE_ADDR claims the buffer if free and sets the offset. -/
  | battStageAddr (m : Master) (write : Option (BitVec 32))
  /-- BATT_RELEASE (R62). RELEASE by the owner frees the staging buffer. -/
  | battRelease (m : Master)
  /-- BATT_STAGE_TIMEOUT (R62). 10 s without an owner access frees the staging buffer. -/
  | battStageTimeout
  /-- BATT_VALIDATE (R57). VALIDATE checks the staged image and sets SCOPES. -/
  | battValidate (m : Master)
  /-- BATT_APPLY (R67). APPLY checks the staged image and quiesces the scopes that differ. -/
  | battApply (m : Master)
  /-- BATT_APPLY_STORE (R65). APPLY_STORE checks, stores to SPI NOR, then quiesces and applies. -/
  | battApplyStore (m : Master)
  /-- BATT_STORE_DONE (R65). The SPI NOR store ends and the command moves to quiescing, or ends with SPI_ERR. -/
  | battStoreDone (ok : Bool)
  /-- BATT_QUIESCE_DONE (R67). Every affected scope is quiesced and the new values take effect in one step. -/
  | battQuiesceDone
  /-- POWER_GOOD (R509). All supplies in range and RESET_N deasserted start Dawn. -/
  | powerGood (straps : BitVec 2)
  /-- RESET_ASSERT (R508). RESET_N asserts and the device abandons Dawn or service for step 0. -/
  | resetAssert
  /-- DAWN_STEP_END (R509). A Dawn step ends and the steps that depend on it start. -/
  | dawnStepEnd (k : Fin 11) (rep : StepReport)
  /-- PLL_LOCK_TIMEOUT (R519). A PLL not locked 1 ms after power-good stops Dawn. -/
  | pllLockTimeout
  /-- ZERO_FILL_DONE (R513). The zero-fill of the Crown ends and the pseudo-channels serve. -/
  | zeroFillDone
  /-- SERVE_NONDURABLE (R514). SERVE_NONDURABLE ends the Hatbox wait with a zero-fill and a non-durable Fuller. -/
  | serveNondurable
  /-- PERF_SNAP (R529). SNAP copies a unit's counters into its snapshot. -/
  | perfSnap (u : PerfUnit)
  /-- PERF_SNAP_ALL (R529). SNAP_ALL snapshots every unit and every SLOTS tally. -/
  | perfSnapAll
  /-- PERF_CLEAR (R528). CLEAR loads 0 into all nine counters of a unit. -/
  | perfClear (u : PerfUnit)
  /-- PERF_OVF_CLR (R527). OVF_CLR clears selected overflow bits. -/
  | perfOvfClr (u : PerfUnit) (bits : BitVec 9)
  /-- EVSEL_WRITE (R526). A write to EVSEL changes a counter's selection from the next cycle. -/
  | evselWrite (u : PerfUnit) (k : Fin 8) (v : BitVec 32)
  /-- MBX_TRANSFER_START (R546). A write to MBX_SEL with a selector claims the mailbox and latches the value. -/
  | mbxTransferStart (m : Master) (blk : BitVec 24) (v : BitVec 32)
  /-- MBX_RELEASE (R547). A write to MBX_SEL with selector 0 releases the claim. -/
  | mbxRelease (m : Master) (blk : BitVec 24)
  /-- MBX_COMMIT (R548). COMMIT writes the latched value into the WIDE field. -/
  | mbxCommit (m : Master) (blk : BitVec 24)
  /-- MBX_DATA_ACCESS (R545). An access to MBX_DATA moves one word and advances INDEX. -/
  | mbxDataAccess (m : Master) (blk : BitVec 24) (write : Option (BitVec 32))
  /-- MBX_CLAIM_TIMEOUT (R547). 1 ms without an owner access frees the mailbox. -/
  | mbxClaimTimeout (blk : BitVec 24)
  /-- REG_CROSSING_TIMEOUT (R543). A crossing not completed after 2 us completes with TIMEOUT. -/
  | regCrossingTimeout (m : Master) (addr : BitVec 24) (write : Option (BitVec 32))
  /-- DBG_LINE_READ (R556). GO in DBG.LINE.CTL reads one line with its metadata. -/
  | dbgLineRead
  /-- TRACE_RESET (R558). RESET in DBG.TRACE.CTL clears the pointers and OVF. -/
  | traceReset
  /-- FLIT_TRANSMIT (R98). At each flit time a port transmitter fills the flit's slots by VC order, carries ACK and a credit total, and sends NULL flits as required. -/
  | flitTransmit (port : Fin 6)
  /-- HB_LINK_UP (R361). A Hatbox link trains to L0 after insertion, Night exit or Dawn, and its port changes state. -/
  | hbLinkUp (n : Fin 2) (speed : BitVec 2) (wide : Bool) (usable : Bool) (cart : Cart)
  /-- POWER_UP (R395). VAUX rises from below its monitor range and the always-on registers are cleared or reset. -/
  | powerUp
  /-- SUPPLY_OVERVOLT (R564). A supply monitor reads above its range and raises its SUPPLY source only. -/
  | supplyOvervolt (rail : Fin 12)
  /-- CONTROLLER_FATAL_STATUS (R367). A cartridge controller sets CSTS.CFS and the device resets the controller. -/
  | controllerFatalStatus (n : Fin 2)
  /-- PCIE_ERROR_MESSAGE (R360). A Hatbox root port receives an AER error report, counts a correctable error or raises HB_LINK for an uncorrectable one. -/
  | pcieErrorMessage (n : Fin 2) (correctable : Bool)
  /-- INTERCONNECT_PASS_END (R474). An interconnect pass ends once its fabric eye scans and PCIe lane margining are done, and COVER, DURATION and the result are written. -/
  | interconnectPassEnd (failing : List LaneFault)
  /-- GETPID (R435). The I3C CCC GETPID returns the PID. -/
  | getpid
  /-- GETBCR (R435). The I3C CCC GETBCR returns the BCR. -/
  | getbcr
  /-- GETDCR (R435). The I3C CCC GETDCR returns the DCR. -/
  | getdcr
  /-- GETSTATUS (R435). The I3C CCC GETSTATUS returns the target status. -/
  | getstatus
  /-- GETMXDS (R435). The I3C CCC GETMXDS returns the maximum data speed. -/
  | getmxds
  /-- EXTEST (R490). JTAG EXTEST. -/
  | extest
  /-- IDCODE (R490). JTAG IDCODE. -/
  | idcode
  /-- SAMPLE_PRELOAD (R490). JTAG SAMPLE/PRELOAD. -/
  | samplePreload
  /-- EXTEST_PULSE (R490). JTAG EXTEST_PULSE. -/
  | extestPulse
  /-- EXTEST_TRAIN (R490). JTAG EXTEST_TRAIN. -/
  | extestTrain
  /-- CLAMP (R490). JTAG CLAMP. -/
  | clamp
  /-- HIGHZ (R490). JTAG HIGHZ. -/
  | highz
  /-- BYPASS (R490). JTAG BYPASS. -/
  | bypass
deriving DecidableEq, Repr

end Sys2Proof
end

