-- ==== Sys2Proof/Decode.lean ====
section
/-! DEFINITION. Decoding a table word. spec/opcode_table.json gives every row an empty list of fields: a command of
this block has no encoding, so no word spells one. -/
namespace Sys2Proof

/-- The command that a word of the table spells: none, whatever the word. -/
def decodeTableWord (_nbits _w : Nat) : Option Instr := none

end Sys2Proof
end

