-- ==== Sys2Proof/Config.lean ====
section
/-! DEFINITION. What the spec leaves to published standards or leaves open: opaque constants with no body, so that
no proof can see a value of them. -/
namespace Sys2Proof.Config

/-- SHA-384 of a byte string, byte 0 in bits [7:0] (R57, R577); a published standard the spec names only.
(DESIGN CHOICE, notes/assumptions/8.md) -/
opaque sha384 : List (BitVec 8) → BitVec 384

/-- The first 16 bytes of SHA-256 over a list of OTP words (R496); published standard. -/
opaque sha256Words : List (BitVec 64) → BitVec 128

/-- ECDSA P-384 verification: public key bytes, signed digest, signature bytes (R54, R442, R450); published
standard. -/
opaque ecdsaVerify : List (BitVec 8) → BitVec 384 → List (BitVec 8) → Bool

/-- The public key of the key pair derived from a root key with a given purpose (R450, R372); published standard. -/
opaque derivePublic : BitVec 256 → BitVec 768

/-- The UID that a device certificate names (R385); published standard. -/
opaque certUid : List (BitVec 8) → BitVec 64

/-- A free value: the estimate in microseconds that RVAL of a RETRY_LATER carries (R140, R482, R517), by the model's own
counter `State.free` and the reason. -/
opaque waitEstimate : (n reason : Nat) → BitVec 32

/-- A free value: the keystream of the training frames' PRBS13, whose polynomial the spec does not give (R78).
(DESIGN CHOICE, notes/assumptions/39.md) -/
opaque prbs13 : BitVec 112

/-- A free value: a position is beyond the limit of a transmitter tap (0 pre-cursor, 1 post-cursor), which the spec does
not give (R78). (DESIGN CHOICE, notes/assumptions/184.md) -/
opaque ffeLimit : (tap : Nat) → (position : Int) → Bool

/-- A free value: the trim target that a circuit's fused coefficient table gives at a temperature (R430).
(DESIGN CHOICE, notes/assumptions/167.md) -/
opaque trimTarget : (circuit : Nat) → (temp : BitVec 11) → Int

/-- A free value for bits the spec leaves open, applied to the model's own counter `State.free`. -/
opaque freeBits : Nat → BitVec 64

/-- A free value: the forecast of LIFE_DAYS where the forecast's growth is zero (R387).
(DESIGN CHOICE, notes/assumptions/166.md) -/
opaque lifeDays : Nat → BitVec 16

/-- The check bits of the OTP's (72,64) code, whose matrix the spec does not give (R493). -/
opaque otpEcc : BitVec 64 → BitVec 8

/-- What the OTP's code makes of a word whose check bits do not match: the corrected data, or none when the word is
uncorrectable (R493). -/
opaque otpCorrect : BitVec 72 → Option (BitVec 64)

/-- The DER certificate chain of CERT passes R450 for the identity key and the CA key hash; published standard. -/
opaque certChain : (cert : List (BitVec 8)) → (caHash : BitVec 384) → Option (BitVec 768)

/-- A free value: CLASS of the journal record of an event of a block that R448's list of classes does not name.
(DESIGN CHOICE, notes/assumptions/100.md) -/
opaque journalClass : (block : Nat) → BitVec 8

/-- The exporter's certificate that an import envelope is checked against is genuine (R386); published standard. -/
opaque exporterOk : BitVec 768 → Bool

/-- TOKEN holds a vendor signature over the device UID and "RETURN" (R451), checked against the vendor CA key hash;
published standard. -/
opaque returnToken : (caHash : BitVec 384) → (uid : Nat) → (token : Nat) → Bool

/-- A free value: the bytes of a journal record that R448's layout does not name (0x03, 0x16 and 0x17), by the record's SEQ. -/
opaque journalPad : (seq : BitVec 32) → BitVec 24

/-- HKDF-SHA-384 (RFC 5869) of a root key with CART_ID as salt and an info string, to 512 bits (R372); published
standard. -/
opaque hkdf : (root : BitVec 256) → (salt : BitVec 64) → (info : List (BitVec 8)) → BitVec 512

/-- AES-256 key wrap (RFC 3394) of a 512-bit key (R372, R385); published standard. -/
opaque keyWrap : (kek : BitVec 256) → (key : BitVec 512) → BitVec 576

/-- The first 8 bytes of the AES-256 encryption of a zero block (R372); published standard. -/
opaque aesCheck : (key : BitVec 256) → BitVec 64

/-- AES-256-XTS (IEEE 1619) of a data unit, by data key and tweak key together and the tweak (R373); published standard. -/
opaque xts : (key : BitVec 512) → (tweak : Nat) → List (BitVec 8) → List (BitVec 8)

/-- A free value: the ephemeral key of an export envelope, K wrapped under the secret it gives, and the signature (R385). -/
opaque envelopeBody : (target : BitVec 64) → (key : BitVec 512) → (signer : BitVec 768) → BitVec 2112

end Sys2Proof.Config
end

