-- ==== Sys2Proof/Machine/RegTable.lean ====
section
/-! DEFINITION. The register tables of the spec (every chapter's register section, R540, R541, R545): each field's
place, each register's reset word and what a software write may change of it. Named operations over them stand in
Machine/Ops.lean. -/
namespace Sys2Proof.Machine

/-- The place of a field: byte offset of its register in the block, low bit, width. -/
structure Fld where
  off : Nat
  lo : Nat
  len : Nat
deriving DecidableEq, Repr

/-- What the tables say of a register, or of an array of equal registers: offset, number, stride, reset word, and as
masks the CTL, GO and CNT fields, the SAT bit that a load of the counter clears, whether bits [7:0] are SEQ (R550), and the
fields that a write-back clears. -/
structure RegSpec where
  off : Nat
  count : Nat
  stride : Nat
  reset : Nat
  ctl : Nat
  go : Nat
  cnt : Nat
  sat : Nat
  seq : Bool
  clr : Nat
deriving DecidableEq, Repr

/-- The kinds of block of R540. -/
inductive Blk where
  | amap -- CHIP.AMAP
  | ecc -- CHIP.ECC
  | dawn -- CHIP.DAWN
  | owner -- CHIP.OWNER
  | chipId -- CHIP.ID
  | pc -- Qn.PCmmm
  | qme -- Qn.QME
  | fp -- FAB.FPn
  | txn -- FAB.TXN
  | rnode -- ROUTE.NODE
  | tbl -- ROUTE.TBL
  | sync -- ROUTE.SYNC
  | rport -- ROUTE.PORTn
  | fcore -- FULLER.CORE
  | rgn -- FULLER.RGN
  | mir -- FULLER.MIR
  | pf -- FULLER.PF
  | hctl -- HBOX.CTL
  | hb -- HBOX.HBn
  | key -- HBOX.KEY
  | rung -- PWR.RUNG
  | gov -- PWR.GOV
  | clk -- PWR.CLK
  | therm -- PWR.THERM
  | batt -- MGMT.BATT
  | core -- MGMT.CORE
  | i3c -- MGMT.I3C
  | fwup -- MGMT.FWUP
  | log -- MGMT.LOG
  | lc -- MGMT.LC
  | fault -- MGMT.FAULT
  | otp -- OTP.CTL
  | bist -- BIST.CTL
  | perf -- PERF.unit
  | pglobal -- PERF.GLOBAL
  | line -- DBG.LINE
  | trace -- DBG.TRACE
deriving DecidableEq, Repr

/-! ### Fields -/

abbrev AMAP.CFG.reg : Fld := ⟨0x0, 0, 32⟩
abbrev AMAP.CFG.MODE : Fld := ⟨0x0, 0, 2⟩
abbrev AMAP.CFG.BANK_HASH : Fld := ⟨0x0, 2, 1⟩
abbrev AMAP.CFG.SHADOW_GIB : Fld := ⟨0x0, 8, 5⟩
abbrev AMAP.CFG.REGIONS : Fld := ⟨0x0, 16, 7⟩
abbrev AMAP.XLATE_ADDR_LO.reg : Fld := ⟨0x10, 0, 32⟩
abbrev AMAP.XLATE_ADDR_LO.ADDR_LO : Fld := ⟨0x10, 0, 32⟩
abbrev AMAP.XLATE_ADDR_HI.reg : Fld := ⟨0x14, 0, 32⟩
abbrev AMAP.XLATE_ADDR_HI.ADDR_HI : Fld := ⟨0x14, 0, 5⟩
abbrev AMAP.XLATE_CTL.reg : Fld := ⟨0x18, 0, 32⟩
abbrev AMAP.XLATE_CTL.GO : Fld := ⟨0x18, 0, 1⟩
abbrev AMAP.XLATE_RES0.reg : Fld := ⟨0x20, 0, 32⟩
abbrev AMAP.XLATE_RES0.PC : Fld := ⟨0x20, 0, 7⟩
abbrev AMAP.XLATE_RES0.TIER : Fld := ⟨0x20, 7, 1⟩
abbrev AMAP.XLATE_RES0.QUAD : Fld := ⟨0x20, 8, 2⟩
abbrev AMAP.XLATE_RES0.CH : Fld := ⟨0x20, 10, 6⟩
abbrev AMAP.XLATE_RES0.BG : Fld := ⟨0x20, 16, 2⟩
abbrev AMAP.XLATE_RES0.BK : Fld := ⟨0x20, 18, 3⟩
abbrev AMAP.XLATE_RES0.COL : Fld := ⟨0x20, 21, 5⟩
abbrev AMAP.XLATE_RES0.VALID : Fld := ⟨0x20, 31, 1⟩
abbrev AMAP.XLATE_RES1.reg : Fld := ⟨0x24, 0, 32⟩
abbrev AMAP.XLATE_RES1.ROW : Fld := ⟨0x24, 0, 14⟩
abbrev AMAP.XLATE_RES1.REGION : Fld := ⟨0x24, 14, 6⟩
abbrev AMAP.XLATE_RES1.CLASS : Fld := ⟨0x24, 20, 2⟩
abbrev AMAP.XLATE_RES1.SHADOW : Fld := ⟨0x24, 22, 1⟩
abbrev AMAP.XLATE_RES1.UNMAPPED : Fld := ⟨0x24, 23, 1⟩
abbrev ECC.TIER0.reg : Fld := ⟨0x0, 0, 32⟩
abbrev ECC.TIER0.ERASED : Fld := ⟨0x0, 0, 1⟩
abbrev ECC.TIER0.DIE : Fld := ⟨0x0, 1, 3⟩
abbrev ECC.TIER0.SOURCE : Fld := ⟨0x0, 4, 2⟩
abbrev ECC.TIER0.FORCE : Fld := ⟨0x0, 6, 1⟩
abbrev ECC.TIER0.FORCE_DIE : Fld := ⟨0x0, 7, 3⟩
abbrev ECC.TIER0.CLEAR : Fld := ⟨0x0, 10, 1⟩
abbrev ECC.TIER0.STRIKES : Fld := ⟨0x0, 12, 4⟩
abbrev ECC.TIER1.reg : Fld := ⟨0x4, 0, 32⟩
abbrev ECC.TIER1.ERASED : Fld := ⟨0x4, 0, 1⟩
abbrev ECC.TIER1.DIE : Fld := ⟨0x4, 1, 3⟩
abbrev ECC.TIER1.SOURCE : Fld := ⟨0x4, 4, 2⟩
abbrev ECC.TIER1.FORCE : Fld := ⟨0x4, 6, 1⟩
abbrev ECC.TIER1.FORCE_DIE : Fld := ⟨0x4, 7, 3⟩
abbrev ECC.TIER1.CLEAR : Fld := ⟨0x4, 10, 1⟩
abbrev ECC.TIER1.STRIKES : Fld := ⟨0x4, 12, 4⟩
abbrev ECC.CFG.reg : Fld := ⟨0x8, 0, 32⟩
abbrev ECC.CFG.DIE_STRIKES : Fld := ⟨0x8, 0, 4⟩
abbrev ECC.CFG.ROW_STRIKES : Fld := ⟨0x8, 4, 4⟩
abbrev ECC.CFG.COL_STRIKES : Fld := ⟨0x8, 8, 6⟩
abbrev ECC.INJ_ADDR_LO.reg : Fld := ⟨0x10, 0, 32⟩
abbrev ECC.INJ_ADDR_LO.ADDR : Fld := ⟨0x10, 0, 32⟩
abbrev ECC.INJ_ADDR_HI.reg : Fld := ⟨0x14, 0, 32⟩
abbrev ECC.INJ_ADDR_HI.ADDR : Fld := ⟨0x14, 0, 5⟩
abbrev ECC.INJ_CTL.reg : Fld := ⟨0x18, 0, 32⟩
abbrev ECC.INJ_CTL.ARM : Fld := ⟨0x18, 0, 1⟩
abbrev ECC.INJ_CTL.STAGE : Fld := ⟨0x18, 1, 2⟩
abbrev ECC.INJ_STATUS.reg : Fld := ⟨0x1c, 0, 32⟩
abbrev ECC.INJ_STATUS.SEQ : Fld := ⟨0x1c, 0, 8⟩
abbrev ECC.INJ_STATUS.FIRED : Fld := ⟨0x1c, 8, 1⟩
abbrev ECC.INJ_STATUS.PATH : Fld := ⟨0x1c, 9, 2⟩
abbrev ECC.INJ_STATUS.RETRY_OK : Fld := ⟨0x1c, 11, 1⟩
abbrev ECC.INJ_STATUS.RESULT : Fld := ⟨0x1c, 12, 2⟩
abbrev ECC.CAND0.reg : Fld := ⟨0x20, 0, 32⟩
abbrev ECC.CAND0.DIE : Fld := ⟨0x20, 0, 4⟩
abbrev ECC.CAND0.PC : Fld := ⟨0x20, 4, 7⟩
abbrev ECC.CAND0.BANK : Fld := ⟨0x20, 11, 5⟩
abbrev ECC.CAND0.TYPE : Fld := ⟨0x20, 16, 1⟩
abbrev ECC.CAND0.VALID : Fld := ⟨0x20, 31, 1⟩
abbrev ECC.CAND1.reg : Fld := ⟨0x24, 0, 32⟩
abbrev ECC.CAND1.INDEX : Fld := ⟨0x24, 0, 14⟩
abbrev ECC.CAND1.COUNT : Fld := ⟨0x24, 14, 7⟩
abbrev ECC.CAND_CTL.reg : Fld := ⟨0x28, 0, 32⟩
abbrev ECC.CAND_CTL.POP : Fld := ⟨0x28, 0, 1⟩
abbrev ECC.FUSE_CMD.reg : Fld := ⟨0x30, 0, 32⟩
abbrev ECC.FUSE_CMD.GO : Fld := ⟨0x30, 0, 1⟩
abbrev ECC.FUSE_CMD.TYPE : Fld := ⟨0x30, 1, 1⟩
abbrev ECC.FUSE_CMD.DIE : Fld := ⟨0x30, 2, 4⟩
abbrev ECC.FUSE_CMD.PC : Fld := ⟨0x30, 6, 7⟩
abbrev ECC.FUSE_CMD.BANK : Fld := ⟨0x30, 13, 5⟩
abbrev ECC.FUSE_ARG.reg : Fld := ⟨0x34, 0, 32⟩
abbrev ECC.FUSE_ARG.INDEX : Fld := ⟨0x34, 0, 14⟩
abbrev ECC.FUSE_STATUS.reg : Fld := ⟨0x38, 0, 32⟩
abbrev ECC.FUSE_STATUS.SEQ : Fld := ⟨0x38, 0, 8⟩
abbrev ECC.FUSE_STATUS.STATE : Fld := ⟨0x38, 8, 1⟩
abbrev ECC.FUSE_STATUS.RESULT : Fld := ⟨0x38, 9, 3⟩
abbrev ECC.FUSE_STATUS.SPARES_LEFT : Fld := ⟨0x38, 12, 4⟩
abbrev ECC.CAND_DROP.reg : Fld := ⟨0x40, 0, 32⟩
abbrev ECC.CAND_DROP.COUNT : Fld := ⟨0x40, 0, 16⟩
abbrev ECC.CAND_DROP.SAT : Fld := ⟨0x40, 31, 1⟩
abbrev DAWN.STATUS.reg : Fld := ⟨0x0, 0, 32⟩
abbrev DAWN.STATUS.SEQ : Fld := ⟨0x0, 0, 8⟩
abbrev DAWN.STATUS.DONE : Fld := ⟨0x0, 8, 10⟩
abbrev DAWN.STATUS.PHASE : Fld := ⟨0x0, 18, 3⟩
abbrev DAWN.STATUS.EVENT : Fld := ⟨0x0, 22, 4⟩
abbrev DAWN.STATUS.FAILSTEP : Fld := ⟨0x0, 26, 4⟩
abbrev DAWN.TIME0.reg : Fld := ⟨0x4, 0, 32⟩
abbrev DAWN.TIME0.FIRMWARE : Fld := ⟨0x4, 0, 16⟩
abbrev DAWN.TIME0.BATT : Fld := ⟨0x4, 16, 16⟩
abbrev DAWN.TIME1.reg : Fld := ⟨0x8, 0, 32⟩
abbrev DAWN.TIME1.FABRIC : Fld := ⟨0x8, 0, 16⟩
abbrev DAWN.TIME1.READY : Fld := ⟨0x8, 16, 16⟩
abbrev DAWN.COUNT.reg : Fld := ⟨0xc, 0, 32⟩
abbrev DAWN.COUNT.COUNT : Fld := ⟨0xc, 0, 32⟩
abbrev DAWN.CTL.reg : Fld := ⟨0x10, 0, 32⟩
abbrev DAWN.CTL.SERVE_NONDURABLE : Fld := ⟨0x10, 0, 1⟩
abbrev OWNER.OWN.reg : Fld := ⟨0x0, 0, 32⟩
abbrev OWNER.OWN.OWN0 : Fld := ⟨0x0, 0, 4⟩
abbrev OWNER.OWN.OWN1 : Fld := ⟨0x0, 4, 4⟩
abbrev OWNER.OWN.OWN2 : Fld := ⟨0x0, 8, 4⟩
abbrev OWNER.OWN.OWN3 : Fld := ⟨0x0, 12, 4⟩
abbrev OWNER.OWN.OWN4 : Fld := ⟨0x0, 16, 4⟩
abbrev OWNER.OWN.OWN5 : Fld := ⟨0x0, 20, 4⟩
abbrev OWNER.OWN.OWN6 : Fld := ⟨0x0, 24, 4⟩
abbrev OWNER.OWN.OWN7 : Fld := ⟨0x0, 28, 4⟩
abbrev CHIPID.IDCODE.reg : Fld := ⟨0x0, 0, 32⟩
abbrev CHIPID.IDCODE.IDCODE : Fld := ⟨0x0, 0, 32⟩
abbrev CHIPID.REV.reg : Fld := ⟨0x4, 0, 32⟩
abbrev CHIPID.REV.STEPPING : Fld := ⟨0x4, 0, 4⟩
abbrev CHIPID.SCRATCH.reg : Fld := ⟨0x8, 0, 32⟩
abbrev CHIPID.SCRATCH.VALUE : Fld := ⟨0x8, 0, 32⟩
abbrev PC.CFG.reg : Fld := ⟨0x0, 0, 32⟩
abbrev PC.CFG.PAGE_HOLD : Fld := ⟨0x0, 0, 6⟩
abbrev PC.CFG.WDRAIN_HI : Fld := ⟨0x0, 8, 7⟩
abbrev PC.CFG.WDRAIN_LO : Fld := ⟨0x0, 16, 7⟩
abbrev PC.TIMING0.reg : Fld := ⟨0x10, 0, 32⟩
abbrev PC.TIMING0.TRCD : Fld := ⟨0x10, 0, 8⟩
abbrev PC.TIMING0.TCL : Fld := ⟨0x10, 8, 8⟩
abbrev PC.TIMING0.TRP : Fld := ⟨0x10, 16, 8⟩
abbrev PC.TIMING0.TRAS : Fld := ⟨0x10, 24, 8⟩
abbrev PC.TIMING1.reg : Fld := ⟨0x14, 0, 32⟩
abbrev PC.TIMING1.TRC : Fld := ⟨0x14, 0, 8⟩
abbrev PC.TIMING1.TRRD_S : Fld := ⟨0x14, 8, 8⟩
abbrev PC.TIMING1.TRRD_L : Fld := ⟨0x14, 16, 8⟩
abbrev PC.TIMING1.TFAW : Fld := ⟨0x14, 24, 8⟩
abbrev PC.TIMING2.reg : Fld := ⟨0x18, 0, 32⟩
abbrev PC.TIMING2.TRTP : Fld := ⟨0x18, 0, 8⟩
abbrev PC.TIMING2.TWR : Fld := ⟨0x18, 8, 8⟩
abbrev PC.TIMING2.TCWL : Fld := ⟨0x18, 16, 8⟩
abbrev PC.TIMING2.TRTW : Fld := ⟨0x18, 24, 8⟩
abbrev PC.TIMING3.reg : Fld := ⟨0x1c, 0, 32⟩
abbrev PC.TIMING3.TWTR_S : Fld := ⟨0x1c, 0, 8⟩
abbrev PC.TIMING3.TWTR_L : Fld := ⟨0x1c, 8, 8⟩
abbrev PC.TIMING3.TCCD_S : Fld := ⟨0x1c, 16, 8⟩
abbrev PC.TIMING3.TCCD_L : Fld := ⟨0x1c, 24, 8⟩
abbrev PC.ARB.reg : Fld := ⟨0x20, 0, 32⟩
abbrev PC.ARB.L0_SHARE : Fld := ⟨0x20, 0, 6⟩
abbrev PC.ARB.L1_WEIGHT : Fld := ⟨0x20, 8, 4⟩
abbrev PC.ARB.L2_WEIGHT : Fld := ⟨0x20, 12, 4⟩
abbrev PC.ARB.L0_DEPTH : Fld := ⟨0x20, 16, 4⟩
abbrev PC.ARB.RATE : Fld := ⟨0x20, 20, 2⟩
abbrev PC.ARB.CAPPED : Fld := ⟨0x20, 22, 1⟩
abbrev PC.SVC.reg : Fld := ⟨0x24, 0, 32⟩
abbrev PC.SVC.TAKE_OUT : Fld := ⟨0x24, 0, 1⟩
abbrev PC.SVC.REJOIN : Fld := ⟨0x24, 1, 1⟩
abbrev PC.SVC.INIT_DONE : Fld := ⟨0x24, 2, 1⟩
abbrev PC.STATUS.reg : Fld := ⟨0x28, 0, 32⟩
abbrev PC.STATUS.SEQ : Fld := ⟨0x28, 0, 8⟩
abbrev PC.STATUS.STATE : Fld := ⟨0x28, 8, 3⟩
abbrev PC.STATUS.EVENT : Fld := ⟨0x28, 12, 4⟩
abbrev PC.OCC.reg : Fld := ⟨0x2c, 0, 32⟩
abbrev PC.OCC.L0 : Fld := ⟨0x2c, 0, 4⟩
abbrev PC.OCC.L1 : Fld := ⟨0x2c, 4, 6⟩
abbrev PC.OCC.WQ : Fld := ⟨0x2c, 10, 7⟩
abbrev PC.OCC.MERGE : Fld := ⟨0x2c, 17, 5⟩
abbrev PC.OCC.L2 : Fld := ⟨0x2c, 22, 5⟩
abbrev PC.INORDER.reg : Fld := ⟨0x30, 0, 32⟩
abbrev PC.INORDER.BANKS : Fld := ⟨0x30, 0, 32⟩
abbrev PC.DEMOTE_SHARE.reg : Fld := ⟨0x40, 0, 32⟩
abbrev PC.DEMOTE_SHARE.COUNT : Fld := ⟨0x40, 0, 16⟩
abbrev PC.DEMOTE_SHARE.SAT : Fld := ⟨0x40, 31, 1⟩
abbrev PC.DEMOTE_DEPTH.reg : Fld := ⟨0x44, 0, 32⟩
abbrev PC.DEMOTE_DEPTH.COUNT : Fld := ⟨0x44, 0, 16⟩
abbrev PC.DEMOTE_DEPTH.SAT : Fld := ⟨0x44, 31, 1⟩
abbrev PC.DEMOTE_BANK.reg : Fld := ⟨0x48, 0, 32⟩
abbrev PC.DEMOTE_BANK.COUNT : Fld := ⟨0x48, 0, 16⟩
abbrev PC.DEMOTE_BANK.SAT : Fld := ⟨0x48, 31, 1⟩
abbrev PC.DEMOTE_ROW.reg : Fld := ⟨0x4c, 0, 32⟩
abbrev PC.DEMOTE_ROW.COUNT : Fld := ⟨0x4c, 0, 16⟩
abbrev PC.DEMOTE_ROW.SAT : Fld := ⟨0x4c, 31, 1⟩
abbrev PC.INORDER_ENTER.reg : Fld := ⟨0x50, 0, 32⟩
abbrev PC.INORDER_ENTER.COUNT : Fld := ⟨0x50, 0, 16⟩
abbrev PC.INORDER_ENTER.SAT : Fld := ⟨0x50, 31, 1⟩
abbrev PC.RMW.reg : Fld := ⟨0x54, 0, 32⟩
abbrev PC.RMW.COUNT : Fld := ⟨0x54, 0, 16⟩
abbrev PC.RMW.SAT : Fld := ⟨0x54, 31, 1⟩
abbrev PC.MERGE_HIT.reg : Fld := ⟨0x58, 0, 32⟩
abbrev PC.MERGE_HIT.COUNT : Fld := ⟨0x58, 0, 16⟩
abbrev PC.MERGE_HIT.SAT : Fld := ⟨0x58, 31, 1⟩
abbrev PC.BACKPRESSURE_RETRY.reg : Fld := ⟨0x5c, 0, 32⟩
abbrev PC.BACKPRESSURE_RETRY.COUNT : Fld := ⟨0x5c, 0, 16⟩
abbrev PC.BACKPRESSURE_RETRY.SAT : Fld := ⟨0x5c, 31, 1⟩
abbrev PC.REF_CFG.reg : Fld := ⟨0x80, 0, 32⟩
abbrev PC.REF_CFG.TRFCPB : Fld := ⟨0x80, 0, 8⟩
abbrev PC.REF_CFG.TRFCMU : Fld := ⟨0x80, 8, 8⟩
abbrev PC.REF_CFG.URGENT : Fld := ⟨0x80, 16, 4⟩
abbrev PC.REF_CFG.FORCE_HOT : Fld := ⟨0x80, 20, 1⟩
abbrev PC.REF_STATUS.reg : Fld := ⟨0x84, 0, 32⟩
abbrev PC.REF_STATUS.SEQ : Fld := ⟨0x84, 0, 8⟩
abbrev PC.REF_STATUS.BAND : Fld := ⟨0x84, 8, 1⟩
abbrev PC.REF_STATUS.FORCED : Fld := ⟨0x84, 9, 1⟩
abbrev PC.REF_STATUS.EVENT : Fld := ⟨0x84, 12, 4⟩
abbrev PC.REF_STATUS.MAXDEBT : Fld := ⟨0x84, 16, 5⟩
abbrev PC.REF_TEMP.reg : Fld := ⟨0x88, 0, 32⟩
abbrev PC.REF_TEMP.TEMP : Fld := ⟨0x88, 0, 8⟩
abbrev PC.REF_TEMP.DIE : Fld := ⟨0x88, 8, 3⟩
abbrev PC.REF_TEMP.FALLBACK : Fld := ⟨0x88, 11, 1⟩
abbrev PC.REF_DEBT.reg : Fld := ⟨0x90, 0, 32⟩
abbrev PC.REF_DEBT.DEBT0 : Fld := ⟨0x90, 0, 5⟩
abbrev PC.REF_DEBT.DEBT1 : Fld := ⟨0x90, 8, 5⟩
abbrev PC.REF_DEBT.DEBT2 : Fld := ⟨0x90, 16, 5⟩
abbrev PC.REF_DEBT.DEBT3 : Fld := ⟨0x90, 24, 5⟩
abbrev PC.REF_URGENT.reg : Fld := ⟨0xb0, 0, 32⟩
abbrev PC.REF_URGENT.COUNT : Fld := ⟨0xb0, 0, 16⟩
abbrev PC.REF_URGENT.SAT : Fld := ⟨0xb0, 31, 1⟩
abbrev PC.REF_CAP.reg : Fld := ⟨0xb4, 0, 32⟩
abbrev PC.REF_CAP.COUNT : Fld := ⟨0xb4, 0, 16⟩
abbrev PC.REF_CAP.SAT : Fld := ⟨0xb4, 31, 1⟩
abbrev PC.REF_FORCED_EVT.reg : Fld := ⟨0xb8, 0, 32⟩
abbrev PC.REF_FORCED_EVT.COUNT : Fld := ⟨0xb8, 0, 16⟩
abbrev PC.REF_FORCED_EVT.SAT : Fld := ⟨0xb8, 31, 1⟩
abbrev PC.REF_MU_CMD.reg : Fld := ⟨0xbc, 0, 32⟩
abbrev PC.REF_MU_CMD.COUNT : Fld := ⟨0xbc, 0, 16⟩
abbrev PC.REF_MU_CMD.SAT : Fld := ⟨0xbc, 31, 1⟩
abbrev PC.REF_L0_WAIT.reg : Fld := ⟨0xc0, 0, 32⟩
abbrev PC.REF_L0_WAIT.COUNT : Fld := ⟨0xc0, 0, 16⟩
abbrev PC.REF_L0_WAIT.SAT : Fld := ⟨0xc0, 31, 1⟩
abbrev PC.ECC_CFG.reg : Fld := ⟨0x100, 0, 32⟩
abbrev PC.ECC_CFG.REVISIT_EN : Fld := ⟨0x100, 0, 1⟩
abbrev PC.ECC_CFG.WB_EN : Fld := ⟨0x100, 1, 1⟩
abbrev PC.ECC_CFG.LANE_STRIKES : Fld := ⟨0x100, 2, 6⟩
abbrev PC.ECC_CTL.reg : Fld := ⟨0x104, 0, 32⟩
abbrev PC.ECC_CTL.REPAIR_GO : Fld := ⟨0x104, 0, 1⟩
abbrev PC.ECC_CTL.REPAIR_LANE : Fld := ⟨0x104, 1, 6⟩
abbrev PC.ECC_CTL.WALK_RESTART : Fld := ⟨0x104, 7, 1⟩
abbrev PC.CARDER.reg : Fld := ⟨0x108, 0, 32⟩
abbrev PC.CARDER.WALK_PTR : Fld := ⟨0x108, 0, 19⟩
abbrev PC.CARDER.PAUSED : Fld := ⟨0x108, 19, 1⟩
abbrev PC.CARDER.LAG : Fld := ⟨0x108, 20, 1⟩
abbrev PC.CARDER.DQ : Fld := ⟨0x108, 21, 6⟩
abbrev PC.CARDER.RVQ : Fld := ⟨0x108, 27, 4⟩
abbrev PC.LANE_REPAIR.reg : Fld := ⟨0x10c, 0, 32⟩
abbrev PC.LANE_REPAIR.ASSIGN0 : Fld := ⟨0x10c, 0, 4⟩
abbrev PC.LANE_REPAIR.ASSIGN1 : Fld := ⟨0x10c, 8, 4⟩
abbrev PC.LANE_REPAIR.ASSIGN2 : Fld := ⟨0x10c, 16, 4⟩
abbrev PC.LANE_REPAIR.ASSIGN3 : Fld := ⟨0x10c, 24, 4⟩
abbrev PC.LANE_REPAIR.SOURCE0 : Fld := ⟨0x10c, 4, 2⟩
abbrev PC.LANE_REPAIR.SOURCE1 : Fld := ⟨0x10c, 12, 2⟩
abbrev PC.LANE_REPAIR.SOURCE2 : Fld := ⟨0x10c, 20, 2⟩
abbrev PC.LANE_REPAIR.SOURCE3 : Fld := ⟨0x10c, 28, 2⟩
abbrev PC.ERASED_LO.reg : Fld := ⟨0x110, 0, 32⟩
abbrev PC.ERASED_LO.LANES : Fld := ⟨0x110, 0, 32⟩
abbrev PC.ERASED_HI.reg : Fld := ⟨0x114, 0, 32⟩
abbrev PC.ERASED_HI.LANES : Fld := ⟨0x114, 0, 8⟩
abbrev PC.ECC_LOG.reg : Fld := ⟨0x118, 0, 32⟩
abbrev PC.ECC_LOG.SEQ : Fld := ⟨0x118, 0, 8⟩
abbrev PC.ECC_LOG.EVENT : Fld := ⟨0x118, 8, 4⟩
abbrev PC.ECC_LOG.DIE : Fld := ⟨0x118, 12, 3⟩
abbrev PC.ECC_LOG.NSYM : Fld := ⟨0x118, 15, 4⟩
abbrev PC.ECC_LOG.LANE : Fld := ⟨0x118, 19, 6⟩
abbrev PC.ECC_LOG_LINE.reg : Fld := ⟨0x11c, 0, 32⟩
abbrev PC.ECC_LOG_LINE.LINE : Fld := ⟨0x11c, 0, 31⟩
abbrev PC.CE_LINE.reg : Fld := ⟨0x120, 0, 32⟩
abbrev PC.CE_LINE.COUNT : Fld := ⟨0x120, 0, 16⟩
abbrev PC.CE_LINE.SAT : Fld := ⟨0x120, 31, 1⟩
abbrev PC.UE_LINE.reg : Fld := ⟨0x124, 0, 32⟩
abbrev PC.UE_LINE.COUNT : Fld := ⟨0x124, 0, 16⟩
abbrev PC.UE_LINE.SAT : Fld := ⟨0x124, 31, 1⟩
abbrev PC.RETRY_OK.reg : Fld := ⟨0x128, 0, 32⟩
abbrev PC.RETRY_OK.COUNT : Fld := ⟨0x128, 0, 16⟩
abbrev PC.RETRY_OK.SAT : Fld := ⟨0x128, 31, 1⟩
abbrev PC.HEALED.reg : Fld := ⟨0x12c, 0, 32⟩
abbrev PC.HEALED.COUNT : Fld := ⟨0x12c, 0, 16⟩
abbrev PC.HEALED.SAT : Fld := ⟨0x12c, 31, 1⟩
abbrev PC.POISONED.reg : Fld := ⟨0x130, 0, 32⟩
abbrev PC.POISONED.COUNT : Fld := ⟨0x130, 0, 16⟩
abbrev PC.POISONED.SAT : Fld := ⟨0x130, 31, 1⟩
abbrev PC.CARDER_WB.reg : Fld := ⟨0x134, 0, 32⟩
abbrev PC.CARDER_WB.COUNT : Fld := ⟨0x134, 0, 16⟩
abbrev PC.CARDER_WB.SAT : Fld := ⟨0x134, 31, 1⟩
abbrev PC.WB_DROP.reg : Fld := ⟨0x138, 0, 32⟩
abbrev PC.WB_DROP.COUNT : Fld := ⟨0x138, 0, 16⟩
abbrev PC.WB_DROP.SAT : Fld := ⟨0x138, 31, 1⟩
abbrev PC.REVISIT_DROP.reg : Fld := ⟨0x13c, 0, 32⟩
abbrev PC.REVISIT_DROP.COUNT : Fld := ⟨0x13c, 0, 16⟩
abbrev PC.REVISIT_DROP.SAT : Fld := ⟨0x13c, 31, 1⟩
abbrev PC.CARDER_WALKS.reg : Fld := ⟨0x140, 0, 32⟩
abbrev PC.CARDER_WALKS.COUNT : Fld := ⟨0x140, 0, 16⟩
abbrev PC.CARDER_WALKS.SAT : Fld := ⟨0x140, 31, 1⟩
abbrev PC.DIE_SYMERR.reg : Fld := ⟨0x150, 0, 32⟩
abbrev PC.DIE_SYMERR.COUNT : Fld := ⟨0x150, 0, 16⟩
abbrev PC.DIE_SYMERR.SAT : Fld := ⟨0x150, 31, 1⟩
abbrev PC.CAL_CTL.reg : Fld := ⟨0x180, 0, 32⟩
abbrev PC.CAL_CTL.LIVE_EN : Fld := ⟨0x180, 0, 1⟩
abbrev PC.CAL_CTL.PATTERN_EN : Fld := ⟨0x180, 1, 1⟩
abbrev PC.CAL_CTL.RETRAIN : Fld := ⟨0x180, 2, 1⟩
abbrev PC.CAL_CTL.FULL_TRAIN : Fld := ⟨0x180, 3, 1⟩
abbrev PC.CAL_STATUS.reg : Fld := ⟨0x184, 0, 32⟩
abbrev PC.CAL_STATUS.SEQ : Fld := ⟨0x184, 0, 8⟩
abbrev PC.CAL_STATUS.MODE : Fld := ⟨0x184, 8, 2⟩
abbrev PC.CAL_STATUS.GROUP : Fld := ⟨0x184, 10, 4⟩
abbrev PC.CAL_STATUS.DIR : Fld := ⟨0x184, 14, 1⟩
abbrev PC.CAL_STATUS.ASSIST : Fld := ⟨0x184, 15, 1⟩
abbrev PC.CAL_STATUS.PAIRS_LIVE : Fld := ⟨0x184, 16, 4⟩
abbrev PC.CAL_STATUS.EVENT : Fld := ⟨0x184, 20, 4⟩
abbrev PC.CAL_STATUS.LANE : Fld := ⟨0x184, 24, 6⟩
abbrev PC.CAL_RESULT.reg : Fld := ⟨0x190, 0, 32⟩
abbrev PC.CAL_RESULT.PASS : Fld := ⟨0x190, 0, 16⟩
abbrev PC.CAL_RESULT.WIDTH : Fld := ⟨0x190, 16, 6⟩
abbrev PC.CAL_RESULT.JUMP : Fld := ⟨0x190, 22, 5⟩
abbrev PC.CAL_RESULT.OUTCOME : Fld := ⟨0x190, 27, 2⟩
abbrev PC.CAL_RESULT.DRIFT : Fld := ⟨0x190, 29, 1⟩
abbrev PC.CAL_WINDOW.reg : Fld := ⟨0x1a0, 0, 32⟩
abbrev PC.CAL_WINDOW.TRANS : Fld := ⟨0x1a0, 0, 16⟩
abbrev PC.CAL_WINDOW.STARVED : Fld := ⟨0x1a0, 16, 8⟩
abbrev PC.CAL_WINDOW.BURSTS : Fld := ⟨0x1a0, 24, 8⟩
abbrev PC.CAL_OVR.reg : Fld := ⟨0x1a4, 0, 32⟩
abbrev PC.CAL_OVR.LANE : Fld := ⟨0x1a4, 0, 6⟩
abbrev PC.CAL_OVR.DIR : Fld := ⟨0x1a4, 6, 1⟩
abbrev PC.CAL_OVR.VALUE : Fld := ⟨0x1a4, 7, 7⟩
abbrev PC.CAL_OVR.GO : Fld := ⟨0x1a4, 14, 1⟩
abbrev PC.CAL_ACCEPT.reg : Fld := ⟨0x1c0, 0, 32⟩
abbrev PC.CAL_ACCEPT.COUNT : Fld := ⟨0x1c0, 0, 16⟩
abbrev PC.CAL_ACCEPT.SAT : Fld := ⟨0x1c0, 31, 1⟩
abbrev PC.CAL_REJECT.reg : Fld := ⟨0x1c4, 0, 32⟩
abbrev PC.CAL_REJECT.COUNT : Fld := ⟨0x1c4, 0, 16⟩
abbrev PC.CAL_REJECT.SAT : Fld := ⟨0x1c4, 31, 1⟩
abbrev PC.CAL_STARVED.reg : Fld := ⟨0x1c8, 0, 32⟩
abbrev PC.CAL_STARVED.COUNT : Fld := ⟨0x1c8, 0, 16⟩
abbrev PC.CAL_STARVED.SAT : Fld := ⟨0x1c8, 31, 1⟩
abbrev PC.CAL_BURST.reg : Fld := ⟨0x1cc, 0, 32⟩
abbrev PC.CAL_BURST.COUNT : Fld := ⟨0x1cc, 0, 16⟩
abbrev PC.CAL_BURST.SAT : Fld := ⟨0x1cc, 31, 1⟩
abbrev PC.CAL_ABANDON.reg : Fld := ⟨0x1d0, 0, 32⟩
abbrev PC.CAL_ABANDON.COUNT : Fld := ⟨0x1d0, 0, 16⟩
abbrev PC.CAL_ABANDON.SAT : Fld := ⟨0x1d0, 31, 1⟩
abbrev PC.CAL_PATTERN_SLOT.reg : Fld := ⟨0x1d4, 0, 32⟩
abbrev PC.CAL_PATTERN_SLOT.COUNT : Fld := ⟨0x1d4, 0, 16⟩
abbrev PC.CAL_PATTERN_SLOT.SAT : Fld := ⟨0x1d4, 31, 1⟩
abbrev PC.CAL_DISCARD.reg : Fld := ⟨0x1d8, 0, 32⟩
abbrev PC.CAL_DISCARD.COUNT : Fld := ⟨0x1d8, 0, 16⟩
abbrev PC.CAL_DISCARD.SAT : Fld := ⟨0x1d8, 31, 1⟩
abbrev PC.LANEDLY.reg : Fld := ⟨0x200, 0, 32⟩
abbrev PC.LANEDLY.RDLY : Fld := ⟨0x200, 0, 7⟩
abbrev PC.LANEDLY.WDLY : Fld := ⟨0x200, 8, 7⟩
abbrev PC.LANEDLY.RREJ : Fld := ⟨0x200, 16, 2⟩
abbrev PC.LANEDLY.WREJ : Fld := ⟨0x200, 18, 2⟩
abbrev PC.LANEDLY.STATE : Fld := ⟨0x200, 20, 2⟩
abbrev PC.LANEDLY.ABANDON : Fld := ⟨0x200, 22, 2⟩
abbrev QME.CAL_CFG.reg : Fld := ⟨0x0, 0, 32⟩
abbrev QME.CAL_CFG.SCRAMBLE : Fld := ⟨0x0, 0, 1⟩
abbrev QME.CAL_CFG.SPARE_CAL : Fld := ⟨0x0, 1, 1⟩
abbrev QME.CAL_CFG.DRIFT_STEPS : Fld := ⟨0x0, 2, 4⟩
abbrev QME.TRAIN.reg : Fld := ⟨0x4, 0, 32⟩
abbrev QME.TRAIN.SEQ : Fld := ⟨0x4, 0, 8⟩
abbrev QME.TRAIN.POINT : Fld := ⟨0x4, 8, 2⟩
abbrev QME.TRAIN.PENDING : Fld := ⟨0x4, 10, 1⟩
abbrev QME.TRAIN.PENDING_POINT : Fld := ⟨0x4, 11, 2⟩
abbrev QME.TRAIN.TRAINING : Fld := ⟨0x4, 16, 6⟩
abbrev QME.TRAIN.EVENT : Fld := ⟨0x4, 22, 4⟩
abbrev QME.SLOT.reg : Fld := ⟨0x8, 0, 32⟩
abbrev QME.SLOT.PC : Fld := ⟨0x8, 0, 5⟩
abbrev QME.SLOT.PREEMPTED : Fld := ⟨0x8, 5, 1⟩
abbrev QME.SLOT.WAITING : Fld := ⟨0x8, 6, 6⟩
abbrev QME.PREEMPT.reg : Fld := ⟨0x10, 0, 32⟩
abbrev QME.PREEMPT.COUNT : Fld := ⟨0x10, 0, 16⟩
abbrev QME.PREEMPT.SAT : Fld := ⟨0x10, 31, 1⟩
abbrev FP.CFG.reg : Fld := ⟨0x0, 0, 32⟩
abbrev FP.CFG.RETRAIN : Fld := ⟨0x0, 0, 1⟩
abbrev FP.CFG.FULL_TRAIN : Fld := ⟨0x0, 1, 1⟩
abbrev FP.CFG.LANE_RETRY : Fld := ⟨0x0, 2, 1⟩
abbrev FP.CFG.ROTATE_EN : Fld := ⟨0x0, 3, 1⟩
abbrev FP.CFG.ROLE : Fld := ⟨0x0, 8, 2⟩
abbrev FP.CFG.RATE_CAP : Fld := ⟨0x0, 10, 1⟩
abbrev FP.STATUS.reg : Fld := ⟨0x4, 0, 32⟩
abbrev FP.STATUS.SEQ : Fld := ⟨0x4, 0, 8⟩
abbrev FP.STATUS.STATE : Fld := ⟨0x4, 8, 3⟩
abbrev FP.STATUS.RATE : Fld := ⟨0x4, 11, 1⟩
abbrev FP.STATUS.TX_WIDTH : Fld := ⟨0x4, 12, 2⟩
abbrev FP.STATUS.RX_WIDTH : Fld := ⟨0x4, 14, 2⟩
abbrev FP.STATUS.RX_SPARE : Fld := ⟨0x4, 16, 2⟩
abbrev FP.STATUS.TX_SPARE : Fld := ⟨0x4, 18, 2⟩
abbrev FP.STATUS.RX_SHADOW_LL : Fld := ⟨0x4, 20, 3⟩
abbrev FP.STATUS.FALLBACK : Fld := ⟨0x4, 23, 1⟩
abbrev FP.STATUS.EVENT : Fld := ⟨0x4, 24, 4⟩
abbrev FP.RX_LANE_MAP.reg : Fld := ⟨0x8, 0, 32⟩
abbrev FP.RX_LANE_MAP.MAP : Fld := ⟨0x8, 0, 32⟩
abbrev FP.TX_LANE_MAP.reg : Fld := ⟨0xc, 0, 32⟩
abbrev FP.TX_LANE_MAP.MAP : Fld := ⟨0xc, 0, 32⟩
abbrev FP.RX_LANE_STATE.reg : Fld := ⟨0x10, 0, 32⟩
abbrev FP.RX_LANE_STATE.STATE : Fld := ⟨0x10, 0, 18⟩
abbrev FP.RX_LANE_STATE.POL : Fld := ⟨0x10, 18, 9⟩
abbrev FP.LINK_SEQ.reg : Fld := ⟨0x14, 0, 32⟩
abbrev FP.LINK_SEQ.RX_EXPECTED : Fld := ⟨0x14, 0, 12⟩
abbrev FP.LINK_SEQ.TX_ACKED : Fld := ⟨0x14, 16, 12⟩
abbrev FP.REPLAY_OCC.reg : Fld := ⟨0x18, 0, 32⟩
abbrev FP.REPLAY_OCC.OCC : Fld := ⟨0x18, 0, 10⟩
abbrev FP.RX_FEC_CORR.reg : Fld := ⟨0x20, 0, 32⟩
abbrev FP.RX_FEC_CORR.COUNT : Fld := ⟨0x20, 0, 16⟩
abbrev FP.RX_FEC_CORR.SAT : Fld := ⟨0x20, 31, 1⟩
abbrev FP.RX_CRC_ERR.reg : Fld := ⟨0x24, 0, 32⟩
abbrev FP.RX_CRC_ERR.COUNT : Fld := ⟨0x24, 0, 16⟩
abbrev FP.RX_CRC_ERR.SAT : Fld := ⟨0x24, 31, 1⟩
abbrev FP.RX_SEQ_ERR.reg : Fld := ⟨0x28, 0, 32⟩
abbrev FP.RX_SEQ_ERR.COUNT : Fld := ⟨0x28, 0, 16⟩
abbrev FP.RX_SEQ_ERR.SAT : Fld := ⟨0x28, 31, 1⟩
abbrev FP.NAK_TX.reg : Fld := ⟨0x2c, 0, 32⟩
abbrev FP.NAK_TX.COUNT : Fld := ⟨0x2c, 0, 16⟩
abbrev FP.NAK_TX.SAT : Fld := ⟨0x2c, 31, 1⟩
abbrev FP.NAK_RX.reg : Fld := ⟨0x30, 0, 32⟩
abbrev FP.NAK_RX.COUNT : Fld := ⟨0x30, 0, 16⟩
abbrev FP.NAK_RX.SAT : Fld := ⟨0x30, 31, 1⟩
abbrev FP.REPLAY_TIMEOUT.reg : Fld := ⟨0x34, 0, 32⟩
abbrev FP.REPLAY_TIMEOUT.COUNT : Fld := ⟨0x34, 0, 16⟩
abbrev FP.REPLAY_TIMEOUT.SAT : Fld := ⟨0x34, 31, 1⟩
abbrev FP.RECOVERY.reg : Fld := ⟨0x38, 0, 32⟩
abbrev FP.RECOVERY.COUNT : Fld := ⟨0x38, 0, 16⟩
abbrev FP.RECOVERY.SAT : Fld := ⟨0x38, 31, 1⟩
abbrev FP.LANE_TAKEOVER.reg : Fld := ⟨0x3c, 0, 32⟩
abbrev FP.LANE_TAKEOVER.COUNT : Fld := ⟨0x3c, 0, 16⟩
abbrev FP.LANE_TAKEOVER.SAT : Fld := ⟨0x3c, 31, 1⟩
abbrev FP.LANE_SYMERR.reg : Fld := ⟨0x40, 0, 32⟩
abbrev FP.LANE_SYMERR.COUNT : Fld := ⟨0x40, 0, 16⟩
abbrev FP.LANE_SYMERR.SAT : Fld := ⟨0x40, 31, 1⟩
abbrev FP.CREDIT_REQ.reg : Fld := ⟨0x70, 0, 32⟩
abbrev FP.CREDIT_REQ.PEER_ADV : Fld := ⟨0x70, 0, 10⟩
abbrev FP.CREDIT_REQ.HELD : Fld := ⟨0x70, 16, 10⟩
abbrev FP.CREDIT_RSP.reg : Fld := ⟨0x74, 0, 32⟩
abbrev FP.CREDIT_RSP.PEER_ADV : Fld := ⟨0x74, 0, 10⟩
abbrev FP.CREDIT_RSP.HELD : Fld := ⟨0x74, 16, 10⟩
abbrev FP.CREDIT_MGT.reg : Fld := ⟨0x78, 0, 32⟩
abbrev FP.CREDIT_MGT.PEER_ADV : Fld := ⟨0x78, 0, 10⟩
abbrev FP.CREDIT_MGT.HELD : Fld := ⟨0x78, 16, 10⟩
abbrev FP.CREDIT_PER.reg : Fld := ⟨0x7c, 0, 32⟩
abbrev FP.CREDIT_PER.PEER_ADV : Fld := ⟨0x7c, 0, 10⟩
abbrev FP.CREDIT_PER.HELD : Fld := ⟨0x7c, 16, 10⟩
abbrev TXN.CFG.reg : Fld := ⟨0x0, 0, 32⟩
abbrev TXN.CFG.OUTCOME_EN : Fld := ⟨0x0, 0, 1⟩
abbrev TXN.STATUS.reg : Fld := ⟨0x4, 0, 32⟩
abbrev TXN.STATUS.SEQ : Fld := ⟨0x4, 0, 8⟩
abbrev TXN.STATUS.EVENT : Fld := ⟨0x4, 8, 4⟩
abbrev TXN.STATUS.NODE : Fld := ⟨0x4, 12, 12⟩
abbrev TXN.UNSUPPORTED_TX.reg : Fld := ⟨0x10, 0, 32⟩
abbrev TXN.UNSUPPORTED_TX.COUNT : Fld := ⟨0x10, 0, 16⟩
abbrev TXN.UNSUPPORTED_TX.SAT : Fld := ⟨0x10, 31, 1⟩
abbrev TXN.HOLD_DISCARD.reg : Fld := ⟨0x14, 0, 32⟩
abbrev TXN.HOLD_DISCARD.COUNT : Fld := ⟨0x14, 0, 16⟩
abbrev TXN.HOLD_DISCARD.SAT : Fld := ⟨0x14, 31, 1⟩
abbrev TXN.STALE_DROP.reg : Fld := ⟨0x18, 0, 32⟩
abbrev TXN.STALE_DROP.COUNT : Fld := ⟨0x18, 0, 16⟩
abbrev TXN.STALE_DROP.SAT : Fld := ⟨0x18, 31, 1⟩
abbrev TXN.RETRY_TX.reg : Fld := ⟨0x1c, 0, 32⟩
abbrev TXN.RETRY_TX.COUNT : Fld := ⟨0x1c, 0, 16⟩
abbrev TXN.RETRY_TX.SAT : Fld := ⟨0x1c, 31, 1⟩
abbrev TXN.POISON_TX.reg : Fld := ⟨0x20, 0, 32⟩
abbrev TXN.POISON_TX.COUNT : Fld := ⟨0x20, 0, 16⟩
abbrev TXN.POISON_TX.SAT : Fld := ⟨0x20, 31, 1⟩
abbrev TXN.OUTCOME_SRC.reg : Fld := ⟨0x100, 0, 32⟩
abbrev TXN.OUTCOME_SRC.NODE : Fld := ⟨0x100, 0, 12⟩
abbrev TXN.OUTCOME_SRC.VALID : Fld := ⟨0x100, 12, 1⟩
abbrev TXN.OUTCOME_SRC.RELEASE : Fld := ⟨0x100, 13, 1⟩
abbrev NODE.ID.reg : Fld := ⟨0x0, 0, 32⟩
abbrev NODE.ID.NODE : Fld := ⟨0x0, 0, 12⟩
abbrev NODE.ID.POLICY : Fld := ⟨0x0, 12, 1⟩
abbrev NODE.STATUS.reg : Fld := ⟨0x4, 0, 32⟩
abbrev NODE.STATUS.SEQ : Fld := ⟨0x4, 0, 8⟩
abbrev NODE.STATUS.EVENT : Fld := ⟨0x4, 8, 4⟩
abbrev NODE.STATUS.PORT : Fld := ⟨0x4, 12, 3⟩
abbrev TBL.SEL.reg : Fld := ⟨0x0, 0, 32⟩
abbrev TBL.SEL.INDEX : Fld := ⟨0x0, 0, 12⟩
abbrev TBL.SEL.BANK : Fld := ⟨0x0, 12, 1⟩
abbrev TBL.SEL.AUTOINC : Fld := ⟨0x0, 13, 1⟩
abbrev TBL.ENTRY.reg : Fld := ⟨0x4, 0, 32⟩
abbrev TBL.ENTRY.PRI : Fld := ⟨0x4, 0, 3⟩
abbrev TBL.ENTRY.ALT : Fld := ⟨0x4, 3, 3⟩
abbrev TBL.ENTRY.LIMIT : Fld := ⟨0x4, 6, 4⟩
abbrev TBL.ENTRY.LEARNED : Fld := ⟨0x4, 10, 1⟩
abbrev TBL.GEN.reg : Fld := ⟨0x8, 0, 32⟩
abbrev TBL.GEN.GEN : Fld := ⟨0x8, 0, 16⟩
abbrev TBL.GEN.ACTIVE_BANK : Fld := ⟨0x8, 16, 1⟩
abbrev TBL.SWITCH.reg : Fld := ⟨0xc, 0, 32⟩
abbrev TBL.SWITCH.NEW_GEN : Fld := ⟨0xc, 0, 16⟩
abbrev TBL.SWITCH.GO : Fld := ⟨0xc, 16, 1⟩
abbrev TBL.SWITCH.CLEAR_LEARNED : Fld := ⟨0xc, 17, 1⟩
abbrev TBL.UNREACH_TX.reg : Fld := ⟨0x10, 0, 32⟩
abbrev TBL.UNREACH_TX.COUNT : Fld := ⟨0x10, 0, 16⟩
abbrev TBL.UNREACH_TX.SAT : Fld := ⟨0x10, 31, 1⟩
abbrev TBL.HOP_EXPIRE.reg : Fld := ⟨0x14, 0, 32⟩
abbrev TBL.HOP_EXPIRE.COUNT : Fld := ⟨0x14, 0, 16⟩
abbrev TBL.HOP_EXPIRE.SAT : Fld := ⟨0x14, 31, 1⟩
abbrev TBL.RSP_DROP.reg : Fld := ⟨0x18, 0, 32⟩
abbrev TBL.RSP_DROP.COUNT : Fld := ⟨0x18, 0, 16⟩
abbrev TBL.RSP_DROP.SAT : Fld := ⟨0x18, 31, 1⟩
abbrev TBL.TURN_DROP.reg : Fld := ⟨0x1c, 0, 32⟩
abbrev TBL.TURN_DROP.COUNT : Fld := ⟨0x1c, 0, 16⟩
abbrev TBL.TURN_DROP.SAT : Fld := ⟨0x1c, 31, 1⟩
abbrev TBL.BCAST_DUP.reg : Fld := ⟨0x20, 0, 32⟩
abbrev TBL.BCAST_DUP.COUNT : Fld := ⟨0x20, 0, 16⟩
abbrev TBL.BCAST_DUP.SAT : Fld := ⟨0x20, 31, 1⟩
abbrev SYNC.CFG.reg : Fld := ⟨0x0, 0, 32⟩
abbrev SYNC.CFG.ROOT : Fld := ⟨0x0, 0, 1⟩
abbrev SYNC.CFG.ROOT_NODE : Fld := ⟨0x0, 1, 12⟩
abbrev SYNC.STATUS.reg : Fld := ⟨0x4, 0, 32⟩
abbrev SYNC.STATUS.OFFSET : Fld := ⟨0x4, 0, 16⟩
abbrev SYNC.STATUS.LOCKED : Fld := ⟨0x4, 16, 1⟩
abbrev RPORT.CFG.reg : Fld := ⟨0x0, 0, 32⟩
abbrev RPORT.CFG.DIR : Fld := ⟨0x0, 0, 2⟩
abbrev RPORT.CFG.ACCEPT : Fld := ⟨0x0, 2, 1⟩
abbrev RPORT.CFG.LEARN_EN : Fld := ⟨0x0, 3, 1⟩
abbrev RPORT.NBR.reg : Fld := ⟨0x4, 0, 32⟩
abbrev RPORT.NBR.NODE : Fld := ⟨0x4, 0, 12⟩
abbrev RPORT.NBR.PORT : Fld := ⟨0x4, 12, 3⟩
abbrev RPORT.NBR.KIND : Fld := ⟨0x4, 15, 2⟩
abbrev RPORT.NBR.DIR : Fld := ⟨0x4, 17, 2⟩
abbrev RPORT.NBR.HEARD : Fld := ⟨0x4, 19, 1⟩
abbrev RPORT.NBR.ROUTABLE : Fld := ⟨0x4, 20, 1⟩
abbrev RPORT.NBR.MISMATCH : Fld := ⟨0x4, 21, 1⟩
abbrev RPORT.NBR_GEN.reg : Fld := ⟨0x8, 0, 32⟩
abbrev RPORT.NBR_GEN.GEN : Fld := ⟨0x8, 0, 16⟩
abbrev FULLER.CFG.reg : Fld := ⟨0x0, 0, 32⟩
abbrev FULLER.CFG.DIRTY_BUDGET : Fld := ⟨0x0, 0, 6⟩
abbrev FULLER.CFG.DESTAGE_CAP : Fld := ⟨0x0, 8, 7⟩
abbrev FULLER.CFG.HOLDUP_J : Fld := ⟨0x0, 16, 8⟩
abbrev FULLER.CFG.HOLDUP_EFF : Fld := ⟨0x0, 24, 7⟩
abbrev FULLER.CTL.reg : Fld := ⟨0x4, 0, 32⟩
abbrev FULLER.CTL.COW_STALL_MAX : Fld := ⟨0x4, 0, 4⟩
abbrev FULLER.CTL.MIR_POLICY : Fld := ⟨0x4, 4, 1⟩
abbrev FULLER.CTL.MIR_TMO : Fld := ⟨0x4, 5, 4⟩
abbrev FULLER.CTL.TRICKLE_EN : Fld := ⟨0x4, 9, 1⟩
abbrev FULLER.STATUS.reg : Fld := ⟨0x8, 0, 32⟩
abbrev FULLER.STATUS.SEQ : Fld := ⟨0x8, 0, 8⟩
abbrev FULLER.STATUS.STATE : Fld := ⟨0x8, 8, 2⟩
abbrev FULLER.STATUS.NONDURABLE : Fld := ⟨0x8, 10, 1⟩
abbrev FULLER.STATUS.BP : Fld := ⟨0x8, 11, 1⟩
abbrev FULLER.STATUS.UNCAPPED : Fld := ⟨0x8, 12, 1⟩
abbrev FULLER.STATUS.STALL : Fld := ⟨0x8, 13, 1⟩
abbrev FULLER.STATUS.SEAL_DEFERRED : Fld := ⟨0x8, 14, 1⟩
abbrev FULLER.STATUS.LABEL : Fld := ⟨0x8, 16, 2⟩
abbrev FULLER.STATUS.EVENT : Fld := ⟨0x8, 20, 4⟩
abbrev FULLER.DIRTY.reg : Fld := ⟨0xc, 0, 32⟩
abbrev FULLER.DIRTY.UNITS : Fld := ⟨0xc, 0, 26⟩
abbrev FULLER.SHADOW.reg : Fld := ⟨0x10, 0, 32⟩
abbrev FULLER.SHADOW.BLOCKS : Fld := ⟨0x10, 0, 23⟩
abbrev FULLER.EPOCH_OPEN.reg : Fld := ⟨0x14, 0, 32⟩
abbrev FULLER.EPOCH_OPEN.EPOCH : Fld := ⟨0x14, 0, 32⟩
abbrev FULLER.EPOCH_SEALED.reg : Fld := ⟨0x18, 0, 32⟩
abbrev FULLER.EPOCH_SEALED.EPOCH : Fld := ⟨0x18, 0, 32⟩
abbrev FULLER.EPOCH_DURABLE.reg : Fld := ⟨0x1c, 0, 32⟩
abbrev FULLER.EPOCH_DURABLE.EPOCH : Fld := ⟨0x1c, 0, 32⟩
abbrev FULLER.CMD.reg : Fld := ⟨0x20, 0, 32⟩
abbrev FULLER.CMD.GO : Fld := ⟨0x20, 0, 1⟩
abbrev FULLER.CMD.OP : Fld := ⟨0x20, 1, 2⟩
abbrev FULLER.CMD.REGION : Fld := ⟨0x20, 3, 6⟩
abbrev FULLER.CMD_STATUS.reg : Fld := ⟨0x24, 0, 32⟩
abbrev FULLER.CMD_STATUS.SEQ : Fld := ⟨0x24, 0, 8⟩
abbrev FULLER.CMD_STATUS.RUNNING : Fld := ⟨0x24, 8, 1⟩
abbrev FULLER.CMD_STATUS.RESULT : Fld := ⟨0x24, 9, 3⟩
abbrev FULLER.SEED.reg : Fld := ⟨0x28, 0, 32⟩
abbrev FULLER.SEED.UNITS : Fld := ⟨0x28, 0, 26⟩
abbrev FULLER.COW_READ.reg : Fld := ⟨0x40, 0, 32⟩
abbrev FULLER.COW_READ.COUNT : Fld := ⟨0x40, 0, 16⟩
abbrev FULLER.COW_READ.SAT : Fld := ⟨0x40, 31, 1⟩
abbrev FULLER.COW_COPY.reg : Fld := ⟨0x44, 0, 32⟩
abbrev FULLER.COW_COPY.COUNT : Fld := ⟨0x44, 0, 16⟩
abbrev FULLER.COW_COPY.SAT : Fld := ⟨0x44, 31, 1⟩
abbrev FULLER.COW_STALL.reg : Fld := ⟨0x48, 0, 32⟩
abbrev FULLER.COW_STALL.COUNT : Fld := ⟨0x48, 0, 16⟩
abbrev FULLER.COW_STALL.SAT : Fld := ⟨0x48, 31, 1⟩
abbrev FULLER.BP_HOLD.reg : Fld := ⟨0x4c, 0, 32⟩
abbrev FULLER.BP_HOLD.COUNT : Fld := ⟨0x4c, 0, 16⟩
abbrev FULLER.BP_HOLD.SAT : Fld := ⟨0x4c, 31, 1⟩
abbrev FULLER.FOLD.reg : Fld := ⟨0x50, 0, 32⟩
abbrev FULLER.FOLD.COUNT : Fld := ⟨0x50, 0, 16⟩
abbrev FULLER.FOLD.SAT : Fld := ⟨0x50, 31, 1⟩
abbrev FULLER.SEAL.reg : Fld := ⟨0x54, 0, 32⟩
abbrev FULLER.SEAL.COUNT : Fld := ⟨0x54, 0, 16⟩
abbrev FULLER.SEAL.SAT : Fld := ⟨0x54, 31, 1⟩
abbrev FULLER.DESTAGE_UNIT.reg : Fld := ⟨0x58, 0, 32⟩
abbrev FULLER.DESTAGE_UNIT.COUNT : Fld := ⟨0x58, 0, 16⟩
abbrev FULLER.DESTAGE_UNIT.SAT : Fld := ⟨0x58, 31, 1⟩
abbrev FULLER.MIR_BREAK.reg : Fld := ⟨0x5c, 0, 32⟩
abbrev FULLER.MIR_BREAK.COUNT : Fld := ⟨0x5c, 0, 16⟩
abbrev FULLER.MIR_BREAK.SAT : Fld := ⟨0x5c, 31, 1⟩
abbrev FULLER.HEAL_READ.reg : Fld := ⟨0x60, 0, 32⟩
abbrev FULLER.HEAL_READ.COUNT : Fld := ⟨0x60, 0, 16⟩
abbrev FULLER.HEAL_READ.SAT : Fld := ⟨0x60, 31, 1⟩
abbrev RGN.SPAN.reg : Fld := ⟨0x0, 0, 32⟩
abbrev RGN.SPAN.BASE : Fld := ⟨0x0, 0, 13⟩
abbrev RGN.SPAN.LAST : Fld := ⟨0x0, 16, 13⟩
abbrev RGN.SPAN.VALID : Fld := ⟨0x0, 31, 1⟩
abbrev RGN.ATTR.reg : Fld := ⟨0x4, 0, 32⟩
abbrev RGN.ATTR.CLASS : Fld := ⟨0x4, 0, 2⟩
abbrev RGN.ATTR.SEAL_ON_PF : Fld := ⟨0x4, 2, 1⟩
abbrev RGN.ATTR.MIRROR_NODE : Fld := ⟨0x4, 4, 12⟩
abbrev MIR.STATUS.reg : Fld := ⟨0x0, 0, 32⟩
abbrev MIR.STATUS.STATE : Fld := ⟨0x0, 0, 2⟩
abbrev MIR.STATUS.RESYNC : Fld := ⟨0x0, 2, 1⟩
abbrev MIR.STATUS.CHUNKS : Fld := ⟨0x0, 3, 21⟩
abbrev PF.CFG.reg : Fld := ⟨0x0, 0, 32⟩
abbrev PF.CFG.UNSAVED_POISON : Fld := ⟨0x0, 0, 1⟩
abbrev PF.HOLDUP.reg : Fld := ⟨0x4, 0, 32⟩
abbrev PF.HOLDUP.AUDIT : Fld := ⟨0x4, 0, 10⟩
abbrev PF.HOLDUP.LIVE : Fld := ⟨0x4, 10, 10⟩
abbrev PF.HOLDUP.EFF : Fld := ⟨0x4, 20, 6⟩
abbrev PF.HOLDUP.SHORT : Fld := ⟨0x4, 26, 1⟩
abbrev PF.HOLDUP.CRITICAL : Fld := ⟨0x4, 27, 1⟩
abbrev PF.STATUS.reg : Fld := ⟨0x8, 0, 32⟩
abbrev PF.STATUS.SEQ : Fld := ⟨0x8, 0, 8⟩
abbrev PF.STATUS.PHASE : Fld := ⟨0x8, 8, 4⟩
abbrev PF.STATUS.CAUSE : Fld := ⟨0x8, 12, 2⟩
abbrev PF.STATUS.EVENT : Fld := ⟨0x8, 16, 4⟩
abbrev PF.PF_LAST.reg : Fld := ⟨0xc, 0, 32⟩
abbrev PF.PF_LAST.DURATION : Fld := ⟨0xc, 0, 20⟩
abbrev PF.PF_LAST.REMAIN : Fld := ⟨0xc, 20, 10⟩
abbrev PF.PF_LAST.COMPLETE : Fld := ⟨0xc, 30, 1⟩
abbrev PF.RST_STATUS.reg : Fld := ⟨0x10, 0, 32⟩
abbrev PF.RST_STATUS.SEQ : Fld := ⟨0x10, 0, 8⟩
abbrev PF.RST_STATUS.PHASE : Fld := ⟨0x10, 8, 2⟩
abbrev PF.RST_STATUS.MIDNIGHT : Fld := ⟨0x10, 10, 1⟩
abbrev PF.RST_STATUS.OUTCOME : Fld := ⟨0x10, 12, 3⟩
abbrev PF.RST_STATUS.EVENT : Fld := ⟨0x10, 16, 4⟩
abbrev PF.RST_PROGRESS.reg : Fld := ⟨0x14, 0, 32⟩
abbrev PF.RST_PROGRESS.UNITS : Fld := ⟨0x14, 0, 26⟩
abbrev PF.RST_TIME.reg : Fld := ⟨0x18, 0, 32⟩
abbrev PF.RST_TIME.START_MS : Fld := ⟨0x18, 0, 16⟩
abbrev PF.RST_TIME.DONE_MS : Fld := ⟨0x18, 16, 16⟩
abbrev PF.RST_EPOCH.reg : Fld := ⟨0x1c, 0, 32⟩
abbrev PF.RST_EPOCH.EPOCH : Fld := ⟨0x1c, 0, 32⟩
abbrev PF.RST_PF_EPOCH.reg : Fld := ⟨0x20, 0, 32⟩
abbrev PF.RST_PF_EPOCH.EPOCH : Fld := ⟨0x20, 0, 32⟩
abbrev PF.UNSAVED0.reg : Fld := ⟨0x24, 0, 32⟩
abbrev PF.UNSAVED0.START : Fld := ⟨0x24, 0, 25⟩
abbrev PF.UNSAVED0.VALID : Fld := ⟨0x24, 31, 1⟩
abbrev PF.UNSAVED1.reg : Fld := ⟨0x28, 0, 32⟩
abbrev PF.UNSAVED1.LENGTH : Fld := ⟨0x28, 0, 25⟩
abbrev PF.UNSAVED1.REGION : Fld := ⟨0x28, 25, 6⟩
abbrev PF.UNSAVED1.UNKNOWN : Fld := ⟨0x28, 31, 1⟩
abbrev PF.UNSAVED_CTL.reg : Fld := ⟨0x2c, 0, 32⟩
abbrev PF.UNSAVED_CTL.POP : Fld := ⟨0x2c, 0, 1⟩
abbrev PF.UNSAVED_CTL.COUNT : Fld := ⟨0x2c, 1, 9⟩
abbrev PF.PF_FLUSH.reg : Fld := ⟨0x40, 0, 32⟩
abbrev PF.PF_FLUSH.COUNT : Fld := ⟨0x40, 0, 16⟩
abbrev PF.PF_FLUSH.SAT : Fld := ⟨0x40, 31, 1⟩
abbrev PF.FAULTIN.reg : Fld := ⟨0x44, 0, 32⟩
abbrev PF.FAULTIN.COUNT : Fld := ⟨0x44, 0, 16⟩
abbrev PF.FAULTIN.SAT : Fld := ⟨0x44, 31, 1⟩
abbrev PF.FAULTIN_FULL.reg : Fld := ⟨0x48, 0, 32⟩
abbrev PF.FAULTIN_FULL.COUNT : Fld := ⟨0x48, 0, 16⟩
abbrev PF.FAULTIN_FULL.SAT : Fld := ⟨0x48, 31, 1⟩
abbrev PF.RESTORE_POISON.reg : Fld := ⟨0x4c, 0, 32⟩
abbrev PF.RESTORE_POISON.COUNT : Fld := ⟨0x4c, 0, 16⟩
abbrev PF.RESTORE_POISON.SAT : Fld := ⟨0x4c, 31, 1⟩
abbrev HCTL.CFG.reg : Fld := ⟨0x0, 0, 32⟩
abbrev HCTL.CFG.MODE : Fld := ⟨0x0, 0, 2⟩
abbrev HCTL.CFG.RESYNC_CAP : Fld := ⟨0x0, 8, 7⟩
abbrev HB.CTL.reg : Fld := ⟨0x0, 0, 32⟩
abbrev HB.CTL.PAIR : Fld := ⟨0x0, 0, 1⟩
abbrev HB.CTL.EJECT : Fld := ⟨0x0, 1, 1⟩
abbrev HB.CTL.ERASE_OK : Fld := ⟨0x0, 2, 1⟩
abbrev HB.CTL.FORCE : Fld := ⟨0x0, 3, 1⟩
abbrev HB.STATUS.reg : Fld := ⟨0x4, 0, 32⟩
abbrev HB.STATUS.SEQ : Fld := ⟨0x4, 0, 8⟩
abbrev HB.STATUS.STATE : Fld := ⟨0x4, 8, 4⟩
abbrev HB.STATUS.MEMBER : Fld := ⟨0x4, 12, 1⟩
abbrev HB.STATUS.SPEED : Fld := ⟨0x4, 13, 2⟩
abbrev HB.STATUS.DEGRADED : Fld := ⟨0x4, 15, 1⟩
abbrev HB.STATUS.EVENT : Fld := ⟨0x4, 16, 4⟩
abbrev HB.STATUS.RESULT : Fld := ⟨0x4, 20, 3⟩
abbrev HB.PAIR_GEN.reg : Fld := ⟨0x8, 0, 32⟩
abbrev HB.PAIR_GEN.GEN : Fld := ⟨0x8, 0, 32⟩
abbrev HB.WEAR.reg : Fld := ⟨0xc, 0, 32⟩
abbrev HB.WEAR.USED : Fld := ⟨0xc, 0, 8⟩
abbrev HB.WEAR.WARN : Fld := ⟨0xc, 8, 1⟩
abbrev HB.WEAR.WORN : Fld := ⟨0xc, 9, 1⟩
abbrev HB.WEAR.LIFE_DAYS : Fld := ⟨0xc, 16, 16⟩
abbrev HB.RESYNC.reg : Fld := ⟨0x10, 0, 32⟩
abbrev HB.RESYNC.UNITS : Fld := ⟨0x10, 0, 26⟩
abbrev HB.CMD_TIMEOUT.reg : Fld := ⟨0x40, 0, 32⟩
abbrev HB.CMD_TIMEOUT.COUNT : Fld := ⟨0x40, 0, 16⟩
abbrev HB.CMD_TIMEOUT.SAT : Fld := ⟨0x40, 31, 1⟩
abbrev HB.CTRL_RESET.reg : Fld := ⟨0x44, 0, 32⟩
abbrev HB.CTRL_RESET.COUNT : Fld := ⟨0x44, 0, 16⟩
abbrev HB.CTRL_RESET.SAT : Fld := ⟨0x44, 31, 1⟩
abbrev HB.READ_ERR.reg : Fld := ⟨0x48, 0, 32⟩
abbrev HB.READ_ERR.COUNT : Fld := ⟨0x48, 0, 16⟩
abbrev HB.READ_ERR.SAT : Fld := ⟨0x48, 31, 1⟩
abbrev HB.WRITE_ERR.reg : Fld := ⟨0x4c, 0, 32⟩
abbrev HB.WRITE_ERR.COUNT : Fld := ⟨0x4c, 0, 16⟩
abbrev HB.WRITE_ERR.SAT : Fld := ⟨0x4c, 31, 1⟩
abbrev HB.AER_CORR.reg : Fld := ⟨0x50, 0, 32⟩
abbrev HB.AER_CORR.COUNT : Fld := ⟨0x50, 0, 16⟩
abbrev HB.AER_CORR.SAT : Fld := ⟨0x50, 31, 1⟩
abbrev HB.MERGE.reg : Fld := ⟨0x54, 0, 32⟩
abbrev HB.MERGE.COUNT : Fld := ⟨0x54, 0, 16⟩
abbrev HB.MERGE.SAT : Fld := ⟨0x54, 31, 1⟩
abbrev HB.CLEAN_SEG.reg : Fld := ⟨0x58, 0, 32⟩
abbrev HB.CLEAN_SEG.COUNT : Fld := ⟨0x58, 0, 16⟩
abbrev HB.CLEAN_SEG.SAT : Fld := ⟨0x58, 31, 1⟩
abbrev KEY.CMD.reg : Fld := ⟨0x0, 0, 32⟩
abbrev KEY.CMD.GO : Fld := ⟨0x0, 0, 1⟩
abbrev KEY.CMD.OP : Fld := ⟨0x0, 1, 1⟩
abbrev KEY.CMD.PORT : Fld := ⟨0x0, 2, 1⟩
abbrev KEY.CMD.SLOT : Fld := ⟨0x0, 3, 2⟩
abbrev KEY.STATUS.reg : Fld := ⟨0x4, 0, 32⟩
abbrev KEY.STATUS.SEQ : Fld := ⟨0x4, 0, 8⟩
abbrev KEY.STATUS.RESULT : Fld := ⟨0x4, 8, 3⟩
abbrev RUNG.REQ.reg : Fld := ⟨0x0, 0, 32⟩
abbrev RUNG.REQ.GO : Fld := ⟨0x0, 0, 1⟩
abbrev RUNG.REQ.TARGET : Fld := ⟨0x0, 1, 2⟩
abbrev RUNG.CFG.reg : Fld := ⟨0x4, 0, 32⟩
abbrev RUNG.CFG.DUSK_EN : Fld := ⟨0x4, 0, 1⟩
abbrev RUNG.CFG.CARDER_WAKE : Fld := ⟨0x4, 1, 1⟩
abbrev RUNG.CFG.DUSK_IDLE : Fld := ⟨0x4, 2, 10⟩
abbrev RUNG.CFG.WAKE_PORTS : Fld := ⟨0x4, 12, 6⟩
abbrev RUNG.WAKE_TIMER.reg : Fld := ⟨0x8, 0, 32⟩
abbrev RUNG.WAKE_TIMER.MS : Fld := ⟨0x8, 0, 24⟩
abbrev RUNG.STATUS.reg : Fld := ⟨0xc, 0, 32⟩
abbrev RUNG.STATUS.SEQ : Fld := ⟨0xc, 0, 8⟩
abbrev RUNG.STATUS.RUNG : Fld := ⟨0xc, 8, 2⟩
abbrev RUNG.STATUS.PHASE : Fld := ⟨0xc, 10, 2⟩
abbrev RUNG.STATUS.PENDING : Fld := ⟨0xc, 12, 2⟩
abbrev RUNG.STATUS.RESULT : Fld := ⟨0xc, 16, 3⟩
abbrev RUNG.STATUS.EVENT : Fld := ⟨0xc, 20, 4⟩
abbrev RUNG.STATUS.WAKE_SRC : Fld := ⟨0xc, 24, 4⟩
abbrev RUNG.DUSK_ENTRY.reg : Fld := ⟨0x40, 0, 32⟩
abbrev RUNG.DUSK_ENTRY.COUNT : Fld := ⟨0x40, 0, 16⟩
abbrev RUNG.DUSK_ENTRY.SAT : Fld := ⟨0x40, 31, 1⟩
abbrev RUNG.NIGHT_ENTRY.reg : Fld := ⟨0x44, 0, 32⟩
abbrev RUNG.NIGHT_ENTRY.COUNT : Fld := ⟨0x44, 0, 16⟩
abbrev RUNG.NIGHT_ENTRY.SAT : Fld := ⟨0x44, 31, 1⟩
abbrev RUNG.WAKE.reg : Fld := ⟨0x48, 0, 32⟩
abbrev RUNG.WAKE.COUNT : Fld := ⟨0x48, 0, 16⟩
abbrev RUNG.WAKE.SAT : Fld := ⟨0x48, 31, 1⟩
abbrev GOV.CFG.reg : Fld := ⟨0x0, 0, 32⟩
abbrev GOV.CFG.BUDGET : Fld := ⟨0x0, 0, 7⟩
abbrev GOV.CFG.POINT_EN : Fld := ⟨0x0, 7, 1⟩
abbrev GOV.CFG.THROT_LEVEL : Fld := ⟨0x0, 8, 4⟩
abbrev GOV.STATUS.reg : Fld := ⟨0x4, 0, 32⟩
abbrev GOV.STATUS.SEQ : Fld := ⟨0x4, 0, 8⟩
abbrev GOV.STATUS.LEVEL : Fld := ⟨0x4, 8, 4⟩
abbrev GOV.STATUS.EVENT : Fld := ⟨0x4, 12, 4⟩
abbrev GOV.POWER.reg : Fld := ⟨0x8, 0, 32⟩
abbrev GOV.POWER.AVG : Fld := ⟨0x8, 0, 12⟩
abbrev GOV.POWER.INST : Fld := ⟨0x8, 12, 12⟩
abbrev GOV.QLEVEL.reg : Fld := ⟨0xc, 0, 32⟩
abbrev GOV.QLEVEL.THERM0 : Fld := ⟨0xc, 0, 4⟩
abbrev GOV.QLEVEL.THERM1 : Fld := ⟨0xc, 4, 4⟩
abbrev GOV.QLEVEL.THERM2 : Fld := ⟨0xc, 8, 4⟩
abbrev GOV.QLEVEL.THERM3 : Fld := ⟨0xc, 12, 4⟩
abbrev GOV.QLEVEL.EFF0 : Fld := ⟨0xc, 16, 4⟩
abbrev GOV.QLEVEL.EFF1 : Fld := ⟨0xc, 20, 4⟩
abbrev GOV.QLEVEL.EFF2 : Fld := ⟨0xc, 24, 4⟩
abbrev GOV.QLEVEL.EFF3 : Fld := ⟨0xc, 28, 4⟩
abbrev CLK.PLL.reg : Fld := ⟨0x0, 0, 32⟩
abbrev CLK.PLL.CPLL : Fld := ⟨0x0, 0, 1⟩
abbrev CLK.PLL.TPLL : Fld := ⟨0x0, 1, 4⟩
abbrev CLK.PLL.SPLL : Fld := ⟨0x0, 5, 6⟩
abbrev CLK.PLL.HPLL : Fld := ⟨0x0, 11, 2⟩
abbrev CLK.TSV_REQ.reg : Fld := ⟨0x4, 0, 32⟩
abbrev CLK.TSV_REQ.GO : Fld := ⟨0x4, 0, 1⟩
abbrev CLK.TSV_REQ.QUAD : Fld := ⟨0x4, 1, 2⟩
abbrev CLK.TSV_REQ.POINT : Fld := ⟨0x4, 3, 2⟩
abbrev CLK.TSV_REQ.RESULT : Fld := ⟨0x4, 5, 3⟩
abbrev THERM.CFG.reg : Fld := ⟨0x100, 0, 32⟩
abbrev THERM.CFG.HOT_C : Fld := ⟨0x100, 0, 8⟩
abbrev THERM.CFG.THROTTLE_C : Fld := ⟨0x100, 8, 8⟩
abbrev THERM.CFG.THALT_C : Fld := ⟨0x100, 16, 8⟩
abbrev THERM.CFG.XCHK_DELTA : Fld := ⟨0x100, 24, 5⟩
abbrev THERM.LIMITS.reg : Fld := ⟨0x104, 0, 32⟩
abbrev THERM.LIMITS.TSHUT_C : Fld := ⟨0x104, 0, 8⟩
abbrev THERM.LIMITS.BRIM_MAX_C : Fld := ⟨0x104, 8, 8⟩
abbrev THERM.LIMITS.BRIM_THROT_C : Fld := ⟨0x104, 16, 8⟩
abbrev THERM.LIMITS.THERM_MAX_C : Fld := ⟨0x104, 24, 8⟩
abbrev THERM.STATUS.reg : Fld := ⟨0x108, 0, 32⟩
abbrev THERM.STATUS.SEQ : Fld := ⟨0x108, 0, 8⟩
abbrev THERM.STATUS.EVENT : Fld := ⟨0x108, 8, 4⟩
abbrev THERM.STATUS.SENSOR : Fld := ⟨0x108, 12, 7⟩
abbrev THERM.STATUS.QUAD : Fld := ⟨0x108, 19, 2⟩
abbrev THERM.STATUS.QBAND : Fld := ⟨0x108, 21, 8⟩
abbrev THERM.STATUS.THERM_N : Fld := ⟨0x108, 29, 1⟩
abbrev THERM.LATCH.reg : Fld := ⟨0x110, 0, 32⟩
abbrev THERM.LATCH.COUNT : Fld := ⟨0x110, 0, 3⟩
abbrev THERM.LATCH.OVERFLOW : Fld := ⟨0x110, 3, 4⟩
abbrev THERM.LATCH.CAUSE : Fld := ⟨0x110, 7, 2⟩
abbrev THERM.LATCH.SENSOR : Fld := ⟨0x110, 9, 7⟩
abbrev THERM.LATCH.VALUE : Fld := ⟨0x110, 16, 11⟩
abbrev THERM.JOURNAL.reg : Fld := ⟨0x114, 0, 32⟩
abbrev THERM.JOURNAL.NEXT : Fld := ⟨0x114, 0, 8⟩
abbrev THERM.JOURNAL.FULL : Fld := ⟨0x114, 8, 1⟩
abbrev THERM.JOURNAL.TORN : Fld := ⟨0x114, 9, 7⟩
abbrev THERM.IMPLAUSIBLE.reg : Fld := ⟨0x140, 0, 32⟩
abbrev THERM.IMPLAUSIBLE.COUNT : Fld := ⟨0x140, 0, 16⟩
abbrev THERM.IMPLAUSIBLE.SAT : Fld := ⟨0x140, 31, 1⟩
abbrev THERM.BROKEN.reg : Fld := ⟨0x144, 0, 32⟩
abbrev THERM.BROKEN.COUNT : Fld := ⟨0x144, 0, 16⟩
abbrev THERM.BROKEN.SAT : Fld := ⟨0x144, 31, 1⟩
abbrev THERM.THROTTLE_ENTRY.reg : Fld := ⟨0x148, 0, 32⟩
abbrev THERM.THROTTLE_ENTRY.COUNT : Fld := ⟨0x148, 0, 16⟩
abbrev THERM.THROTTLE_ENTRY.SAT : Fld := ⟨0x148, 31, 1⟩
abbrev THERM.TD_WARN.reg : Fld := ⟨0x14c, 0, 32⟩
abbrev THERM.TD_WARN.COUNT : Fld := ⟨0x14c, 0, 16⟩
abbrev THERM.TD_WARN.SAT : Fld := ⟨0x14c, 31, 1⟩
abbrev THERM.SENS.reg : Fld := ⟨0x200, 0, 32⟩
abbrev THERM.SENS.TEMP : Fld := ⟨0x200, 0, 11⟩
abbrev THERM.SENS.STATE : Fld := ⟨0x200, 11, 2⟩
abbrev THERM.SENS.FAST : Fld := ⟨0x200, 13, 1⟩
abbrev THERM.SENS.STRIKES : Fld := ⟨0x200, 14, 2⟩
abbrev THERM.SENS.RESTORE : Fld := ⟨0x200, 16, 1⟩
abbrev BATT.STATUS.reg : Fld := ⟨0x0, 0, 32⟩
abbrev BATT.STATUS.SEQ : Fld := ⟨0x0, 0, 8⟩
abbrev BATT.STATUS.STATE : Fld := ⟨0x0, 8, 3⟩
abbrev BATT.STATUS.RESULT : Fld := ⟨0x0, 12, 4⟩
abbrev BATT.STATUS.SECTION : Fld := ⟨0x0, 16, 8⟩
abbrev BATT.STATUS.SOURCE : Fld := ⟨0x0, 24, 2⟩
abbrev BATT.STATUS.ACTIVE : Fld := ⟨0x0, 26, 1⟩
abbrev BATT.STATUS.NEXT_DAWN_DIFFERS : Fld := ⟨0x0, 27, 1⟩
abbrev BATT.FAIL_OFFSET.reg : Fld := ⟨0x4, 0, 32⟩
abbrev BATT.FAIL_OFFSET.OFFSET : Fld := ⟨0x4, 0, 16⟩
abbrev BATT.ACTIVE_SERIAL.reg : Fld := ⟨0x8, 0, 32⟩
abbrev BATT.ACTIVE_SERIAL.SERIAL : Fld := ⟨0x8, 0, 32⟩
abbrev BATT.CMD.reg : Fld := ⟨0x10, 0, 32⟩
abbrev BATT.CMD.GO : Fld := ⟨0x10, 0, 1⟩
abbrev BATT.CMD.OP : Fld := ⟨0x10, 1, 2⟩
abbrev BATT.STAGE_OWNER.reg : Fld := ⟨0x14, 0, 32⟩
abbrev BATT.STAGE_OWNER.OWNER : Fld := ⟨0x14, 0, 3⟩
abbrev BATT.STAGE_OWNER.RELEASE : Fld := ⟨0x14, 8, 1⟩
abbrev BATT.STAGE_OWNER.NODE : Fld := ⟨0x14, 9, 12⟩
abbrev BATT.STAGE_ADDR.reg : Fld := ⟨0x18, 0, 32⟩
abbrev BATT.STAGE_ADDR.ADDR : Fld := ⟨0x18, 0, 16⟩
abbrev BATT.STAGE_DATA.reg : Fld := ⟨0x1c, 0, 32⟩
abbrev BATT.STAGE_DATA.DATA : Fld := ⟨0x1c, 0, 32⟩
abbrev BATT.SCOPES.reg : Fld := ⟨0x20, 0, 32⟩
abbrev BATT.SCOPES.DEVICE : Fld := ⟨0x20, 0, 1⟩
abbrev BATT.SCOPES.QUAD : Fld := ⟨0x20, 1, 4⟩
abbrev BATT.SCOPES.PORT : Fld := ⟨0x20, 5, 6⟩
abbrev BATT.SCOPES.HATBOX : Fld := ⟨0x20, 11, 1⟩
abbrev BATT.SCOPES.REGION : Fld := ⟨0x20, 12, 1⟩
abbrev CORE.WDT.reg : Fld := ⟨0x0, 0, 32⟩
abbrev CORE.WDT.PERIOD : Fld := ⟨0x0, 0, 16⟩
abbrev CORE.WDT.KICK : Fld := ⟨0x0, 16, 8⟩
abbrev CORE.WDT.RESTART : Fld := ⟨0x0, 24, 1⟩
abbrev CORE.STATUS.reg : Fld := ⟨0x4, 0, 32⟩
abbrev CORE.STATUS.SEQ : Fld := ⟨0x4, 0, 8⟩
abbrev CORE.STATUS.STATE : Fld := ⟨0x4, 8, 2⟩
abbrev CORE.STATUS.SLOT : Fld := ⟨0x4, 10, 1⟩
abbrev CORE.STATUS.TRIAL : Fld := ⟨0x4, 11, 1⟩
abbrev CORE.STATUS.EVENT : Fld := ⟨0x4, 12, 4⟩
abbrev CORE.STATUS.RESTARTS : Fld := ⟨0x4, 16, 2⟩
abbrev CORE.FW_VERSION.reg : Fld := ⟨0x8, 0, 32⟩
abbrev CORE.FW_VERSION.VERSION : Fld := ⟨0x8, 0, 32⟩
abbrev I3C.CFG.reg : Fld := ⟨0x0, 0, 32⟩
abbrev I3C.CFG.IBI_MASK : Fld := ⟨0x0, 0, 5⟩
abbrev I3C.STATUS.reg : Fld := ⟨0x4, 0, 32⟩
abbrev I3C.STATUS.SEQ : Fld := ⟨0x4, 0, 8⟩
abbrev I3C.STATUS.DA : Fld := ⟨0x4, 8, 7⟩
abbrev I3C.STATUS.IBI_EN : Fld := ⟨0x4, 15, 1⟩
abbrev I3C.STATUS.PENDING : Fld := ⟨0x4, 16, 5⟩
abbrev I3C.STATUS.EVENT : Fld := ⟨0x4, 21, 3⟩
abbrev FWUP.CMD.reg : Fld := ⟨0x0, 0, 32⟩
abbrev FWUP.CMD.GO : Fld := ⟨0x0, 0, 1⟩
abbrev FWUP.CMD.OP : Fld := ⟨0x0, 1, 3⟩
abbrev FWUP.STATUS.reg : Fld := ⟨0x4, 0, 32⟩
abbrev FWUP.STATUS.SEQ : Fld := ⟨0x4, 0, 8⟩
abbrev FWUP.STATUS.RUNNING : Fld := ⟨0x4, 8, 1⟩
abbrev FWUP.STATUS.RESULT : Fld := ⟨0x4, 9, 4⟩
abbrev FWUP.STATUS.COUNTER : Fld := ⟨0x4, 13, 7⟩
abbrev FWUP.ADDR.reg : Fld := ⟨0x8, 0, 32⟩
abbrev FWUP.ADDR.ADDR : Fld := ⟨0x8, 0, 20⟩
abbrev FWUP.DATA.reg : Fld := ⟨0xc, 0, 32⟩
abbrev FWUP.DATA.DATA : Fld := ⟨0xc, 0, 32⟩
abbrev LOG.STATUS.reg : Fld := ⟨0x0, 0, 32⟩
abbrev LOG.STATUS.BUF : Fld := ⟨0x0, 0, 9⟩
abbrev LOG.LOG_DROP.reg : Fld := ⟨0x10, 0, 32⟩
abbrev LOG.LOG_DROP.COUNT : Fld := ⟨0x10, 0, 16⟩
abbrev LOG.LOG_DROP.SAT : Fld := ⟨0x10, 31, 1⟩
abbrev LOG.LOG_TORN.reg : Fld := ⟨0x14, 0, 32⟩
abbrev LOG.LOG_TORN.COUNT : Fld := ⟨0x14, 0, 16⟩
abbrev LOG.LOG_TORN.SAT : Fld := ⟨0x14, 31, 1⟩
abbrev LC.CMD.reg : Fld := ⟨0x0, 0, 32⟩
abbrev LC.CMD.GO : Fld := ⟨0x0, 0, 1⟩
abbrev LC.STATUS.reg : Fld := ⟨0x4, 0, 32⟩
abbrev LC.STATUS.SEQ : Fld := ⟨0x4, 0, 8⟩
abbrev LC.STATUS.STATE : Fld := ⟨0x4, 8, 3⟩
abbrev LC.STATUS.PENDING : Fld := ⟨0x4, 11, 1⟩
abbrev LC.STATUS.RESULT : Fld := ⟨0x4, 12, 2⟩
abbrev FAULT.CAP0.reg : Fld := ⟨0x0, 0, 32⟩
abbrev FAULT.CAP0.SEQ : Fld := ⟨0x0, 0, 8⟩
abbrev FAULT.CAP0.SOURCE : Fld := ⟨0x0, 8, 9⟩
abbrev FAULT.CAP0.FORCED : Fld := ⟨0x0, 17, 1⟩
abbrev FAULT.CAP0.REAL : Fld := ⟨0x0, 18, 1⟩
abbrev FAULT.CAP0.ADDR_VALID : Fld := ⟨0x0, 19, 1⟩
abbrev FAULT.CAP0.ACCESS : Fld := ⟨0x0, 20, 4⟩
abbrev FAULT.CAP0.UNHANDLED : Fld := ⟨0x0, 24, 1⟩
abbrev FAULT.CAP0.INT_PENDING : Fld := ⟨0x0, 25, 1⟩
abbrev FAULT.CAP1.reg : Fld := ⟨0x4, 0, 32⟩
abbrev FAULT.CAP1.MASTER : Fld := ⟨0x4, 0, 16⟩
abbrev FAULT.CAP1.MERGED : Fld := ⟨0x4, 16, 16⟩
abbrev FAULT.ERRN.reg : Fld := ⟨0x8, 0, 32⟩
abbrev FAULT.ERRN.ASSERTED : Fld := ⟨0x8, 0, 1⟩
abbrev FAULT.ERRN.ALERT_EN : Fld := ⟨0x8, 1, 1⟩
abbrev FAULT.LOCK_VIOL.reg : Fld := ⟨0x10, 0, 32⟩
abbrev FAULT.LOCK_VIOL.SEQ : Fld := ⟨0x10, 0, 8⟩
abbrev FAULT.LOCK_VIOL.FLAG : Fld := ⟨0x10, 8, 1⟩
abbrev FAULT.LOCK_VIOL.MASTER : Fld := ⟨0x10, 9, 3⟩
abbrev FAULT.LOCK_VIOL_ADDR.reg : Fld := ⟨0x14, 0, 32⟩
abbrev FAULT.LOCK_VIOL_ADDR.ADDR : Fld := ⟨0x14, 0, 24⟩
abbrev FAULT.CONFLICT.reg : Fld := ⟨0x18, 0, 32⟩
abbrev FAULT.CONFLICT.SEQ : Fld := ⟨0x18, 0, 8⟩
abbrev FAULT.CONFLICT.WINNER : Fld := ⟨0x18, 8, 3⟩
abbrev FAULT.CONFLICT.LOSERS : Fld := ⟨0x18, 11, 4⟩
abbrev FAULT.CONFLICT_ADDR.reg : Fld := ⟨0x1c, 0, 32⟩
abbrev FAULT.CONFLICT_ADDR.ADDR : Fld := ⟨0x1c, 0, 24⟩
abbrev FAULT.RESET_SRC.reg : Fld := ⟨0x20, 0, 32⟩
abbrev FAULT.RESET_SRC.SOURCE : Fld := ⟨0x20, 0, 9⟩
abbrev FAULT.RESET_SRC.VALID : Fld := ⟨0x20, 9, 1⟩
abbrev FAULT.ALERT_TX.reg : Fld := ⟨0x40, 0, 32⟩
abbrev FAULT.ALERT_TX.COUNT : Fld := ⟨0x40, 0, 16⟩
abbrev FAULT.ALERT_TX.SAT : Fld := ⟨0x40, 31, 1⟩
abbrev FAULT.ALERT_SUPPRESSED.reg : Fld := ⟨0x44, 0, 32⟩
abbrev FAULT.ALERT_SUPPRESSED.COUNT : Fld := ⟨0x44, 0, 16⟩
abbrev FAULT.ALERT_SUPPRESSED.SAT : Fld := ⟨0x44, 31, 1⟩
abbrev FAULT.INTEGRITY.reg : Fld := ⟨0x48, 0, 32⟩
abbrev FAULT.INTEGRITY.COUNT : Fld := ⟨0x48, 0, 16⟩
abbrev FAULT.INTEGRITY.SAT : Fld := ⟨0x48, 31, 1⟩
abbrev FAULT.SRC.reg : Fld := ⟨0x800, 0, 32⟩
abbrev FAULT.SRC.REACT : Fld := ⟨0x800, 0, 5⟩
abbrev FAULT.SRC.FORCE : Fld := ⟨0x800, 8, 1⟩
abbrev FAULT.SRC.FTEST : Fld := ⟨0x800, 9, 1⟩
abbrev FAULT.SRC.ACTIVE : Fld := ⟨0x800, 10, 1⟩
abbrev FAULT.SRC.INTEGRITY : Fld := ⟨0x800, 11, 1⟩
abbrev FAULT.SRC.COUNT : Fld := ⟨0x800, 12, 16⟩
abbrev FAULT.SRC.SAT : Fld := ⟨0x800, 28, 1⟩
abbrev FAULT.SRC.IMPL : Fld := ⟨0x800, 31, 1⟩
abbrev OTP.CMD.reg : Fld := ⟨0x0, 0, 32⟩
abbrev OTP.CMD.GO : Fld := ⟨0x0, 0, 1⟩
abbrev OTP.CMD.OP : Fld := ⟨0x0, 1, 3⟩
abbrev OTP.CMD.ADDR : Fld := ⟨0x0, 4, 11⟩
abbrev OTP.STATUS.reg : Fld := ⟨0x4, 0, 32⟩
abbrev OTP.STATUS.SEQ : Fld := ⟨0x4, 0, 8⟩
abbrev OTP.STATUS.STATE : Fld := ⟨0x4, 8, 2⟩
abbrev OTP.STATUS.RESULT : Fld := ⟨0x4, 10, 4⟩
abbrev OTP.STATUS.WEAK : Fld := ⟨0x4, 14, 1⟩
abbrev OTP.STATUS.CORR : Fld := ⟨0x4, 15, 1⟩
abbrev OTP.REGION.reg : Fld := ⟨0x40, 0, 32⟩
abbrev OTP.REGION.PRIMARY : Fld := ⟨0x40, 0, 2⟩
abbrev OTP.REGION.TWIN : Fld := ⟨0x40, 2, 2⟩
abbrev OTP.REGION.IN_USE : Fld := ⟨0x40, 4, 2⟩
abbrev OTP.REGION.TWIN_DIFF : Fld := ⟨0x40, 6, 1⟩
abbrev OTP.SPARE.reg : Fld := ⟨0x80, 0, 32⟩
abbrev OTP.SPARE.USED : Fld := ⟨0x80, 0, 6⟩
abbrev OTP.SPARE.FULL : Fld := ⟨0x80, 6, 1⟩
abbrev OTP.WEAK.reg : Fld := ⟨0x84, 0, 32⟩
abbrev OTP.WEAK.ADDR : Fld := ⟨0x84, 0, 11⟩
abbrev OTP.WEAK.COUNT : Fld := ⟨0x84, 11, 5⟩
abbrev OTP.WEAK.POP : Fld := ⟨0x84, 16, 1⟩
abbrev OTP.CORR.reg : Fld := ⟨0xc0, 0, 32⟩
abbrev OTP.CORR.COUNT : Fld := ⟨0xc0, 0, 16⟩
abbrev OTP.CORR.SAT : Fld := ⟨0xc0, 31, 1⟩
abbrev OTP.WEAK_FOUND.reg : Fld := ⟨0xc4, 0, 32⟩
abbrev OTP.WEAK_FOUND.COUNT : Fld := ⟨0xc4, 0, 16⟩
abbrev OTP.WEAK_FOUND.SAT : Fld := ⟨0xc4, 31, 1⟩
abbrev OTP.UE.reg : Fld := ⟨0xc8, 0, 32⟩
abbrev OTP.UE.COUNT : Fld := ⟨0xc8, 0, 16⟩
abbrev OTP.UE.SAT : Fld := ⟨0xc8, 31, 1⟩
abbrev OTP.BURN_FAIL.reg : Fld := ⟨0xcc, 0, 32⟩
abbrev OTP.BURN_FAIL.COUNT : Fld := ⟨0xcc, 0, 16⟩
abbrev OTP.BURN_FAIL.SAT : Fld := ⟨0xcc, 31, 1⟩
abbrev OTP.WEAK_DROP.reg : Fld := ⟨0xd0, 0, 32⟩
abbrev OTP.WEAK_DROP.COUNT : Fld := ⟨0xd0, 0, 16⟩
abbrev OTP.WEAK_DROP.SAT : Fld := ⟨0xd0, 31, 1⟩
abbrev BIST.CMD.reg : Fld := ⟨0x0, 0, 32⟩
abbrev BIST.CMD.GO : Fld := ⟨0x0, 0, 1⟩
abbrev BIST.CMD.KIND : Fld := ⟨0x0, 1, 2⟩
abbrev BIST.CMD.PRESERVE : Fld := ⟨0x0, 3, 1⟩
abbrev BIST.CMD.TEST : Fld := ⟨0x0, 4, 1⟩
abbrev BIST.CMD.PC : Fld := ⟨0x0, 5, 7⟩
abbrev BIST.CMD.ABORT : Fld := ⟨0x0, 12, 1⟩
abbrev BIST.STATUS.reg : Fld := ⟨0x4, 0, 32⟩
abbrev BIST.STATUS.SEQ : Fld := ⟨0x4, 0, 8⟩
abbrev BIST.STATUS.STATE : Fld := ⟨0x4, 8, 2⟩
abbrev BIST.STATUS.KIND : Fld := ⟨0x4, 10, 2⟩
abbrev BIST.STATUS.RESULT : Fld := ⟨0x4, 12, 3⟩
abbrev BIST.CFG.reg : Fld := ⟨0x8, 0, 32⟩
abbrev BIST.CFG.IC_EN : Fld := ⟨0x8, 0, 1⟩
abbrev BIST.CFG.IC_PERIOD : Fld := ⟨0x8, 1, 16⟩
abbrev BIST.DETAIL.reg : Fld := ⟨0xc, 0, 32⟩
abbrev BIST.DETAIL.COVER : Fld := ⟨0xc, 0, 7⟩
abbrev BIST.DETAIL.DURATION : Fld := ⟨0xc, 8, 24⟩
abbrev BIST.ANALOG.reg : Fld := ⟨0x10, 0, 32⟩
abbrev BIST.ANALOG.FAIL : Fld := ⟨0x10, 0, 5⟩
abbrev BIST.POLICY.reg : Fld := ⟨0x14, 0, 32⟩
abbrev BIST.POLICY.AB : Fld := ⟨0x14, 0, 2⟩
abbrev BIST.POLICY.SCAN_OK : Fld := ⟨0x14, 2, 1⟩
abbrev BIST.POLICY.HELD : Fld := ⟨0x14, 3, 1⟩
abbrev BIST.RUNS.reg : Fld := ⟨0x40, 0, 32⟩
abbrev BIST.RUNS.COUNT : Fld := ⟨0x40, 0, 16⟩
abbrev BIST.RUNS.SAT : Fld := ⟨0x40, 31, 1⟩
abbrev BIST.FAILS.reg : Fld := ⟨0x44, 0, 32⟩
abbrev BIST.FAILS.COUNT : Fld := ⟨0x44, 0, 16⟩
abbrev BIST.FAILS.SAT : Fld := ⟨0x44, 31, 1⟩
abbrev PERF.CTL.reg : Fld := ⟨0x0, 0, 32⟩
abbrev PERF.CTL.FREEZE : Fld := ⟨0x0, 0, 1⟩
abbrev PERF.CTL.SNAP : Fld := ⟨0x0, 1, 1⟩
abbrev PERF.CTL.CLEAR : Fld := ⟨0x0, 2, 1⟩
abbrev PERF.CTL.OVF_CLR : Fld := ⟨0x0, 3, 9⟩
abbrev PERF.STATUS.reg : Fld := ⟨0x4, 0, 32⟩
abbrev PERF.STATUS.SEQ : Fld := ⟨0x4, 0, 8⟩
abbrev PERF.STATUS.OVF : Fld := ⟨0x4, 8, 9⟩
abbrev PERF.STATUS.FROZEN : Fld := ⟨0x4, 17, 1⟩
abbrev PERF.STATUS.EVENT : Fld := ⟨0x4, 18, 2⟩
abbrev PERF.EVSEL.reg : Fld := ⟨0x10, 0, 32⟩
abbrev PERF.EVSEL.EVENT : Fld := ⟨0x10, 0, 8⟩
abbrev PERF.EVSEL.MODE : Fld := ⟨0x10, 8, 2⟩
abbrev PERF.EVSEL.FILTER : Fld := ⟨0x10, 10, 6⟩
abbrev PERF.EVSEL.THRESH : Fld := ⟨0x10, 16, 16⟩
abbrev PGLOBAL.CTL.reg : Fld := ⟨0x0, 0, 32⟩
abbrev PGLOBAL.CTL.FREEZE_ALL : Fld := ⟨0x0, 0, 1⟩
abbrev PGLOBAL.CTL.SNAP_ALL : Fld := ⟨0x0, 1, 1⟩
abbrev LINE.ADDR_LO.reg : Fld := ⟨0x0, 0, 32⟩
abbrev LINE.ADDR_LO.ADDR : Fld := ⟨0x0, 0, 32⟩
abbrev LINE.ADDR_HI.reg : Fld := ⟨0x4, 0, 32⟩
abbrev LINE.ADDR_HI.ADDR : Fld := ⟨0x4, 0, 5⟩
abbrev LINE.CTL.reg : Fld := ⟨0x8, 0, 32⟩
abbrev LINE.CTL.GO : Fld := ⟨0x8, 0, 1⟩
abbrev LINE.STATUS.reg : Fld := ⟨0xc, 0, 32⟩
abbrev LINE.STATUS.SEQ : Fld := ⟨0xc, 0, 8⟩
abbrev LINE.STATUS.META : Fld := ⟨0xc, 8, 8⟩
abbrev LINE.STATUS.RESULT : Fld := ⟨0xc, 16, 3⟩
abbrev LINE.STATUS.NSYM : Fld := ⟨0xc, 19, 4⟩
abbrev TRACE.CTL.reg : Fld := ⟨0x0, 0, 32⟩
abbrev TRACE.CTL.ENABLE : Fld := ⟨0x0, 0, 1⟩
abbrev TRACE.CTL.STOP_FULL : Fld := ⟨0x0, 1, 1⟩
abbrev TRACE.CTL.OUTPUT : Fld := ⟨0x0, 2, 4⟩
abbrev TRACE.CTL.RESET : Fld := ⟨0x0, 6, 1⟩
abbrev TRACE.STATUS.reg : Fld := ⟨0x4, 0, 32⟩
abbrev TRACE.STATUS.WPTR : Fld := ⟨0x4, 0, 12⟩
abbrev TRACE.STATUS.RPTR : Fld := ⟨0x4, 12, 12⟩
abbrev TRACE.STATUS.OVF : Fld := ⟨0x4, 24, 1⟩

/-! ### Registers of each block -/

/-- Registers of CHIP.AMAP. -/
def amapRegs : List RegSpec :=
  [⟨0x0, 1, 4, 0x0, 0x0, 0x0, 0x0, 0x0, false, 0x0⟩,
   ⟨0x10, 1, 4, 0x0, 0xffffffff, 0x0, 0x0, 0x0, false, 0x0⟩,
   ⟨0x14, 1, 4, 0x0, 0x1f, 0x0, 0x0, 0x0, false, 0x0⟩,
   ⟨0x18, 1, 4, 0x0, 0x0, 0x1, 0x0, 0x0, false, 0x0⟩,
   ⟨0x20, 1, 4, 0x0, 0x0, 0x0, 0x0, 0x0, false, 0x0⟩,
   ⟨0x24, 1, 4, 0x0, 0x0, 0x0, 0x0, 0x0, false, 0x0⟩]
/-- Registers of CHIP.ECC. -/
def eccRegs : List RegSpec :=
  [⟨0x0, 1, 4, 0x0, 0x380, 0x440, 0x0, 0x0, false, 0x0⟩,
   ⟨0x4, 1, 4, 0x0, 0x380, 0x440, 0x0, 0x0, false, 0x0⟩,
   ⟨0x8, 1, 4, 0x834, 0x3fff, 0x0, 0x0, 0x0, false, 0x0⟩,
   ⟨0x10, 1, 4, 0x0, 0xffffffff, 0x0, 0x0, 0x0, false, 0x0⟩,
   ⟨0x14, 1, 4, 0x0, 0x1f, 0x0, 0x0, 0x0, false, 0x0⟩,
   ⟨0x18, 1, 4, 0x0, 0x6, 0x1, 0x0, 0x0, false, 0x0⟩,
   ⟨0x1c, 1, 4, 0x0, 0x0, 0x0, 0x0, 0x0, true, 0x0⟩,
   ⟨0x20, 1, 4, 0x0, 0x0, 0x0, 0x0, 0x0, false, 0x0⟩,
   ⟨0x24, 1, 4, 0x0, 0x0, 0x0, 0x0, 0x0, false, 0x0⟩,
   ⟨0x28, 1, 4, 0x0, 0x0, 0x1, 0x0, 0x0, false, 0x0⟩,
   ⟨0x30, 1, 4, 0x0, 0x3fffe, 0x1, 0x0, 0x0, false, 0x0⟩,
   ⟨0x34, 1, 4, 0x0, 0x3fff, 0x0, 0x0, 0x0, false, 0x0⟩,
   ⟨0x38, 1, 4, 0x0, 0x0, 0x0, 0x0, 0x0, true, 0x0⟩,
   ⟨0x40, 1, 4, 0x0, 0x0, 0x0, 0xffff, 0x80000000, false, 0x0⟩]
/-- Registers of CHIP.DAWN. -/
def dawnRegs : List RegSpec :=
  [⟨0x0, 1, 4, 0x0, 0x0, 0x0, 0x0, 0x0, true, 0x3c00000⟩,
   ⟨0x4, 1, 4, 0x0, 0x0, 0x0, 0x0, 0x0, false, 0x0⟩,
   ⟨0x8, 1, 4, 0x0, 0x0, 0x0, 0x0, 0x0, false, 0x0⟩,
   ⟨0xc, 1, 4, 0x0, 0x0, 0x0, 0x0, 0x0, false, 0x0⟩,
   ⟨0x10, 1, 4, 0x0, 0x0, 0x1, 0x0, 0x0, false, 0x0⟩]
/-- Registers of CHIP.OWNER. -/
def ownerRegs : List RegSpec :=
  [⟨0x0, 512, 4, 0x0, 0xffffffff, 0x0, 0x0, 0x0, false, 0x0⟩]
/-- Registers of CHIP.ID. -/
def chipIdRegs : List RegSpec :=
  [⟨0x0, 1, 4, 0x1001674d, 0x0, 0x0, 0x0, 0x0, false, 0x0⟩,
   ⟨0x4, 1, 4, 0x1, 0x0, 0x0, 0x0, 0x0, false, 0x0⟩,
   ⟨0x8, 1, 4, 0x0, 0xffffffff, 0x0, 0x0, 0x0, false, 0x0⟩]
/-- Registers of Qn.PCmmm. -/
def pcRegs : List RegSpec :=
  [⟨0x0, 1, 4, 0x203000, 0x7f7f3f, 0x0, 0x0, 0x0, false, 0x0⟩,
   ⟨0x10, 1, 4, 0x3c1c2020, 0xffffffff, 0x0, 0x0, 0x0, false, 0x0⟩,
   ⟨0x14, 1, 4, 0x14050458, 0xffffffff, 0x0, 0x0, 0x0, false, 0x0⟩,
   ⟨0x18, 1, 4, 0x6101e0f, 0xffffffff, 0x0, 0x0, 0x0, false, 0x0⟩,
   ⟨0x1c, 1, 4, 0x5050f04, 0xffffffff, 0x0, 0x0, 0x0, false, 0x0⟩,
   ⟨0x20, 1, 4, 0xd283c, 0x0, 0x0, 0x0, 0x0, false, 0x0⟩,
   ⟨0x24, 1, 4, 0x0, 0x4, 0x3, 0x0, 0x0, false, 0x0⟩,
   ⟨0x28, 1, 4, 0x0, 0x0, 0x0, 0x0, 0x0, true, 0xf000⟩,
   ⟨0x2c, 1, 4, 0x0, 0x0, 0x0, 0x0, 0x0, false, 0x0⟩,
   ⟨0x30, 1, 4, 0x0, 0x0, 0x0, 0x0, 0x0, false, 0x0⟩,
   ⟨0x40, 1, 4, 0x0, 0x0, 0x0, 0xffff, 0x80000000, false, 0x0⟩,
   ⟨0x44, 1, 4, 0x0, 0x0, 0x0, 0xffff, 0x80000000, false, 0x0⟩,
   ⟨0x48, 1, 4, 0x0, 0x0, 0x0, 0xffff, 0x80000000, false, 0x0⟩,
   ⟨0x4c, 1, 4, 0x0, 0x0, 0x0, 0xffff, 0x80000000, false, 0x0⟩,
   ⟨0x50, 1, 4, 0x0, 0x0, 0x0, 0xffff, 0x80000000, false, 0x0⟩,
   ⟨0x54, 1, 4, 0x0, 0x0, 0x0, 0xffff, 0x80000000, false, 0x0⟩] ++
  [⟨0x58, 1, 4, 0x0, 0x0, 0x0, 0xffff, 0x80000000, false, 0x0⟩,
   ⟨0x5c, 1, 4, 0x0, 0x0, 0x0, 0xffff, 0x80000000, false, 0x0⟩,
   ⟨0x80, 1, 4, 0x45850, 0x1f00ff, 0x0, 0x0, 0x0, false, 0x0⟩,
   ⟨0x84, 1, 4, 0x0, 0x0, 0x0, 0x0, 0x0, true, 0x1ff000⟩,
   ⟨0x88, 1, 4, 0x0, 0x0, 0x0, 0x0, 0x0, false, 0x0⟩,
   ⟨0x90, 8, 4, 0x0, 0x0, 0x0, 0x0, 0x0, false, 0x0⟩,
   ⟨0xb0, 1, 4, 0x0, 0x0, 0x0, 0xffff, 0x80000000, false, 0x0⟩,
   ⟨0xb4, 1, 4, 0x0, 0x0, 0x0, 0xffff, 0x80000000, false, 0x0⟩,
   ⟨0xb8, 1, 4, 0x0, 0x0, 0x0, 0xffff, 0x80000000, false, 0x0⟩,
   ⟨0xbc, 1, 4, 0x0, 0x0, 0x0, 0xffff, 0x80000000, false, 0x0⟩,
   ⟨0xc0, 1, 4, 0x0, 0x0, 0x0, 0xffff, 0x80000000, false, 0x0⟩,
   ⟨0x100, 1, 4, 0x23, 0xff, 0x0, 0x0, 0x0, false, 0x0⟩,
   ⟨0x104, 1, 4, 0x0, 0x7e, 0x81, 0x0, 0x0, false, 0x0⟩,
   ⟨0x108, 1, 4, 0x0, 0x0, 0x0, 0x0, 0x0, false, 0x0⟩,
   ⟨0x10c, 1, 4, 0xf0f0f0f, 0x0, 0x0, 0x0, 0x0, false, 0x0⟩,
   ⟨0x110, 1, 4, 0x0, 0x0, 0x0, 0x0, 0x0, false, 0x0⟩] ++
  [⟨0x114, 1, 4, 0x0, 0x0, 0x0, 0x0, 0x0, false, 0x0⟩,
   ⟨0x118, 1, 4, 0x0, 0x0, 0x0, 0x0, 0x0, true, 0xf00⟩,
   ⟨0x11c, 1, 4, 0x0, 0x0, 0x0, 0x0, 0x0, false, 0x0⟩,
   ⟨0x120, 1, 4, 0x0, 0x0, 0x0, 0xffff, 0x80000000, false, 0x0⟩,
   ⟨0x124, 1, 4, 0x0, 0x0, 0x0, 0xffff, 0x80000000, false, 0x0⟩,
   ⟨0x128, 1, 4, 0x0, 0x0, 0x0, 0xffff, 0x80000000, false, 0x0⟩,
   ⟨0x12c, 1, 4, 0x0, 0x0, 0x0, 0xffff, 0x80000000, false, 0x0⟩,
   ⟨0x130, 1, 4, 0x0, 0x0, 0x0, 0xffff, 0x80000000, false, 0x0⟩,
   ⟨0x134, 1, 4, 0x0, 0x0, 0x0, 0xffff, 0x80000000, false, 0x0⟩,
   ⟨0x138, 1, 4, 0x0, 0x0, 0x0, 0xffff, 0x80000000, false, 0x0⟩,
   ⟨0x13c, 1, 4, 0x0, 0x0, 0x0, 0xffff, 0x80000000, false, 0x0⟩,
   ⟨0x140, 1, 4, 0x0, 0x0, 0x0, 0xffff, 0x80000000, false, 0x0⟩,
   ⟨0x150, 8, 4, 0x0, 0x0, 0x0, 0xffff, 0x80000000, false, 0x0⟩,
   ⟨0x180, 1, 4, 0x3, 0x3, 0xc, 0x0, 0x0, false, 0x0⟩,
   ⟨0x184, 1, 4, 0x0, 0x0, 0x0, 0x0, 0x0, true, 0xf00000⟩,
   ⟨0x190, 4, 4, 0x0, 0x0, 0x0, 0x0, 0x0, false, 0x0⟩] ++
  [⟨0x1a0, 1, 4, 0x0, 0x0, 0x0, 0x0, 0x0, false, 0x0⟩,
   ⟨0x1a4, 1, 4, 0x2000, 0x3fff, 0x4000, 0x0, 0x0, false, 0x0⟩,
   ⟨0x1c0, 1, 4, 0x0, 0x0, 0x0, 0xffff, 0x80000000, false, 0x0⟩,
   ⟨0x1c4, 1, 4, 0x0, 0x0, 0x0, 0xffff, 0x80000000, false, 0x0⟩,
   ⟨0x1c8, 1, 4, 0x0, 0x0, 0x0, 0xffff, 0x80000000, false, 0x0⟩,
   ⟨0x1cc, 1, 4, 0x0, 0x0, 0x0, 0xffff, 0x80000000, false, 0x0⟩,
   ⟨0x1d0, 1, 4, 0x0, 0x0, 0x0, 0xffff, 0x80000000, false, 0x0⟩,
   ⟨0x1d4, 1, 4, 0x0, 0x0, 0x0, 0xffff, 0x80000000, false, 0x0⟩,
   ⟨0x1d8, 1, 4, 0x0, 0x0, 0x0, 0xffff, 0x80000000, false, 0x0⟩,
   ⟨0x200, 44, 4, 0x4040, 0x0, 0x0, 0x0, 0x0, false, 0x0⟩]
/-- Registers of Qn.QME. -/
def qmeRegs : List RegSpec :=
  [⟨0x0, 1, 4, 0xf, 0x0, 0x0, 0x0, 0x0, false, 0x0⟩,
   ⟨0x4, 1, 4, 0x0, 0x0, 0x0, 0x0, 0x0, true, 0x3c00000⟩,
   ⟨0x8, 1, 4, 0x0, 0x0, 0x0, 0x0, 0x0, false, 0x0⟩,
   ⟨0x10, 1, 4, 0x0, 0x0, 0x0, 0xffff, 0x80000000, false, 0x0⟩]
/-- Registers of FAB.FPn. -/
def fpRegs : List RegSpec :=
  [⟨0x0, 1, 4, 0x8, 0x8, 0x7, 0x0, 0x0, false, 0x0⟩,
   ⟨0x4, 1, 4, 0xf000, 0x0, 0x0, 0x0, 0x0, true, 0xf000000⟩,
   ⟨0x8, 1, 4, 0x76543210, 0x0, 0x0, 0x0, 0x0, false, 0x0⟩,
   ⟨0xc, 1, 4, 0x76543210, 0x0, 0x0, 0x0, 0x0, false, 0x0⟩,
   ⟨0x10, 1, 4, 0x3ffff, 0x0, 0x0, 0x0, 0x0, false, 0x0⟩,
   ⟨0x14, 1, 4, 0x0, 0x0, 0x0, 0x0, 0x0, false, 0x0⟩,
   ⟨0x18, 1, 4, 0x0, 0x0, 0x0, 0x0, 0x0, false, 0x0⟩,
   ⟨0x20, 1, 4, 0x0, 0x0, 0x0, 0xffff, 0x80000000, false, 0x0⟩,
   ⟨0x24, 1, 4, 0x0, 0x0, 0x0, 0xffff, 0x80000000, false, 0x0⟩,
   ⟨0x28, 1, 4, 0x0, 0x0, 0x0, 0xffff, 0x80000000, false, 0x0⟩,
   ⟨0x2c, 1, 4, 0x0, 0x0, 0x0, 0xffff, 0x80000000, false, 0x0⟩,
   ⟨0x30, 1, 4, 0x0, 0x0, 0x0, 0xffff, 0x80000000, false, 0x0⟩,
   ⟨0x34, 1, 4, 0x0, 0x0, 0x0, 0xffff, 0x80000000, false, 0x0⟩,
   ⟨0x38, 1, 4, 0x0, 0x0, 0x0, 0xffff, 0x80000000, false, 0x0⟩,
   ⟨0x3c, 1, 4, 0x0, 0x0, 0x0, 0xffff, 0x80000000, false, 0x0⟩,
   ⟨0x40, 9, 4, 0x0, 0x0, 0x0, 0xffff, 0x80000000, false, 0x0⟩] ++
  [⟨0x70, 1, 4, 0x0, 0x0, 0x0, 0x0, 0x0, false, 0x0⟩,
   ⟨0x74, 1, 4, 0x0, 0x0, 0x0, 0x0, 0x0, false, 0x0⟩,
   ⟨0x78, 1, 4, 0x0, 0x0, 0x0, 0x0, 0x0, false, 0x0⟩,
   ⟨0x7c, 1, 4, 0x0, 0x0, 0x0, 0x0, 0x0, false, 0x0⟩]
/-- Registers of FAB.TXN. -/
def txnRegs : List RegSpec :=
  [⟨0x0, 1, 4, 0x1, 0x1, 0x0, 0x0, 0x0, false, 0x0⟩,
   ⟨0x4, 1, 4, 0x0, 0x0, 0x0, 0x0, 0x0, true, 0xf00⟩,
   ⟨0x10, 1, 4, 0x0, 0x0, 0x0, 0xffff, 0x80000000, false, 0x0⟩,
   ⟨0x14, 1, 4, 0x0, 0x0, 0x0, 0xffff, 0x80000000, false, 0x0⟩,
   ⟨0x18, 1, 4, 0x0, 0x0, 0x0, 0xffff, 0x80000000, false, 0x0⟩,
   ⟨0x1c, 1, 4, 0x0, 0x0, 0x0, 0xffff, 0x80000000, false, 0x0⟩,
   ⟨0x20, 1, 4, 0x0, 0x0, 0x0, 0xffff, 0x80000000, false, 0x0⟩,
   ⟨0x100, 64, 4, 0x0, 0x0, 0x2000, 0x0, 0x0, false, 0x0⟩]
/-- Registers of ROUTE.NODE. -/
def rnodeRegs : List RegSpec :=
  [⟨0x0, 1, 4, 0x0, 0x0, 0x0, 0x0, 0x0, false, 0x0⟩,
   ⟨0x4, 1, 4, 0x0, 0x0, 0x0, 0x0, 0x0, true, 0xf00⟩]
/-- Registers of ROUTE.TBL. -/
def tblRegs : List RegSpec :=
  [⟨0x0, 1, 4, 0x0, 0x3000, 0x0, 0xfff, 0x0, false, 0x0⟩,
   ⟨0x4, 1, 4, 0x0, 0x3ff, 0x0, 0x0, 0x0, false, 0x0⟩,
   ⟨0x8, 1, 4, 0x0, 0x0, 0x0, 0x0, 0x0, false, 0x0⟩,
   ⟨0xc, 1, 4, 0x0, 0xffff, 0x30000, 0x0, 0x0, false, 0x0⟩,
   ⟨0x10, 1, 4, 0x0, 0x0, 0x0, 0xffff, 0x80000000, false, 0x0⟩,
   ⟨0x14, 1, 4, 0x0, 0x0, 0x0, 0xffff, 0x80000000, false, 0x0⟩,
   ⟨0x18, 1, 4, 0x0, 0x0, 0x0, 0xffff, 0x80000000, false, 0x0⟩,
   ⟨0x1c, 1, 4, 0x0, 0x0, 0x0, 0xffff, 0x80000000, false, 0x0⟩,
   ⟨0x20, 1, 4, 0x0, 0x0, 0x0, 0xffff, 0x80000000, false, 0x0⟩]
/-- Registers of ROUTE.SYNC. -/
def syncRegs : List RegSpec :=
  [⟨0x0, 1, 4, 0x0, 0x1fff, 0x0, 0x0, 0x0, false, 0x0⟩,
   ⟨0x4, 1, 4, 0x0, 0x0, 0x0, 0x0, 0x0, false, 0x0⟩]
/-- Registers of ROUTE.PORTn. -/
def rportRegs : List RegSpec :=
  [⟨0x0, 1, 4, 0x8, 0xb, 0x4, 0x0, 0x0, false, 0x0⟩,
   ⟨0x4, 1, 4, 0x0, 0x0, 0x0, 0x0, 0x0, false, 0x0⟩,
   ⟨0x8, 1, 4, 0x0, 0x0, 0x0, 0x0, 0x0, false, 0x0⟩]
/-- Registers of FULLER.CORE. -/
def fcoreRegs : List RegSpec :=
  [⟨0x0, 1, 4, 0x5a181008, 0x0, 0x0, 0x0, 0x0, false, 0x0⟩,
   ⟨0x4, 1, 4, 0x284, 0x3ff, 0x0, 0x0, 0x0, false, 0x0⟩,
   ⟨0x8, 1, 4, 0x0, 0x0, 0x0, 0x0, 0x0, true, 0xf00000⟩,
   ⟨0xc, 1, 4, 0x0, 0x0, 0x0, 0x0, 0x0, false, 0x0⟩,
   ⟨0x10, 1, 4, 0x0, 0x0, 0x0, 0x0, 0x0, false, 0x0⟩,
   ⟨0x14, 1, 4, 0x0, 0x0, 0x0, 0x0, 0x0, false, 0x0⟩,
   ⟨0x18, 1, 4, 0x0, 0x0, 0x0, 0x0, 0x0, false, 0x0⟩,
   ⟨0x1c, 1, 4, 0x0, 0x0, 0x0, 0x0, 0x0, false, 0x0⟩,
   ⟨0x20, 1, 4, 0x0, 0x1fe, 0x1, 0x0, 0x0, false, 0x0⟩,
   ⟨0x24, 1, 4, 0x0, 0x0, 0x0, 0x0, 0x0, true, 0x0⟩,
   ⟨0x28, 1, 4, 0x0, 0x0, 0x0, 0x0, 0x0, false, 0x0⟩,
   ⟨0x40, 1, 4, 0x0, 0x0, 0x0, 0xffff, 0x80000000, false, 0x0⟩,
   ⟨0x44, 1, 4, 0x0, 0x0, 0x0, 0xffff, 0x80000000, false, 0x0⟩,
   ⟨0x48, 1, 4, 0x0, 0x0, 0x0, 0xffff, 0x80000000, false, 0x0⟩,
   ⟨0x4c, 1, 4, 0x0, 0x0, 0x0, 0xffff, 0x80000000, false, 0x0⟩,
   ⟨0x50, 1, 4, 0x0, 0x0, 0x0, 0xffff, 0x80000000, false, 0x0⟩] ++
  [⟨0x54, 1, 4, 0x0, 0x0, 0x0, 0xffff, 0x80000000, false, 0x0⟩,
   ⟨0x58, 1, 4, 0x0, 0x0, 0x0, 0xffff, 0x80000000, false, 0x0⟩,
   ⟨0x5c, 1, 4, 0x0, 0x0, 0x0, 0xffff, 0x80000000, false, 0x0⟩,
   ⟨0x60, 1, 4, 0x0, 0x0, 0x0, 0xffff, 0x80000000, false, 0x0⟩]
/-- Registers of FULLER.RGN. -/
def rgnRegs : List RegSpec :=
  [⟨0x0, 64, 8, 0x0, 0x0, 0x0, 0x0, 0x0, false, 0x0⟩,
   ⟨0x4, 64, 8, 0x0, 0x0, 0x0, 0x0, 0x0, false, 0x0⟩]
/-- Registers of FULLER.MIR. -/
def mirRegs : List RegSpec :=
  [⟨0x0, 64, 4, 0x0, 0x0, 0x0, 0x0, 0x0, false, 0x0⟩]
/-- Registers of FULLER.PF. -/
def pfRegs : List RegSpec :=
  [⟨0x0, 1, 4, 0x0, 0x1, 0x0, 0x0, 0x0, false, 0x0⟩,
   ⟨0x4, 1, 4, 0x0, 0x0, 0x0, 0x0, 0x0, false, 0x0⟩,
   ⟨0x8, 1, 4, 0x0, 0x0, 0x0, 0x0, 0x0, true, 0xf0000⟩,
   ⟨0xc, 1, 4, 0x0, 0x0, 0x0, 0x0, 0x0, false, 0x0⟩,
   ⟨0x10, 1, 4, 0x0, 0x0, 0x0, 0x0, 0x0, true, 0xf0000⟩,
   ⟨0x14, 1, 4, 0x0, 0x0, 0x0, 0x0, 0x0, false, 0x0⟩,
   ⟨0x18, 1, 4, 0x0, 0x0, 0x0, 0x0, 0x0, false, 0x0⟩,
   ⟨0x1c, 1, 4, 0x0, 0x0, 0x0, 0x0, 0x0, false, 0x0⟩,
   ⟨0x20, 1, 4, 0x0, 0x0, 0x0, 0x0, 0x0, false, 0x0⟩,
   ⟨0x24, 1, 4, 0x0, 0x0, 0x0, 0x0, 0x0, false, 0x0⟩,
   ⟨0x28, 1, 4, 0x0, 0x0, 0x0, 0x0, 0x0, false, 0x0⟩,
   ⟨0x2c, 1, 4, 0x0, 0x0, 0x1, 0x0, 0x0, false, 0x0⟩,
   ⟨0x40, 1, 4, 0x0, 0x0, 0x0, 0xffff, 0x80000000, false, 0x0⟩,
   ⟨0x44, 1, 4, 0x0, 0x0, 0x0, 0xffff, 0x80000000, false, 0x0⟩,
   ⟨0x48, 1, 4, 0x0, 0x0, 0x0, 0xffff, 0x80000000, false, 0x0⟩,
   ⟨0x4c, 1, 4, 0x0, 0x0, 0x0, 0xffff, 0x80000000, false, 0x0⟩]
/-- Registers of HBOX.CTL. -/
def hctlRegs : List RegSpec :=
  [⟨0x0, 1, 4, 0x800, 0x7f00, 0x0, 0x0, 0x0, false, 0x0⟩]
/-- Registers of HBOX.HBn. -/
def hbRegs : List RegSpec :=
  [⟨0x0, 1, 4, 0x0, 0xc, 0x3, 0x0, 0x0, false, 0x0⟩,
   ⟨0x4, 1, 4, 0x6000, 0x0, 0x0, 0x0, 0x0, true, 0xf0000⟩,
   ⟨0x8, 1, 4, 0x0, 0x0, 0x0, 0x0, 0x0, false, 0x0⟩,
   ⟨0xc, 1, 4, 0xffff0000, 0x0, 0x0, 0x0, 0x0, false, 0x0⟩,
   ⟨0x10, 1, 4, 0x0, 0x0, 0x0, 0x0, 0x0, false, 0x0⟩,
   ⟨0x40, 1, 4, 0x0, 0x0, 0x0, 0xffff, 0x80000000, false, 0x0⟩,
   ⟨0x44, 1, 4, 0x0, 0x0, 0x0, 0xffff, 0x80000000, false, 0x0⟩,
   ⟨0x48, 1, 4, 0x0, 0x0, 0x0, 0xffff, 0x80000000, false, 0x0⟩,
   ⟨0x4c, 1, 4, 0x0, 0x0, 0x0, 0xffff, 0x80000000, false, 0x0⟩,
   ⟨0x50, 1, 4, 0x0, 0x0, 0x0, 0xffff, 0x80000000, false, 0x0⟩,
   ⟨0x54, 1, 4, 0x0, 0x0, 0x0, 0xffff, 0x80000000, false, 0x0⟩,
   ⟨0x58, 1, 4, 0x0, 0x0, 0x0, 0xffff, 0x80000000, false, 0x0⟩]
/-- Registers of HBOX.KEY. -/
def keyRegs : List RegSpec :=
  [⟨0x0, 1, 4, 0x0, 0x1e, 0x1, 0x0, 0x0, false, 0x0⟩,
   ⟨0x4, 1, 4, 0x0, 0x0, 0x0, 0x0, 0x0, true, 0x0⟩]
/-- Registers of PWR.RUNG. -/
def rungRegs : List RegSpec :=
  [⟨0x0, 1, 4, 0x0, 0x6, 0x1, 0x0, 0x0, false, 0x0⟩,
   ⟨0x4, 1, 4, 0x3f02b, 0x3f003, 0x0, 0x0, 0x0, false, 0x0⟩,
   ⟨0x8, 1, 4, 0x0, 0xffffff, 0x0, 0x0, 0x0, false, 0x0⟩,
   ⟨0xc, 1, 4, 0x0, 0x0, 0x0, 0x0, 0x0, true, 0xf00000⟩,
   ⟨0x40, 1, 4, 0x0, 0x0, 0x0, 0xffff, 0x80000000, false, 0x0⟩,
   ⟨0x44, 1, 4, 0x0, 0x0, 0x0, 0xffff, 0x80000000, false, 0x0⟩,
   ⟨0x48, 1, 4, 0x0, 0x0, 0x0, 0xffff, 0x80000000, false, 0x0⟩]
/-- Registers of PWR.GOV. -/
def govRegs : List RegSpec :=
  [⟨0x0, 1, 4, 0x846, 0xf80, 0x0, 0x0, 0x0, false, 0x0⟩,
   ⟨0x4, 1, 4, 0x0, 0x0, 0x0, 0x0, 0x0, true, 0xf000⟩,
   ⟨0x8, 1, 4, 0x0, 0x0, 0x0, 0x0, 0x0, false, 0x0⟩,
   ⟨0xc, 1, 4, 0x0, 0x0, 0x0, 0x0, 0x0, false, 0x0⟩]
/-- Registers of PWR.CLK. -/
def clkRegs : List RegSpec :=
  [⟨0x0, 1, 4, 0x0, 0x0, 0x0, 0x0, 0x0, false, 0x0⟩,
   ⟨0x4, 1, 4, 0x0, 0x1e, 0x1, 0x0, 0x0, false, 0x0⟩]
/-- Registers of PWR.THERM. -/
def thermRegs : List RegSpec :=
  [⟨0x100, 1, 4, 0xf645f55, 0x1f000000, 0x0, 0x0, 0x0, false, 0x0⟩,
   ⟨0x104, 1, 4, 0x64646e6c, 0x0, 0x0, 0x0, 0x0, false, 0x0⟩,
   ⟨0x108, 1, 4, 0x0, 0x0, 0x0, 0x0, 0x0, true, 0xf00⟩,
   ⟨0x110, 1, 4, 0x0, 0x0, 0x0, 0x0, 0x0, false, 0x0⟩,
   ⟨0x114, 1, 4, 0x0, 0x0, 0x0, 0x0, 0x0, false, 0x0⟩,
   ⟨0x140, 1, 4, 0x0, 0x0, 0x0, 0xffff, 0x80000000, false, 0x0⟩,
   ⟨0x144, 1, 4, 0x0, 0x0, 0x0, 0xffff, 0x80000000, false, 0x0⟩,
   ⟨0x148, 1, 4, 0x0, 0x0, 0x0, 0xffff, 0x80000000, false, 0x0⟩,
   ⟨0x14c, 1, 4, 0x0, 0x0, 0x0, 0xffff, 0x80000000, false, 0x0⟩,
   ⟨0x200, 80, 4, 0x0, 0x0, 0x10000, 0x0, 0x0, false, 0x0⟩]
/-- Registers of MGMT.BATT. -/
def battRegs : List RegSpec :=
  [⟨0x0, 1, 4, 0x0, 0x0, 0x0, 0x0, 0x0, true, 0xfff000⟩,
   ⟨0x4, 1, 4, 0x0, 0x0, 0x0, 0x0, 0x0, false, 0x0⟩,
   ⟨0x8, 1, 4, 0x0, 0x0, 0x0, 0x0, 0x0, false, 0x0⟩,
   ⟨0x10, 1, 4, 0x0, 0x6, 0x1, 0x0, 0x0, false, 0x0⟩,
   ⟨0x14, 1, 4, 0x0, 0x0, 0x100, 0x0, 0x0, false, 0x0⟩,
   ⟨0x18, 1, 4, 0x0, 0x0, 0x0, 0xffff, 0x0, false, 0x0⟩,
   ⟨0x1c, 1, 4, 0x0, 0xffffffff, 0x0, 0x0, 0x0, false, 0x0⟩,
   ⟨0x20, 1, 4, 0x0, 0x0, 0x0, 0x0, 0x0, false, 0x0⟩]
/-- Registers of MGMT.CORE. -/
def coreRegs : List RegSpec :=
  [⟨0x0, 1, 4, 0x64, 0xffffff, 0x1000000, 0x0, 0x0, false, 0x0⟩,
   ⟨0x4, 1, 4, 0x0, 0x0, 0x0, 0x0, 0x0, true, 0xf000⟩,
   ⟨0x8, 1, 4, 0x0, 0x0, 0x0, 0x0, 0x0, false, 0x0⟩]
/-- Registers of MGMT.I3C. -/
def i3cRegs : List RegSpec :=
  [⟨0x0, 1, 4, 0x1f, 0x1f, 0x0, 0x0, 0x0, false, 0x0⟩,
   ⟨0x4, 1, 4, 0x0, 0x0, 0x0, 0x0, 0x0, true, 0xe00000⟩]
/-- Registers of MGMT.FWUP. -/
def fwupRegs : List RegSpec :=
  [⟨0x0, 1, 4, 0x0, 0xe, 0x1, 0x0, 0x0, false, 0x0⟩,
   ⟨0x4, 1, 4, 0x0, 0x0, 0x0, 0x0, 0x0, true, 0x0⟩,
   ⟨0x8, 1, 4, 0x0, 0x0, 0x0, 0xfffff, 0x0, false, 0x0⟩,
   ⟨0xc, 1, 4, 0x0, 0xffffffff, 0x0, 0x0, 0x0, false, 0x0⟩]
/-- Registers of MGMT.LOG. -/
def logRegs : List RegSpec :=
  [⟨0x0, 1, 4, 0x0, 0x0, 0x0, 0x0, 0x0, false, 0x0⟩,
   ⟨0x10, 1, 4, 0x0, 0x0, 0x0, 0xffff, 0x80000000, false, 0x0⟩,
   ⟨0x14, 1, 4, 0x0, 0x0, 0x0, 0xffff, 0x80000000, false, 0x0⟩]
/-- Registers of MGMT.LC. -/
def lcRegs : List RegSpec :=
  [⟨0x0, 1, 4, 0x0, 0x0, 0x1, 0x0, 0x0, false, 0x0⟩,
   ⟨0x4, 1, 4, 0x0, 0x0, 0x0, 0x0, 0x0, true, 0x0⟩]
/-- Registers of MGMT.FAULT. -/
def faultRegs : List RegSpec :=
  [⟨0x0, 1, 4, 0x0, 0x0, 0x0, 0x0, 0x0, true, 0x0⟩,
   ⟨0x4, 1, 4, 0x0, 0x0, 0x0, 0x0, 0x0, false, 0x0⟩,
   ⟨0x8, 1, 4, 0x2, 0x2, 0x0, 0x0, 0x0, false, 0x0⟩,
   ⟨0x10, 1, 4, 0x0, 0x0, 0x0, 0x0, 0x0, true, 0x100⟩,
   ⟨0x14, 1, 4, 0x0, 0x0, 0x0, 0x0, 0x0, false, 0x0⟩,
   ⟨0x18, 1, 4, 0x0, 0x0, 0x0, 0x0, 0x0, true, 0x0⟩,
   ⟨0x1c, 1, 4, 0x0, 0x0, 0x0, 0x0, 0x0, false, 0x0⟩,
   ⟨0x20, 1, 4, 0x0, 0x0, 0x0, 0x0, 0x0, false, 0x0⟩,
   ⟨0x40, 1, 4, 0x0, 0x0, 0x0, 0xffff, 0x80000000, false, 0x0⟩,
   ⟨0x44, 1, 4, 0x0, 0x0, 0x0, 0xffff, 0x80000000, false, 0x0⟩,
   ⟨0x48, 1, 4, 0x0, 0x0, 0x0, 0xffff, 0x80000000, false, 0x0⟩,
   ⟨0x800, 512, 4, 0x0, 0x21f, 0x100, 0xffff000, 0x10000000, false, 0x0⟩]
/-- Registers of OTP.CTL. -/
def otpRegs : List RegSpec :=
  [⟨0x0, 1, 4, 0x0, 0x7ffe, 0x1, 0x0, 0x0, false, 0x0⟩,
   ⟨0x4, 1, 4, 0x0, 0x0, 0x0, 0x0, 0x0, true, 0x0⟩,
   ⟨0x40, 16, 4, 0x20, 0x0, 0x0, 0x0, 0x0, false, 0x0⟩,
   ⟨0x80, 1, 4, 0x0, 0x0, 0x0, 0x0, 0x0, false, 0x0⟩,
   ⟨0x84, 1, 4, 0x0, 0x0, 0x10000, 0x0, 0x0, false, 0x0⟩,
   ⟨0xc0, 1, 4, 0x0, 0x0, 0x0, 0xffff, 0x80000000, false, 0x0⟩,
   ⟨0xc4, 1, 4, 0x0, 0x0, 0x0, 0xffff, 0x80000000, false, 0x0⟩,
   ⟨0xc8, 1, 4, 0x0, 0x0, 0x0, 0xffff, 0x80000000, false, 0x0⟩,
   ⟨0xcc, 1, 4, 0x0, 0x0, 0x0, 0xffff, 0x80000000, false, 0x0⟩,
   ⟨0xd0, 1, 4, 0x0, 0x0, 0x0, 0xffff, 0x80000000, false, 0x0⟩]
/-- Registers of BIST.CTL. -/
def bistRegs : List RegSpec :=
  [⟨0x0, 1, 4, 0x0, 0xffe, 0x1001, 0x0, 0x0, false, 0x0⟩,
   ⟨0x4, 1, 4, 0x0, 0x0, 0x0, 0x0, 0x0, true, 0x0⟩,
   ⟨0x8, 1, 4, 0x1c21, 0x1ffff, 0x0, 0x0, 0x0, false, 0x0⟩,
   ⟨0xc, 1, 4, 0x0, 0x0, 0x0, 0x0, 0x0, false, 0x0⟩,
   ⟨0x10, 1, 4, 0x0, 0x0, 0x0, 0x0, 0x0, false, 0x0⟩,
   ⟨0x14, 1, 4, 0x0, 0x0, 0x0, 0x0, 0x0, false, 0x0⟩,
   ⟨0x40, 1, 4, 0x0, 0x0, 0x0, 0xffff, 0x80000000, false, 0x0⟩,
   ⟨0x44, 1, 4, 0x0, 0x0, 0x0, 0xffff, 0x80000000, false, 0x0⟩]
/-- Registers of PERF.unit. -/
def perfRegs : List RegSpec :=
  [⟨0x0, 1, 4, 0x0, 0x1, 0xffe, 0x0, 0x0, false, 0x0⟩,
   ⟨0x4, 1, 4, 0x0, 0x0, 0x0, 0x0, 0x0, true, 0xc0000⟩,
   ⟨0x10, 8, 4, 0xfc00, 0xffffffff, 0x0, 0x0, 0x0, false, 0x0⟩]
/-- Registers of PERF.GLOBAL. -/
def pglobalRegs : List RegSpec :=
  [⟨0x0, 1, 4, 0x0, 0x1, 0x2, 0x0, 0x0, false, 0x0⟩]
/-- Registers of DBG.LINE. -/
def lineRegs : List RegSpec :=
  [⟨0x0, 1, 4, 0x0, 0xffffffff, 0x0, 0x0, 0x0, false, 0x0⟩,
   ⟨0x4, 1, 4, 0x0, 0x1f, 0x0, 0x0, 0x0, false, 0x0⟩,
   ⟨0x8, 1, 4, 0x0, 0x0, 0x1, 0x0, 0x0, false, 0x0⟩,
   ⟨0xc, 1, 4, 0x0, 0x0, 0x0, 0x0, 0x0, true, 0x0⟩]
/-- Registers of DBG.TRACE. -/
def traceRegs : List RegSpec :=
  [⟨0x0, 1, 4, 0x2, 0x3f, 0x40, 0x0, 0x0, false, 0x0⟩,
   ⟨0x4, 1, 4, 0x0, 0x0, 0x0, 0x0, 0x0, false, 0x0⟩]

/-- Registers of a block. -/
def regsOf : Blk → List RegSpec
  | .amap => amapRegs
  | .ecc => eccRegs
  | .dawn => dawnRegs
  | .owner => ownerRegs
  | .chipId => chipIdRegs
  | .pc => pcRegs
  | .qme => qmeRegs
  | .fp => fpRegs
  | .txn => txnRegs
  | .rnode => rnodeRegs
  | .tbl => tblRegs
  | .sync => syncRegs
  | .rport => rportRegs
  | .fcore => fcoreRegs
  | .rgn => rgnRegs
  | .mir => mirRegs
  | .pf => pfRegs
  | .hctl => hctlRegs
  | .hb => hbRegs
  | .key => keyRegs
  | .rung => rungRegs
  | .gov => govRegs
  | .clk => clkRegs
  | .therm => thermRegs
  | .batt => battRegs
  | .core => coreRegs
  | .i3c => i3cRegs
  | .fwup => fwupRegs
  | .log => logRegs
  | .lc => lcRegs
  | .fault => faultRegs
  | .otp => otpRegs
  | .bist => bistRegs
  | .perf => perfRegs
  | .pglobal => pglobalRegs
  | .line => lineRegs
  | .trace => traceRegs

/-- Decoded width k of a block (R540). -/
def Blk.k : Blk → Nat
  | .amap => 6
  | .ecc => 7
  | .dawn => 5
  | .owner => 11
  | .chipId => 4
  | .pc => 10
  | .qme => 5
  | .fp => 7
  | .txn => 9
  | .rnode => 5
  | .tbl => 6
  | .sync => 4
  | .rport => 5
  | .fcore => 7
  | .rgn => 9
  | .mir => 8
  | .pf => 7
  | .hctl => 4
  | .hb => 7
  | .key => 5
  | .rung => 7
  | .gov => 5
  | .clk => 4
  | .therm => 10
  | .batt => 6
  | .core => 4
  | .i3c => 4
  | .fwup => 4
  | .log => 6
  | .lc => 5
  | .fault => 12
  | .otp => 8
  | .bist => 7
  | .perf => 6
  | .pglobal => 4
  | .line => 6
  | .trace => 5

/-- Mailbox offset MB of a block (R540); none: no mailbox. -/
def Blk.mb : Blk → Option Nat
  | .amap => none
  | .ecc => some 0x70
  | .dawn => none
  | .owner => none
  | .chipId => none
  | .pc => some 0x3f0
  | .qme => none
  | .fp => none
  | .txn => none
  | .rnode => some 0x10
  | .tbl => none
  | .sync => none
  | .rport => some 0x10
  | .fcore => none
  | .rgn => none
  | .mir => none
  | .pf => none
  | .hctl => none
  | .hb => some 0x70
  | .key => some 0x10
  | .rung => none
  | .gov => some 0x10
  | .clk => none
  | .therm => none
  | .batt => some 0x30
  | .core => none
  | .i3c => none
  | .fwup => none
  | .log => some 0x30
  | .lc => some 0x10
  | .fault => some 0x7f0
  | .otp => some 0xf0
  | .bist => none
  | .perf => some 0x30
  | .pglobal => none
  | .line => some 0x30
  | .trace => some 0x10

/-- WIDE fields of a block: selector, width, and whether software may write it (DEDUCED,
notes/assumptions/7.md). -/
def Blk.wides : Blk → List (Nat × Nat × Bool)
  | .amap => []
  | .ecc => [(1, 640, true)]
  | .dawn => []
  | .owner => []
  | .chipId => []
  | .pc => [(1, 617, true), (2, 617, true), (3, 617, true), (16, 196, true), (17, 196, false)]
  | .qme => []
  | .fp => []
  | .txn => []
  | .rnode => [(1, 64, false)]
  | .tbl => []
  | .sync => []
  | .rport => [(1, 64, false)]
  | .fcore => []
  | .rgn => []
  | .mir => []
  | .pf => []
  | .hctl => []
  | .hb => [(1, 64, false), (2, 64, false), (3, 64, false)]
  | .key => [(1, 8192, true)]
  | .rung => []
  | .gov => [(1, 64, false)]
  | .clk => []
  | .therm => []
  | .batt => [(1, 384, false)]
  | .core => []
  | .i3c => []
  | .fwup => []
  | .log => [(1, 512, false)]
  | .lc => [(1, 768, false), (2, 768, true)]
  | .fault => [(1, 256, false), (2, 512, false)]
  | .otp => [(1, 64, true), (2, 64, false)]
  | .bist => []
  | .perf => [(1, 48, true), (2, 48, true), (3, 48, true), (4, 48, true), (5, 48, true), (6, 48, true), (7, 48, true), (8, 48, true), (9, 48, true), (16, 441, false)]
  | .pglobal => []
  | .line => [(1, 520, false), (2, 640, false)]
  | .trace => [(1, 192, false)]

/-! ### Window bases (R540, R541) -/

def base.amap : Nat := 0x001000
def base.ecc : Nat := 0x002000
def base.dawn : Nat := 0x003000
def base.owner : Nat := 0x004000
def base.chipId : Nat := 0x000000
def base.pc (p : Nat) : Nat := 0x100000 * (p / 32 + 1) + 0x1000 * (p % 32)
def base.qme (q : Nat) : Nat := 0x100000 * (q + 1) + 0x20000
def base.fp (n : Nat) : Nat := 0x500000 + 0x1000 * n
def base.txn : Nat := 0x508000
def base.rnode : Nat := 0x600000
def base.tbl : Nat := 0x601000
def base.sync : Nat := 0x602000
def base.rport (n : Nat) : Nat := 0x608000 + 0x1000 * n
def base.fcore : Nat := 0x700000
def base.rgn : Nat := 0x701000
def base.mir : Nat := 0x702000
def base.pf : Nat := 0x703000
def base.hctl : Nat := 0x800000
def base.hb (n : Nat) : Nat := 0x801000 + 0x1000 * n
def base.key : Nat := 0x804000
def base.rung : Nat := 0x900000
def base.gov : Nat := 0x901000
def base.clk : Nat := 0x902000
def base.therm : Nat := 0x903000
def base.batt : Nat := 0xA00000
def base.core : Nat := 0xA01000
def base.i3c : Nat := 0xA02000
def base.fwup : Nat := 0xA03000
def base.log : Nat := 0xA04000
def base.lc : Nat := 0xA05000
def base.fault : Nat := 0xA08000
def base.otp : Nat := 0xB00000
def base.bist : Nat := 0xC00000
/-- PERF units in the order of R541: Q0-Q3, FP0-FP5, XBAR, FULLER, HB0, HB1. -/
def base.perf (u : Nat) : Nat := 0xD00000 + 0x1000 * u
def base.pglobal : Nat := 0xD0F000
def base.line : Nat := 0xF00000
def base.trace : Nat := 0xF01000

/-- The block of a window: domain d, window w (R535, R540, R541); domain 0xE is domain 6 (R536). -/
def blockOf (d w : Nat) : Option Blk :=
  if d = 0 then
    if w = 0 then some .chipId else if w = 1 then some .amap else if w = 2 then some .ecc
    else if w = 3 then some .dawn else if w = 4 then some .owner else none
  else if d ≤ 4 then if w < 0x20 then some .pc else if w = 0x20 then some .qme else none
  else if d = 5 then if w < 6 then some .fp else if w = 8 then some .txn else none
  else if d = 6 ∨ d = 14 then
    if w = 0 then some .rnode else if w = 1 then some .tbl else if w = 2 then some .sync
    else if 8 ≤ w ∧ w < 14 then some .rport else none
  else if d = 7 then
    if w = 0 then some .fcore else if w = 1 then some .rgn else if w = 2 then some .mir
    else if w = 3 then some .pf else none
  else if d = 8 then
    if w = 0 then some .hctl else if w = 1 ∨ w = 2 then some .hb else if w = 4 then some .key else none
  else if d = 9 then
    if w = 0 then some .rung else if w = 1 then some .gov else if w = 2 then some .clk
    else if w = 3 then some .therm else none
  else if d = 10 then
    if w = 0 then some .batt else if w = 1 then some .core else if w = 2 then some .i3c
    else if w = 3 then some .fwup else if w = 4 then some .log else if w = 5 then some .lc
    else if w = 8 then some .fault else none
  else if d = 11 then if w = 0 then some .otp else none
  else if d = 12 then if w = 0 then some .bist else none
  else if d = 13 then if w < 14 then some .perf else if w = 15 then some .pglobal else none
  else if d = 15 then if w = 0 then some .line else if w = 1 then some .trace else none
  else none

/-- A register found by its address: the block, the window base and the offset in the decoded range. -/
structure Site where
  blk : Blk
  base : Nat
  off : Nat
deriving DecidableEq, Repr

/-- Decoding of a management address (R535-R538). -/
def siteOf (a : Nat) : Option Site :=
  let d := a / 0x100000 % 16
  let w := a / 0x1000 % 256
  match blockOf d w with
  | none => none
  | some b => some ⟨b, (if d = 14 then 6 else d) * 0x100000 + w * 0x1000, a % 2 ^ b.k⟩

/-- The register that holds an offset, and its index in an array of registers. -/
def specAt : List RegSpec → Nat → Option (RegSpec × Nat)
  | [], _ => none
  | r :: rs, o =>
    if r.off ≤ o ∧ o < r.off + r.stride * r.count ∧ (o - r.off) % r.stride = 0 then some (r, (o - r.off) / r.stride)
    else specAt rs o

/-! ### Sources of the fault collector (R456) -/

/-- Reaction bits of R457: INT, TRAP, BLOCK_RESET, CHIP_RESET, ERR_PIN. -/
abbrev actInt : Nat := 1
abbrev actTrap : Nat := 2
abbrev actBlockReset : Nat := 4
abbrev actChipReset : Nat := 8
abbrev actErrPin : Nat := 16

/-- An index listed in R456. -/
def srcImpl (n : Nat) : Bool :=
  n ≤ 0x029 || (0x030 ≤ n && n ≤ 0x035) ||
  (0x040 ≤ n && n < 0x140 && (let k := (n - 0x040) % 0x40; k ≤ 9 || 0x10 ≤ k)) ||
  (0x140 ≤ n && n < 0x188) || (0x188 ≤ n && n ≤ 0x18A) || (0x190 ≤ n && n ≤ 0x194) ||
  (0x198 ≤ n && n ≤ 0x1A1) || (0x1A8 ≤ n && n < 0x1B8 && (n - 0x1A8) % 8 ≤ 6) ||
  n = 0x1B8 || n = 0x1B9 || (0x1C0 ≤ n && n ≤ 0x1D6) || (0x1E0 ≤ n && n ≤ 0x1E5) ||
  (0x1E8 ≤ n && n ≤ 0x1EB) || n = 0x1F0

/-- Default REACT of a source (R456); 0: LOG_ONLY. -/
def srcReact (n : Nat) : Nat :=
  let ie := actInt + actErrPin
  if !srcImpl n then 0
  else if n = 0x000 then ie
  else if n = 0x002 then 0
  else if n = 0x005 then ie
  else if n = 0x006 then 0
  else if n = 0x007 then actBlockReset
  else if n = 0x009 then actErrPin
  else if n = 0x00C then ie
  else if n = 0x00D ∨ n = 0x00E then 0
  else if 0x032 ≤ n ∧ n ≤ 0x034 then ie
  else if n = 0x035 then 0
  else if 0x040 ≤ n ∧ n < 0x140 then
    let k := (n - 0x040) % 0x40
    if k = 2 ∨ k = 4 then ie
    else if k = 6 then actBlockReset
    else if k = 7 ∨ k = 8 then ie
    else if k = 9 then 0
    else if 0x20 ≤ k then ie
    else actInt
  else if 0x140 ≤ n ∧ n < 0x188 then
    let k := (n - 0x140) % 0x0C
    if k = 3 then ie
    else if 4 ≤ k ∧ k ≤ 7 then 0
    else if k = 9 ∨ k = 10 then ie
    else if k = 11 then 0
    else actInt
  else if 0x188 ≤ n ∧ n ≤ 0x18A then 0
  else if n = 0x191 then ie
  else if n = 0x192 ∨ n = 0x194 then 0
  else if n = 0x198 ∨ n = 0x1A0 ∨ n = 0x1A1 then ie
  else if 0x1A8 ≤ n ∧ n < 0x1B8 then
    let k := (n - 0x1A8) % 8
    if k = 3 ∨ k = 5 then ie else if k = 4 then 0 else actInt
  else if n = 0x1B8 ∨ n = 0x1B9 then ie
  else if n = 0x1C1 then actTrap
  else if n = 0x1C9 then actErrPin
  else if 0x1CA ≤ n ∧ n ≤ 0x1D5 then ie
  else if n = 0x1E0 ∨ n = 0x1E9 ∨ n = 0x1EB ∨ n = 0x1F0 then 0
  else actInt

/-- A source that has a block reset (R456, R458). -/
def srcHasBlockReset (n : Nat) : Bool :=
  n = 0x006 || n = 0x007 || (0x00F ≤ n && n ≤ 0x029) || (0x040 ≤ n && n < 0x140 && (n - 0x040) % 0x40 = 6) ||
  (0x140 ≤ n && n < 0x188) || (0x1A8 ≤ n && n < 0x1B8 && (n - 0x1A8) % 8 ≤ 6)

/-- Management domain of a source (R573). -/
def srcDomain (n : Nat) : Nat :=
  if n < 0x030 then 0xA else if n ≤ 0x032 then 0 else if n ≤ 0x034 then 5 else if n = 0x035 then 6
  else if n < 0x140 then 1 + (n - 0x040) / 0x40 else if n ≤ 0x18A then 5 else if n ≤ 0x194 then 6
  else if n ≤ 0x1A1 then 7 else if n ≤ 0x1B9 then 8 else if n ≤ 0x1D6 then 9 else if n ≤ 0x1E5 then 0xB
  else if n ≤ 0x1EB then 0xC else 0xF

/-- The reset word of the register at a normalised address: the value the tables give; what no table names reads 0
(R7, R539). -/
def resetWord (a : Nat) : Word :=
  match siteOf a with
  | none => 0
  | some t =>
    match specAt (regsOf t.blk) t.off with
    | none => 0
    | some (r, i) =>
      if t.blk = .fault ∧ r.off = 0x800 then BitVec.ofNat 32 (srcReact i + if srcImpl i then 0x80000000 else 0)
      else BitVec.ofNat 32 r.reset

end Sys2Proof.Machine
end

