-- ==== Sys2Proof/Machine/State.lean ====
section
/-! DEFINITION. The state of the block as plain data, the reasons a step can stop, and the state after reset.
Every software-visible register of R540 lives in `regs` under its management address (an unlisted address reads as
its reset word, Machine/RegTable.lean), every WIDE field in `wide`; the structures below hold what the registers do
not show. -/
namespace Sys2Proof.Machine

/-- No meaning of this model ends in a fault: the block answers every command with a next state. The one reason
kept is for a command whose operands are not well formed; raised by nobody. Safe. -/
inductive Fault where
  /-- Raised by nobody. Safe. -/
  | illFormed
deriving DecidableEq, Repr

/-- Why a command has no meaning. -/
inductive Refusal where
  /-- Raised by Dispatch for a command whose meaning is not written yet. Safe. -/
  | notModelled (mnemonic : String)
deriving DecidableEq, Repr

/-! ### Fabric ports -/

/-- A packet in the crossbar or a port queue: virtual channel (R83) and slots; in a transmit queue, the port that a
forwarded packet arrived on (R149, R171). -/
structure Packet where
  vc : BitVec 2
  slots : List Slot
  inp : Option Nat
deriving DecidableEq, Repr

/-- A flit as it came on the nine lanes: the PAM4 levels by receiver input, two bits each, and the keystream of each
logical lane for it (R84, R85). -/
structure RxFlit where
  lanes : List (BitVec 320)
  keys : List Nat
deriving DecidableEq, Repr

/-- What the registers of FAB.FPn do not show of a port: link, replay and training (R76-R111). -/
structure Fp where
  /-- Sequenced flits held for replay, oldest first: number, kind, slot descriptors, payload (R88). -/
  replay : List (BitVec 12 × BitVec 4 × BitVec 16 × BitVec 512)
  /-- Number of the next sequenced flit (R88). -/
  txSeq : BitVec 12
  /-- Held flits still to be resent, counted from the end of `replay` (R90). -/
  resend : Nat
  /-- Times the present oldest flit has been sent without ACK progress (R91). -/
  oldestSent : Nat
  /-- NAK-pending of the receiver (R89). -/
  nakPending : Bool
  /-- A NAK waits to be sent (R89). -/
  nakToSend : Bool
  /-- Flit times since the last NAK was sent, up to 64 (R89). -/
  sinceNak : Nat
  /-- Slots freed per virtual channel, modulo 1024 (R96). -/
  freed : Tab (BitVec 10)
  /-- Last credit total received per virtual channel (R96). -/
  lastTotal : Tab (BitVec 10)
  /-- Receive slots in use per virtual channel (R97). -/
  rxUsed : Tab Nat
  /-- Packet being received per virtual channel (R83, R116). -/
  partialRx : Tab (List Slot)
  /-- Whole packets received and waiting at the crossbar, oldest first. -/
  rxq : List Packet
  /-- Packets waiting to be sent, oldest first. -/
  txq : List Packet
  /-- The packet of each virtual channel whose slots are being sent (R83). -/
  sending : Tab (List Slot)
  /-- Flit times that the head of each virtual channel has been ready (R98). -/
  ready : Tab Nat
  /-- Link control messages waiting to be sent (R100). -/
  lctl : List Slot
  /-- The partner's CREDIT_ADV has arrived since the last full training (R94). -/
  advReceived : Bool
  /-- Flits since the last NULL (R99). -/
  sinceNull : Nat
  /-- Rotation of the virtual channel whose total the next flit carries (R96). -/
  crTurn : BitVec 2
  /-- Scrambler of each logical lane, per direction: its state at the position that the flit count gives (R85). -/
  rxScr : Tab Nat
  txScr : Tab Nat
  /-- Logical lane that the device's transmit shadow is on (R77). -/
  txShadow : BitVec 3
  /-- The last flit put on the wire (R98); zero before the first. -/
  wire : BitVec 640
  /-- What the transmit lanes carry now, by physical lane: PAM4 levels of a flit or of a training frame (R76, R84); a
  lane that is not listed carries nothing usable. -/
  lanes : List (Nat × BitVec 320)
  /-- Damaged flits received since the receiver became NAK-pending, oldest first (R101). -/
  damaged : List RxFlit
  /-- Receiver input on which each physical lane of the partner arrives (R75). -/
  pins : Tab Nat
  /-- The training under way is a recovery (R80). -/
  recovering : Bool
  /-- Failed full trainings, failed recoveries in a row (R79, R80, R93). -/
  trainFails : Nat
  recFails : Nat
  /-- EQ at 112 Gb/s has failed (R79). -/
  eqFail112 : Bool
  /-- Good frames in a row per physical lane, lanes marked failed, lanes with EQ done (R79); lanes marked failed when
  LOCK ended; lanes whose markers are aligned in DESKEW. -/
  frames : Tab Nat
  lockFailed : BitVec 9
  aligned : BitVec 9
  laneFailed : BitVec 9
  txLaneFailed : BitVec 9
  eqDone : BitVec 9
  partnerEq : BitVec 9
  /-- Partner's state, USE112, WIDTH, MAP and consecutive equal CONFIG frames (R78, R79). -/
  partnerState : BitVec 4
  partnerCap112 : Bool
  config : BitVec 38
  configSame : Nat
  /-- Per lane: FFE requests of this round of EQ, the request now sent and the answer to the partner's last request
  (R78); transmitter taps in steps from the preset, key 2 * lane + 1 for the post-cursor. -/
  ffeReqs : Tab Nat
  ffeReq : Tab (BitVec 4)
  ffeStat : Tab (BitVec 4)
  ffe : Tab Int
  /-- Physical lanes that start the next training as failed (R476 item 0); those that a recovery retires (R105, R107). -/
  startFailed : BitVec 9
  recFailed : BitVec 9
  /-- Rejoin attempts made per retired lane (R108), lanes under LANE_TEST by the device's receiver with the time each
  test began, and the lane on which the device's transmitter sends training frames at the peer's request, since when. -/
  attempts : Tab Nat
  testing : List (Nat × Nat)
  txTest : Option (BitVec 4 × Nat)
  /-- SPARE_REQ(k) sent and not yet answered (R102). -/
  spareReq : Option (BitVec 3)
  /-- The peer's or the device's transmitter is idle (R109). -/
  peerIdle : Bool
  txIdle : Bool
  /-- Flit times of training frames still to be sent before the transmitter sends flits again (R109). -/
  resumeLeft : Nat
  /-- A change asked for a HELLO while the port was in recovery (R160). -/
  helloOwed : Bool
  /-- The port was lost and has not become routable since (R177); a lost port's outcome of R162. -/
  lost : Bool
  /-- Recorded neighbour: NODE and UID (R162); UID of the last HELLO is the NBR_UID mailbox entry. -/
  recorded : Option (BitVec 12 × BitVec 64)
  /-- Failing mismatch conditions at the last evaluation, as a set of event numbers 5-8 (R162). -/
  mismatch : List Nat
  /-- Damaged flits seen in the present 1 ms window: times (R456 FPn_CRC_RATE). -/
  damagedAt : List Nat
  /-- The lanes are squelched or the SerDes powered down (R334, R337). -/
  squelched : Bool
deriving DecidableEq, Repr

/-- A port before its first training. -/
def Fp.reset : Fp :=
  { replay := [], txSeq := 0, resend := 0, oldestSent := 0, nakPending := false, nakToSend := false, sinceNak := 64,
    freed := [], lastTotal := [], rxUsed := [], partialRx := [], rxq := [], txq := [], sending := [], ready := [],
    lctl := [], advReceived := false, sinceNull := 0, crTurn := 0, rxScr := [], txScr := [], txShadow := 0, wire := 0,
    lanes := [], damaged := [], pins := [], recovering := false, trainFails := 0, recFails := 0, eqFail112 := false,
    frames := [], lockFailed := 0, aligned := 0, laneFailed := 0, txLaneFailed := 0, eqDone := 0, partnerEq := 0,
    partnerState := 0, partnerCap112 := false, config := 0, configSame := 0, ffeReqs := [], ffeReq := [], ffeStat := [],
    ffe := [], startFailed := 0, recFailed := 0, attempts := [], testing := [], txTest := none, spareReq := none,
    peerIdle := false, txIdle := false, resumeLeft := 0, helloOwed := false, lost := false, recorded := none, mismatch := [],
    damagedAt := [], squelched := false }

/-! ### Requests and channel controllers -/

/-- What an entry of a queue does (R189, R197, R576). -/
inductive Op where
  | read          -- RD
  | fullWrite     -- WR
  | merge         -- read half of a merge entry's retirement (R203)
  | tagOp         -- TAG
  | debugRead     -- DBG line read (R556)
  | restoreWrite  -- restore or fault-in write, order 1
  | healWrite     -- heal write, order 1 (R244)
  | poisonWrite   -- poison write, order 1 (R246)
  | cowRead       -- copy-on-write read, order 2 (R307)
  | cowCopy       -- copy to a shadow slot, order 2
  | mirrorWrite   -- MIR_WR received, order 3 (R135)
  | destageRead   -- order 4 (R292)
  | clearD        -- metadata-only write, order 4 (R292)
  | seedWrite     -- seed admission read-modify-write, order 4 (R300)
  | resyncRead    -- mirror resync read, order 4 (R322)
  | carderRead    -- order 5 (R247)
  | revisitRead   -- order 5 (R250)
  | writeBack     -- order 5 (R249)
deriving DecidableEq, Repr

/-- Why an entry of the write queue is held (R191, R298, R311). -/
inductive Hold where
  | none
  | backPressure
  | copyRead      -- waits for its copy-on-write read (R307)
  | cowStall
  | mergeFull     -- a partial write waiting for a merge entry (R202)
  | reread        -- its hold has ended, and its read waits for room in the L1 read queue (R190)
deriving DecidableEq, Repr

/-- One operation in a queue. -/
structure Entry where
  op : Op
  /-- Local line index (R29). -/
  line : Nat
  /-- Arrival order, over the whole device (R142, R133). -/
  order : Nat
  /-- Port the request arrived on; none for the device's own operations. -/
  port : Option Nat
  /-- Header of the request; opcode as in R117. -/
  opc : BitVec 5
  req : Req
  /-- Data of a write, line content of a device write. -/
  data : Content
  /-- Byte mask of a WRM, slot 1 of an ATOM. -/
  aux : BitVec 128
  /-- Open epoch at acceptance (R302). -/
  epoch : BitVec 32
  /-- The read was admitted to L0 (R192). -/
  l0 : Bool
  /-- The read is a retry of an uncorrectable line (R242), with the raw symbol 51 of the first read. -/
  retryOf : Option (BitVec 10)
  hold : Hold
  /-- Its response has been sent, or it needs none. -/
  answered : Bool
  /-- Line slots it has waited (R197, R203). -/
  waited : Nat
deriving DecidableEq, Repr

/-- An entry of the write-merge buffer (R202). -/
structure MergeEntry where
  line : Nat
  members : List Entry
  /-- Line slots since it was opened (R203). -/
  age : Nat
  /-- Its read is due and waits for room in the L1 read queue, or has entered that queue (R203). -/
  due : Bool
  readIssued : Bool
  /-- It is read because a request waits for an entry (R203). -/
  pressed : Bool
  /-- A full write accepted after the read was issued supersedes it (R204). -/
  superseded : Bool
deriving DecidableEq, Repr

/-- Bank states of R185. -/
inductive BankState where
  | idle
  | active (row : Nat)
  | precharging
  | refreshing
deriving DecidableEq, Repr

/-- The last command that closed a bank: PRE, REFpb or REFmu (R184, R213). -/
inductive Closing where
  | pre
  | refpb
  | refmu
deriving DecidableEq, Repr

/-- A bank: its state and the moments (in sixths of a nanosecond of the controller's clock) that bind it (R184). A moment
of 0 is never. -/
structure Bank where
  st : BankState
  actAt : Nat
  lastRead : Nat
  lastWriteEnd : Nat
  /-- The last PRE, REFpb or REFmu, and when it was issued. -/
  closedBy : Closing
  closedAt : Nat
  /-- Column commands have been issued since the ACT. -/
  touched : Bool
  /-- Writes whose WR in-order mode waits for: arrival orders (R200). -/
  waitsFor : List Nat
  /-- A refresh has been issued while an admitted L0 read waited to open the bank: its ACT is the next command (R218). -/
  actNext : Bool
  /-- The open row was opened for an admitted L0 read while the bank owed a forced make-up: it closes under R186 (R225). -/
  l0Row : Bool
deriving DecidableEq, Repr

def Bank.reset : Bank := ⟨.idle, 0, 0, 0, .pre, 0, false, [], false, false⟩

/-- A read whose burst has come from the Crown and awaits LINE_DECODE, or the QME's decode: the entry and the raw codeword
delivered; in the Carder decode queue, the die that its tier had erased when the last beat arrived (R240). -/
structure InFlight where
  entry : Entry
  raw : Line
  die : Option Nat
deriving DecidableEq, Repr

/-- Training of a pseudo-channel (R268-R272). -/
structure Training where
  seeded : Bool
  /-- Position in the order 10, 0, 1, ..., 9. -/
  step : Nat
  /-- The current lane group is complete and a frequency change is held: training waits for it (R288). -/
  parked : Bool
deriving DecidableEq, Repr

/-- Phase of a live calibration round (R276-R285). -/
inductive CalPhase where
  | paused
  | comparing
  | window
  | judged
deriving DecidableEq, Repr

/-- What a calibration window counted for a lane (R277, R278): the probes that pass, and T. -/
structure LaneCount where
  lane : Nat
  pass : BitVec 16
  trans : Nat
deriving DecidableEq, Repr

/-- What the registers of Qq.PCmmm do not show of a pseudo-channel. -/
structure Pc where
  /-- The read queues: latency-critical, L1 and L2 (R189). -/
  l0 : List Entry
  l1 : List Entry
  l2 : List Entry
  /-- Reads that are to be issued once more, each as the next command to its bank (R242). -/
  retryQ : List Entry
  /-- The write queue and the write-merge buffer (R189, R202). -/
  wq : List Entry
  mergeBuf : List MergeEntry
  /-- Requests waiting in the crossbar's queue for a full queue (R190). -/
  xbarQ : List Entry
  /-- Work the L2 sources have that has not entered the L2 queue yet (R576). -/
  feed : List Entry
  /-- The 32 banks (R185). -/
  banks : Tab Bank
  /-- Lines that have come from the Crown and wait to be decoded, oldest first (R236). -/
  inFlight : List InFlight
  /-- The controller's clock, in sixths of a nanosecond. -/
  clock : Nat
  /-- Line slots passed (R192 condition 1). -/
  slotNo : Nat
  /-- Slot numbers of the L0 admissions in the last 100 slots (R192). -/
  admits : List Nat
  /-- End of the last burst and its direction (true: write); last column command and end of the last write burst by bank
  group, group 4 for a pattern burst (R184). -/
  busEnd : Nat
  busWrite : Bool
  lastCol : Tab Nat
  wrEnds : Tab Nat
  /-- Column commands by bank group since the QME's last slot (R231). -/
  groupUse : Tab Nat
  /-- Times and bank groups of the last ACTs, newest first (tRRD, tFAW). -/
  acts : List (Nat × Nat)
  /-- Weights left of the round robin (R195). -/
  w1 : Nat
  w2 : Nat
  /-- Write priority within L1 is in force (R196). -/
  draining : Bool
  /-- Position in the 16-slot window of R408, and slots L1/L2 have taken in it. -/
  capPos : Nat
  capUsed : Nat
  capL2 : Nat
  /-- The TSV PHY has not reported the new point: no column commands (R188). -/
  stopped : Bool
  /-- The dies are in power-down (R228). -/
  powerDown : Bool
  /-- L0_SHARE in force (R194); timing writes taken at the next line-slot boundary, by register index, 4 for TRFCPB
  (R212, R213). -/
  share : Nat
  timingDue : Tab Nat
  /-- Position in due order (R215). -/
  duePos : Nat
  /-- Make-up order the QME wrote last; empty: due order (R231). -/
  makeUp : List Nat
  /-- Banks that owe a forced make-up, and the one whose REFmu is in flight (R225). -/
  forced : List Nat
  muInFlight : Option Nat
  /-- Carder decode queue and revisit queue (R248, R250); lines of the page at WALK_PTR already read; page intervals
  that have started and whose page has not been read (R247). -/
  decodeQ : List InFlight
  revisitQ : List Nat
  pageRead : Nat
  pagesDue : Nat
  restartWalk : Bool
  /-- Lines that hold the walk while the heal table is full (R244). -/
  healHold : List Nat
  /-- Number of the present page visit of the walk (R253). -/
  visit : Nat
  /-- Lanes blamed in each of the last 64 decoded lines (R255). -/
  laneLog : List (List Nat)
  /-- Live calibration: index of the round in the 22 of a pass, passes completed, phase, last window (R275). -/
  round : Nat
  passes : Nat
  phase : CalPhase
  skipPairs : BitVec 4
  window : List LaneCount
  windowReady : Bool
  /-- Pattern calibration: direction of the window, probe index, slots owed after refreshes, result (R287). -/
  patWrite : Bool
  patOwed : Nat
  patWindow : List LaneCount
  patReady : Bool
  /-- What the TSV lanes carried in the last line slot that used the data bus, by lane number, beat b in bit b (R235, R265);
  a lane that is not listed carried nothing. -/
  lanes : List (Nat × BitVec 16)
  /-- Line slots of the round's direction since the live window began, and pattern slots since the pattern window began: the
  probe index is the number modulo 16 (R277, R287); seed index of the next pattern slot (R266). -/
  winSlots : Nat
  patSlots : Nat
  seedIdx : BitVec 8
  /-- Record of the write checker of each die of the tier (R268); records that CALRDs fetch, each in a line slot still to
  come: die and record (R267). -/
  checker : Tab (BitVec 80)
  calrdQ : List (Nat × BitVec 80)
  /-- Assist bursts in the live window, and pattern slots left of the one under way (R280). -/
  bursts : Nat
  burstLeft : Nat
  /-- Training under way (R269). -/
  training : Option Training
  /-- Device time at which the pseudo-channel went OUT (R272), and whether it was retrained since. -/
  outSince : Option Nat
  retrained : Bool
  /-- First slot of the QME rotation that ends REJOINING has begun (R210). -/
  rejoinSlot : Bool
  /-- Lines that were saved and are excluded from destage while array BIST runs (R481). -/
  bistHeld : Bool
deriving DecidableEq, Repr

/-- A controller right after reset. -/
def Pc.reset : Pc :=
  { l0 := [], l1 := [], l2 := [], retryQ := [], wq := [], mergeBuf := [], xbarQ := [], feed := [], banks := [], inFlight := []
    clock := 0, slotNo := 0, admits := [], busEnd := 0, busWrite := false, lastCol := [], wrEnds := [], groupUse := []
    acts := [], w1 := 8, w2 := 2, draining := false, capPos := 0, capUsed := 0, capL2 := 0, stopped := false
    powerDown := false, share := 60, timingDue := [], duePos := 0, makeUp := [], forced := [], muInFlight := none
    decodeQ := [], revisitQ := [], pageRead := 0, pagesDue := 0, restartWalk := false, healHold := [], visit := 0
    laneLog := [], round := 0, passes := 0, phase := .paused, skipPairs := 0, window := [], windowReady := false
    patWrite := false, patOwed := 0, patWindow := [], patReady := false, lanes := [], winSlots := 0, patSlots := 0, seedIdx := 0, checker := []
    calrdQ := [], bursts := 0, burstLeft := 0
    training := none, outSince := none
    retrained := false, rejoinSlot := false, bistHeld := false }

/-- A Quadrant Maintenance Engine: position in the rotation, who owns each of the coming slots where a pre-emption
has swapped them, who waits to pre-empt in drift order, who gave up which slot of the rotation (R10, R11); pending TSV
change. -/
structure Qme where
  pos : Nat
  swapped : Tab Nat
  /-- When the drift passed the threshold, and the pseudo-channel. -/
  waiting : List (Nat × Nat)
  gaveUp : List (Nat × Nat)
  /-- Pseudo-channel whose slot is under way. -/
  current : Nat
  /-- A point change is being carried out, with its target (R188). -/
  changing : Option (BitVec 2)
deriving DecidableEq, Repr

def Qme.reset : Qme := ⟨0, [], [], [], 0, none⟩

/-! ### Line code and repair -/

/-- A heal in the heal table (R244, R245). -/
structure Heal where
  line : Nat
  waiters : List Entry
  /-- Arrival order of the operation that found the line. -/
  order : Nat
  /-- A full-line write has been accepted since the uncorrectable read. -/
  overwritten : Bool
  startedAt : Nat
deriving DecidableEq, Repr

/-- A repair candidate (R253). -/
structure Candidate where
  die : Nat
  pc : Nat
  bank : Nat
  column : Bool
  index : Nat
deriving DecidableEq, Repr

/-- An entry of a core die's fuse map (R252, R254). -/
structure Fuse where
  die : Nat
  pc : Nat
  bank : Nat
  column : Bool
  index : Nat
deriving DecidableEq, Repr

/-- Device-wide state of the line code: die-search strikes with their times per tier (R239), the armed injection
(R260), heal table and lines waiting for it, repair candidates, strikes that make them, core-die fuse maps and the
burn in progress. -/
structure Ecc where
  strikes : List (Nat × Nat × Nat)
  inj : Option (BitVec 2 × Nat × Line)
  /-- The injection that fired last and whose line is not settled yet (R261): stage, line and mask. -/
  hit : Option (BitVec 2 × Nat × Line)
  heals : List Heal
  healWait : List Heal
  cands : List Candidate
  rowStrikes : List (Candidate × List Nat)
  colStrikes : List (Candidate × List Nat)
  fuses : List Fuse
  burning : Option Fuse
  /-- Fuse map entries in force: those that Dawn loaded (R252). -/
  spared : List Fuse
deriving DecidableEq, Repr

def Ecc.reset : Ecc := ⟨[], none, none, [], [], [], [], [], [], none, []⟩

/-! ### Fuller -/

/-- Who waits for a deferred command (R306, R326): a fabric request with the number of its outcome record (R154). -/
inductive Waiter where
  | fabric (port : Nat) (req : Req) (opc : BitVec 5) (id : Nat)
  | mgmt
deriving DecidableEq, Repr

/-- A REGION FLUSH or FLUSH_ALL under way: the units dirty when it began (R130, R296). -/
structure FlushJob where
  who : Waiter
  region : Option Nat
  units : List Nat
  /-- Arrival order at which it began: a destage begun before need not have read every line dirty then (R130). -/
  order : Nat
deriving DecidableEq, Repr

/-- A destage under way (R292): unit, arrival order at its start, lines read so far with what they held, lines read with
D = 1 that no write has followed, NVMe commands not yet complete, as port and command number. -/
structure Destage where
  unit : Nat
  order : Nat
  got : Tab Content
  clear : List Nat
  epoch : BitVec 32
  cmds : List (Nat × Nat)
  written : Bool
deriving DecidableEq, Repr

/-- A MIR_WR awaiting its response (R134, R318). -/
structure MirOut where
  tag : BitVec 12
  line : Nat
  region : Nat
  /-- Requests whose change this MIR_WR carries, and those that changed the line since. -/
  carried : List Entry
  later : List Entry
  /-- Sent at, and first RETRY_LATER at. -/
  sentAt : Nat
  retrySince : Option Nat
  /-- It is part of a resync (R322). -/
  resync : Bool
deriving DecidableEq, Repr

/-- The Fuller (R289-R327), beside the registers of FULLER. -/
structure Fuller where
  /-- Unit state map: units with a non-zero state (R290). -/
  map : Tab (BitVec 2)
  /-- Seed units not yet admitted, ascending (R300). -/
  seeds : List Nat
  /-- Rotating pointer of R296. -/
  ptr : Nat
  jobs : List Destage
  /-- Tseal, when a seal point is set and not reached (R304), and the commands that share it. -/
  sealAt : Option Nat
  sealers : List Waiter
  deferred : List Waiter
  waits : List (BitVec 32 × Waiter)
  flushes : List FlushJob
  /-- Commands waiting in the crossbar for one of the 256 places (R306). -/
  xbarCmds : List (BitVec 5 × Nat × Req)
  /-- Shadow blocks in use: block unit and home lines of its copies (R309). -/
  shadow : List (Nat × List Nat)
  shadowNext : Nat
  /-- In catch-up: units dirty when it began (R295). -/
  catchUp : Option (List Nat)
  /-- The COMMIT record being written, with its region mask (R313, R317). -/
  commit : Option (BitVec 32 × BitVec 64 × Bool)
  mirOut : List MirOut
  mirTag : BitVec 12
  /-- Answers of modifying requests on MIRRORED lines whose MIR_WR waits for an earlier request of the line (R318). -/
  mirWait : List Entry
  /-- Resync chunks marked, by region (R321), and lines of chunks still to be sent. -/
  chunks : Tab (List Nat)
  /-- Regions matched with their mirror (R41). -/
  matched : List Nat
  /-- Highest epoch number ever written to a Hatbox (R301). -/
  highest : BitVec 32
deriving DecidableEq, Repr

def Fuller.reset : Fuller :=
  { map := [], seeds := [], ptr := 0, jobs := [], sealAt := none, sealers := [], deferred := [], waits := [], flushes := []
    xbarCmds := [], shadow := [], shadowNext := 0, catchUp := none, commit := none, mirOut := [], mirTag := 0, mirWait := []
    chunks := [], matched := [], highest := 0 }

/-- Power failure and restore (R328-R359), beside the registers of FULLER.PF. -/
structure Pf where
  /-- Time of the power-fail, Thalt or Midnight point. -/
  pointAt : Nat
  /-- PWRFAIL_N is low; when it rose last; a rail of R564 failed. -/
  low : Bool
  roseAt : Nat
  /-- The 20 us drain window runs; the fabric lanes are squelched by R334. -/
  drainWindow : Bool
  /-- A Batt step in APPLYING delays stage 0 (R71); a Night exit's links do (R401). -/
  stage0Held : Bool
  /-- Energy stop of R336. -/
  energyShort : Bool
  /-- FLUSH_END carries RESUMED (R338); O was committed masked. -/
  resumed : Bool
  maskedO : Bool
  /-- Safe state reached by a Thalt flush: fabric ports stay up (R339); a wake request is held. -/
  thaltSafe : Bool
  wakeHeld : Bool
  /-- Restore: units are unrestored unless listed; bulk pointer; wait list of (unit, request); fault-ins running. -/
  restoring : Bool
  restored : Tab Bool
  bulkPtr : Nat
  waitList : List (Nat × Entry)
  faultIns : List Nat
  /-- Reported unsaved ranges (start, length, region, unknown) and the FIFO of them (R355); sampled poison switch. -/
  reported : List (Nat × Nat × Nat × Bool)
  unsaved : List (Nat × Nat × Nat × Bool)
  poison : Bool
  /-- Restore epoch per region, abandoned ranges (region, r, h) (R344, R345). -/
  restoreEpoch : Tab (BitVec 32)
  abandons : List (Nat × BitVec 32 × BitVec 32)
  /-- Audit: in progress, done; Va in mV, audited and live energy in nJ; time since which a higher EFF has
  been supported (R330, R331). -/
  auditing : Bool
  audited : Bool
  vaMv : Nat
  eaNj : Nat
  elNj : Nat
  higherSince : Option Nat
  /-- The least EFF that El has supported since then. -/
  higherMin : Nat
  /-- PWRFAIL_N has asserted during this flush (R336, R358). -/
  pfSeen : Bool
  /-- The FLUSH_END of this flush has been issued (R338). -/
  endIssued : Bool
  /-- The flush began at a power-fail point, so it may resume (R338). -/
  mayResume : Bool
  /-- A zero-fill of the Crown runs (R513), and it ends a wait non-durably (R514). -/
  zeroFill : Bool
  serveNd : Bool
  /-- Units that were dirty at the flush point: the bitmap of FLUSH_START (R328). -/
  bitmap : List Nat
  /-- Units whose restore writes are under way (R346, R350). -/
  writing : List Nat
deriving DecidableEq, Repr

def Pf.reset : Pf :=
  ⟨0, false, 0, false, false, false, false, false, false, false, false, [], 0, [], [], [], [], false, [], [], false,
   false, 0, 0, 0, none, 0, false, false, false, false, false, [], []⟩

/-! ### Hatboxes -/

/-- What an NVMe command of the device carries. -/
inductive NvmeOp where
  | writeUnit (unit : Nat) (blocks : List Block)
  | writeRecord (rec : RecordKind) (b : Block)
  | read (unit : Nat) (forHeal : Option Nat)
  | format
  | super
  | flush
  | resync (unit : Nat)
deriving DecidableEq, Repr

/-- A command outstanding on a port: number, queue (R363), operation, whether Abort was issued (R367). -/
structure NvmeCmd where
  cid : Nat
  qid : Nat
  op : NvmeOp
  aborted : Bool
deriving DecidableEq, Repr

/-- A Hatbox port, beside the registers of HBOX.HBn. -/
structure Hb where
  cart : Option Cart
  cmds : List NvmeCmd
  nextCid : Nat
  /-- Step of a PAIR under way (R371). -/
  pairing : Nat
  ejecting : Bool
  resetting : Bool
  /-- Unit that the resynchronisation copies next (R391). -/
  resyncNext : Nat
  /-- Data Units Written at the hourly readings of the last seven days, newest first (R387). -/
  wearLog : List Nat
  logSinceCkpt : Nat
  /-- D3cold (R399). -/
  cold : Bool
  /-- Found worn during a flush: the change waits for FLUSH_END (R388). -/
  wornHeld : Bool
deriving DecidableEq, Repr

def Hb.reset : Hb := ⟨none, [], 0, 0, false, false, 0, [], 0, false, false⟩

/-! ### Batt, OTP, NOR -/

/-- An image in force or a checked image: its items by key 64*ITEM + INDEX, serial and bytes (R52, R53). -/
structure Image where
  items : Tab (BitVec 32)
  serial : BitVec 32
  bytes : List (BitVec 8)
deriving DecidableEq, Repr

/-- MGMT.BATT beside its registers (R57-R72). -/
structure Batt where
  active : Option Image
  /-- Staging buffer, by word (R61). -/
  staging : Tab Word
  /-- A command under way: its image, and whether the image is being stored first. -/
  cmd : Option (Image × Bool)
  /-- Slot being written by a store (R65). -/
  storeSlot : BitVec 1
  /-- Scopes quiesced: device, quadrants, ports, Hatbox, regions (R67). -/
  quiesced : List Nat
  /-- The master whose GO is held until the command under way ends (R72). -/
  held : Option Master
  /-- The master that started the command under way (R62). -/
  starter : Option Master
  /-- Quadrant scopes whose new values are in force and that retrain before they rejoin (R67). -/
  rejoining : List Nat
  /-- Units dirty when a quiesce of the Hatbox scope began that are not durable yet, and the arrival order at which it
  began (R67, R296). -/
  flushing : List Nat
  began : Nat
  /-- Forwarding waits: IDENTITY differs in a device that is quiesced (R67). -/
  holdForward : Bool
deriving DecidableEq, Repr

def Batt.reset : Batt := ⟨none, [], none, 0, [], none, none, [], [], 0, false⟩

/-- An OTP command that is held (R506), with what it will meet when it runs. -/
inductive OtpHeld where
  | read (tight : BitVec 72)
  | prog (cond : BurnConditions) (verified : Bool)
  | seal (cond : BurnConditions) (verified : Bool) (weak : List Nat)
  | reburn (cond : BurnConditions) (agree verified : Bool)
  | redirect (cond : BurnConditions)
deriving DecidableEq, Repr

/-- OTP beside its registers (R492-R507): the array's words with ECC in bits [71:64], the spare rows, the weak list,
registers loaded at Dawn. -/
structure Otp where
  words : Tab (BitVec 72)
  spares : Tab (BitVec 72)
  weak : List Nat
  /-- The Dawn reading step is not over: a master's command is held (R506). -/
  held : Bool
  lifecycle : Nat
  rollback : Nat
  policy : BitVec 2
  pendingLc : Option Nat
  /-- The command that waits for the end of the Dawn step; a second one replaces it (R506, R507). -/
  waiting : Option OtpHeld
deriving DecidableEq, Repr

/-! ### Management complex, faults, self-test -/

/-- A record of the event journal (R448), without the constants and the CRC; its 64 bytes are `recordBytes`. -/
structure JournalRec where
  cls : BitVec 8
  seq : BitVec 32
  time : Nat
  boot : BitVec 32
  code : BitVec 16
  data : BitVec 256
  /-- Cut off before its COMMIT byte: torn (R448). -/
  torn : Bool
deriving DecidableEq, Repr

/-- A pending in-band interrupt of a class (R438, R439): its event code, the SEQ, the events merged. -/
structure Ibi where
  code : BitVec 16
  seq : BitVec 8
  merged : BitVec 8
deriving DecidableEq, Repr

/-- The management complex beside its registers. -/
structure Mgmt where
  /-- Times of watchdog restarts (R434). -/
  wdtTimes : List Nat
  /-- The watchdog counts (R432); time of the last kick. -/
  wdtRuns : Bool
  kickedAt : Nat
  /-- INT and TRAP pending at the core (R459). -/
  trapPending : List Nat
  /-- I3C: bytes of the next private read; status of the last write; pending classes; last CCC answer. -/
  readBuf : List (BitVec 8)
  lastStatus : BitVec 8
  ibis : Tab Ibi
  cccAnswer : List (BitVec 8)
  straps : BitVec 2
  /-- Event journal: records buffered, records in the NOR (newest first), next SEQ (R448, R449). -/
  buffer : List JournalRec
  journal : List JournalRec
  nextSeq : BitVec 32
  /-- The record being programmed, its COMMIT still 0xFF (R448); position of the next record in the ring (R449). -/
  jrnlOpen : Option JournalRec
  jrnlPos : Nat
  /-- SPI NOR bytes; an erased byte reads 0xFF (R441). -/
  nor : Tab (BitVec 8)
  norUsable : Bool
  /-- The FWSTATE record in force, as last read or written: ACTIVE, TRY (0xFF none), TRIES (R444); with no record in the
  NOR, slot A (DESIGN CHOICE, notes/assumptions/116.md). -/
  fwActive : BitVec 8
  fwTry : BitVec 8
  fwTries : BitVec 8
  /-- Words waiting in the 4 KiB program buffer (R447). -/
  progBuf : List (Nat × Word)
  /-- The FWUP operation that runs (OP, the slot it is for) and the one whose GO is held, with its master (R446). -/
  fwOp : Option (Nat × Nat)
  fwHeld : Option (Nat × Master)
  /-- Answer to the core's last access; JTAG data register and instruction register. -/
  coreAnswer : Word × BitVec 4
  jtagIr : BitVec 8
  jtagDr : BitVec 64
  dieSelect : BitVec 16
  wrapCore : Nat
  scan : Bool
  /-- Boundary-scan mode of the pins: 0 none, else the instruction (R490). -/
  boundary : BitVec 8
  /-- The secrets held in volatile copies are present (R487). -/
  secrets : Bool
  /-- Writes that have timed out and stay queued at their crossing (R543): master, address, value. -/
  late : List (Master × BitVec 24 × BitVec 32)
deriving DecidableEq, Repr

/-- An event pair held at 0b10 (R453): source, what it says, whether the collector has sampled it and escalated it
(R469). -/
structure Signal where
  src : Nat
  info : FaultInfo
  sampled : Bool
  escalated : Bool
deriving DecidableEq, Repr

/-- The fault collector beside its registers. -/
structure Collector where
  signals : List Signal
  /-- An ERR_PIN event has filled or merged into the unhandled capture (R465). -/
  errHeld : Bool
  /-- The minimum 1 us of ERR_N runs. -/
  errMin : Bool
  /-- ALERT: gap running, events since the last, newest event, next TAG (R466). -/
  alertGap : Bool
  alertCount : Nat
  alertLast : Option Signal
  alertTag : BitVec 12
  /-- The always-on domain asserts ERR_N (R519). -/
  errAon : Bool
deriving DecidableEq, Repr

def Collector.reset : Collector := ⟨[], false, false, false, 0, none, 0, false⟩

/-- A self-test run (R472-R484). -/
structure BistRun where
  array : Bool
  pc : Nat
  preserve : Bool
  march : Bool
  /-- Step of R481, 1-5. -/
  step : Nat
  saved : Bool
  failed : Bool
  aborted : Bool
  startedAt : Nat
deriving DecidableEq, Repr

/-! ### Thermal, rungs, Dawn -/

/-- A record of the shutdown latch (R426). -/
structure LatchRec where
  cause : BitVec 2
  sensor : Nat
  value : BitVec 11
  seconds : BitVec 32
deriving DecidableEq, Repr

/-- Thermal state beside PWR.THERM: which sensors have a used value, latch, consecutive samples of a core-die sensor below
THROTTLE_C - 3 (key: its index) and below HOT_C - 3 (key: 80 + its index), quadrants in Throttle, forced Throttle (R420), Thalt seen, trims (R430). -/
structure Therm where
  hasValue : Tab Bool
  latch : List LatchRec
  cool : Tab Nat
  throttled : BitVec 4
  forcedThrottle : BitVec 4
  thalt : Bool
  tdWarn : BitVec 4
  trims : Tab Int
  cut : Bool
  /-- Step 8 of Dawn waits because a used core-die value was at or above THALT_C (R516). -/
  hotWait : Bool
deriving DecidableEq, Repr

def Therm.reset : Therm := ⟨[], [], [], 0, 0, false, 0, [], false, false⟩

/-- Rungs and governor beside PWR: step of an entry under way, wake recorded during entry, intervals below budget,
at level 15 and at level 0, requests of a point change. -/
structure Power where
  entryStep : Nat
  wakeSeen : Option WakeSrc
  belowCount : Nat
  at15 : Nat
  at0 : Nat
  /-- Supplies and pins: VAUX up, every monitor in range, RESET_N deasserted, the Crown and SerDes switches closed. -/
  vaux : Bool
  inRange : Bool
  resetN : Bool
  crownOn : Bool
  serdesOn : Bool
  /-- Hatbox links come up in the background after Night (R401). -/
  linksPending : Bool
  /-- Power-good or the wake event of a Midnight exit, from which restore times are counted (R343). -/
  goodAt : Nat
deriving DecidableEq, Repr

def Power.reset : Power := ⟨0, none, 0, 0, 0, false, false, false, false, false, false, 0⟩

/-- A mailbox (R545-R549). -/
structure Mbx where
  selector : BitVec 16
  dir : Bool
  owner : Option Master
  valid : Bool
  err : Bool
  words : Nat
  index : Nat
  done : Bool
  latched : Nat
deriving DecidableEq, Repr

def Mbx.reset : Mbx := ⟨0, false, none, false, false, 0, 0, false, 0⟩

/-- A record of the outcome table (R147); a PENDING record knows the request it belongs to by its arrival order (R154). A FENCED record keeps what the DONE record it replaces held, none where no
request with the tag had arrived (DEDUCED, notes/assumptions/19.md). -/
inductive OutRec where
  | none
  | pending (opc : BitVec 5) (line : BitVec 31) (id : Nat)
  | done (opc : BitVec 5) (status : BitVec 4) (line : BitVec 31)
  | fenced (was : Option (BitVec 5 × BitVec 4 × BitVec 31))
deriving DecidableEq, Repr

/-- The block but for its queue: what a command's effect reads and writes. -/
structure Dev where
  /-- Device time in nanoseconds since reset; the 64-bit timestamp is `now + skew` (R180). -/
  now : Nat
  /-- What synchronisation has added to the timestamp, and what it still has to slew (R180). -/
  skew : Int
  slew : Int
  /-- The model's own counter for free values; no rule of the spec. -/
  free : Nat
  /-- Arrival order given to the next request (R133). -/
  order : Nat
  /-- Registers by management address. -/
  regs : Tab Word
  /-- WIDE fields by 65536 * window base + selector. -/
  wide : Tab Nat
  /-- Mailboxes by window base. -/
  mbx : Tab Mbx
  /-- The fabric ports (R73). -/
  fps : Tab Fp
  /-- Routing tables: 4096 * bank + node (R166). -/
  routes : Tab (BitVec 16)
  /-- Duplicate filter: (SRC, TAG), oldest first (R163). -/
  dups : List (BitVec 12 × BitVec 12)
  /-- Outcome records by 4096 * entry + tag (R147). -/
  outcomes : Tab OutRec
  /-- Last four offsets measured (R180). -/
  offsets : List Int
  /-- The Crown: codewords by physical line (pseudo-channel, bank, row, column). -/
  crown : Tab Line
  /-- The pseudo-channels, and the QME of each quadrant (R9, R10). -/
  pcs : Tab Pc
  qmes : Tab Qme
  /-- The units of the block, beside their registers. -/
  ecc : Ecc
  fuller : Fuller
  pf : Pf
  hbs : Tab Hb
  /-- Port that the AES engine served last (R13). -/
  aesLast : Nat
  /-- The units of the block, beside their registers. -/
  batt : Batt
  otp : Otp
  mgmt : Mgmt
  coll : Collector
  /-- The self-test run under way (R473). -/
  bist : Option BistRun
  /-- When the interconnect pass under way started (R474). -/
  icStart : Option Nat
  /-- A self-test whose GO is held while a run of its KIND is in progress, with the conditions it will meet (R473). -/
  bistWait : Option (Nat × Conditions)
  therm : Therm
  power : Power
  /-- Trace ring: entries by index, entries written and not read (R558). -/
  trace : Tab (BitVec 192)
  traceUnread : Nat
  /-- A DBG line read in progress (R556). -/
  dbgBusy : Bool
  /-- The address of a translation that was taken and has not ended (R46, R47). -/
  xlate : Option (BitVec 37)
deriving DecidableEq, Repr

/-- The whole block: the device and the queue of commands that wait for it. -/
structure State extends Dev where
  /-- Commands waiting, first in first out. -/
  pending : List Instr
deriving DecidableEq, Repr

/-- The OTP of a device as the model starts it: every word unprogrammed. (DESIGN CHOICE, notes/assumptions/3.md) -/
def Otp.reset : Otp := ⟨[], [], [], false, 0, 0, 3, none, none⟩

def Mgmt.reset : Mgmt :=
  ⟨[], false, 0, [], [], 0, [], [], 0, [], [], 1, none, 0, [], true, 0, 0xFF, 0, [], none, none, (0, 0), 1, 0, 0, 0, false, 0, false, []⟩

/-- The device right after reset: step 0 of Dawn (R508). Registers at their reset words, nothing listed anywhere.
(DESIGN CHOICE, notes/assumptions/2.md) -/
def Dev.reset : Dev :=
  { now := 0, skew := 0, slew := 0, free := 0, order := 1, regs := [], wide := [], mbx := [], fps := [], routes := [],
    dups := [], outcomes := [], offsets := [], crown := [], pcs := [], qmes := [], ecc := Ecc.reset,
    fuller := Fuller.reset, pf := Pf.reset, hbs := [], aesLast := 1, batt := Batt.reset, otp := Otp.reset,
    mgmt := Mgmt.reset, coll := Collector.reset, bist := none, icStart := none, bistWait := none, therm := Therm.reset,
    power := Power.reset, trace := [], traceUnread := 0, dbgBusy := false, xlate := none }

/-- The block right after reset: the device at reset, no command waiting. -/
def State.reset : State := { Dev.reset with pending := [] }

end Sys2Proof.Machine
end

