-- ==== Sys2Proof/Machine/Ops.lean ====
section
/-! DEFINITION. The named operations every meaning is built from: sparse tables, register fields, status events,
counters, performance events, and the signalling of a fault source. -/
namespace Sys2Proof

/-! ### Sparse tables -/

/-- What a table holds at a key; `d` is what an unlisted key reads as. -/
def Tab.get {V : Type} (d : Nat → V) : Tab V → Nat → V
  | [], k => d k
  | (j, v) :: t, k => if j = k then v else Tab.get d t k

/-- An entry goes before the first larger key. -/
def Tab.place {V : Type} (k : Nat) (v : V) : Tab V → Tab V
  | [] => [(k, v)]
  | (j, w) :: t => if k < j then (k, v) :: (j, w) :: t else (j, w) :: Tab.place k v t

/-- The table with a value at a key, in canonical form: the default value is not listed. -/
def Tab.set {V : Type} [DecidableEq V] (d : Nat → V) (t : Tab V) (k : Nat) (v : V) : Tab V :=
  let u := t.filter (fun x => x.1 ≠ k)
  if v = d k then u else Tab.place k v u

/-- Every key above a bound, keys strictly rising, no entry equal to what an unlisted key reads as. -/
def Tab.wfFrom {V : Type} [DecidableEq V] (d : Nat → V) : Option Nat → Tab V → Bool
  | _, [] => true
  | lo, (k, v) :: t =>
    (match lo with | none => true | some j => decide (j < k)) && decide (v ≠ d k) && Tab.wfFrom d (some k) t

/-- The canonical form of a table. -/
def Tab.wf {V : Type} [DecidableEq V] (d : Nat → V) (t : Tab V) : Bool := Tab.wfFrom d none t

namespace Machine

/-! ### Registers and their fields -/

/-- The field's value in a register word. -/
def Fld.get (f : Fld) (w : Word) : Nat := (w.extractLsb' f.lo f.len).toNat

/-- The register word with the field set to a value, cut to the field's width. -/
def Fld.set (f : Fld) (w : Word) (v : Nat) : Word :=
  (w &&& ~~~(BitVec.ofNat 32 ((2 ^ f.len - 1) * 2 ^ f.lo))) ||| BitVec.ofNat 32 (v % 2 ^ f.len * 2 ^ f.lo)

/-- The field of element i of an array of registers with a stride in bytes. -/
def Fld.at (f : Fld) (stride i : Nat) : Fld := { f with off := f.off + stride * i }

/-- The word of the register at a normalised management address. -/
def Dev.reg (s : Dev) (a : Nat) : Word := s.regs.get resetWord a

/-- The device with a register's word replaced. -/
def Dev.setReg (s : Dev) (a : Nat) (w : Word) : Dev := { s with regs := s.regs.set resetWord a w }

/-- A field of the block at a window base. -/
def Dev.rd (s : Dev) (b : Nat) (f : Fld) : Nat := f.get (s.reg (b + f.off))

/-- A one-bit field, as a truth value. -/
def Dev.flag (s : Dev) (b : Nat) (f : Fld) : Bool := s.rd b f != 0

/-- The device with a field of a block set. -/
def Dev.put (s : Dev) (b : Nat) (f : Fld) (v : Nat) : Dev := s.setReg (b + f.off) (f.set (s.reg (b + f.off)) v)

/-- A one-bit field set from a truth value. -/
def Dev.putFlag (s : Dev) (b : Nat) (f : Fld) (v : Bool) : Dev := s.put b f v.toNat

/-- The next value of an event sequence: 0x01 to 0xFF, wrapping to 0x01 (R5). -/
def nextSeq (n : Nat) : Nat := if n = 255 then 1 else n + 1

/-- Hardware advances the SEQ field of a status register (R5). -/
def Dev.bump (s : Dev) (b : Nat) (f : Fld) : Dev := s.put b f (nextSeq (s.rd b f))

/-- A counter advances by one; at 0xFFFF it stops and sets SAT, bit 31 of the register. -/
def Dev.count (s : Dev) (b : Nat) (f : Fld) : Dev :=
  if s.rd b f + 1 < 2 ^ f.len then s.put b f (s.rd b f + 1)
  else s.put b ⟨f.off, if f.off ≥ 0x800 then 28 else 31, 1⟩ 1

/-- A free value of 64 bits: whatever the hardware delivers where the spec states no value (an opaque constant applied
to the model's own counter, which advances). -/
def Dev.freeValue (s : Dev) : BitVec 64 × Dev := (Config.freeBits s.free, { s with free := s.free + 1 })

/-! ### Signalling a fault source -/

/-- What a source tells of an event with no address (R461). -/
def plainInfo : FaultInfo := ⟨false, true, none, 0, 0⟩

/-- What a source tells of an event at a global address, with the access kind and the device agent (R461). -/
def infoAt (g : BitVec 49) (access agent : Nat) : FaultInfo :=
  ⟨false, true, some g, BitVec.ofNat 4 access, BitVec.ofNat 16 agent⟩

/-- A source holds its event pair (R453): a condition that arises while the pair is held joins that event, otherwise a
new event waits for the collector (FAULT_EVENT). (DEDUCED, notes/assumptions/140.md) -/
def Dev.signal (s : Dev) (src : Nat) (i : FaultInfo) : Dev :=
  let held := s.coll.signals.any (fun g => g.src = src)
  let sig := if held then
      s.coll.signals.map (fun g => if g.src = src then
        { g with info := { g.info with real := g.info.real || i.real } } else g)
    else s.coll.signals ++ [⟨src, i, false, false⟩]
  { s with coll := { s.coll with signals := sig } }

/-- A source raises its fault. -/
def Dev.raise (s : Dev) (src : Nat) : Dev := s.signal src plainInfo

/-! ### The event journal (R448, R449) -/

/-- The 64-bit timestamp (R180). -/
def Dev.stamp (s : Dev) : Nat := (((s.now : Int) + s.skew) % 2 ^ 64).toNat

/-- The next SEQ of a journal record: +1, never 0 (R448). -/
def nextRecSeq (n : BitVec 32) : BitVec 32 := if n = 0xFFFFFFFF then 1 else n + 1

/-- CLASS of the event of a block (R448); for a block that the list of R448 does not name, a free value. -/
def journalClass (b : Nat) : BitVec 8 :=
  if b = base.therm then 2 else if b = base.core || b = base.fwup then 3 else if b = base.lc then 4
  else if b = base.rung then 5 else if b = base.batt then 6 else if b = base.hb 0 || b = base.hb 1 then 7
  else if b = base.pf then 8 else Config.journalClass b

/-- The log engine buffers a record; with 256 buffered the newest event is dropped and counted (R449). -/
def Dev.journal (s : Dev) (cls : BitVec 8) (code : Nat) (data : BitVec 256) : Dev :=
  if 256 ≤ s.mgmt.buffer.length then (s.count base.log LOG.LOG_DROP.COUNT).raise 0x00D
  else
    let r : JournalRec := ⟨cls, s.mgmt.nextSeq, s.stamp, BitVec.ofNat 32 (s.rd base.dawn DAWN.COUNT.COUNT), BitVec.ofNat 16 code, data, false⟩
    { s with mgmt := { s.mgmt with buffer := s.mgmt.buffer ++ [r], nextSeq := nextRecSeq s.mgmt.nextSeq } }

/-- Records that the ring of 220 sectors holds, and that one sector holds (R441, R449). -/
def ringRecords : Nat := 225280
def sectorRecords : Nat := 1024

/-- First phase of a record (R448): every byte but COMMIT of the oldest buffered record is programmed at the next position
of the ring; a sector is erased before its first record (R449). (DEDUCED, notes/assumptions/154.md) -/
def Dev.journalProgram (s : Dev) : Dev :=
  match s.mgmt.buffer with
  | [] => s
  | r :: rest =>
    if !s.mgmt.norUsable || s.mgmt.jrnlOpen.isSome then s
    else
      let kept := if s.mgmt.jrnlPos % sectorRecords = 0 then s.mgmt.journal.take (ringRecords - sectorRecords) else s.mgmt.journal
      { s with mgmt := { s.mgmt with buffer := rest, journal := kept, jrnlOpen := some r, jrnlPos := (s.mgmt.jrnlPos + 1) % ringRecords } }

/-- Second phase: COMMIT is programmed to 0x00. -/
def Dev.journalCommit (s : Dev) : Dev :=
  match s.mgmt.jrnlOpen with
  | some r => { s with mgmt := { s.mgmt with jrnlOpen := none, journal := r :: s.mgmt.journal } }
  | none => s

/-- The log engine's next phase. -/
def Dev.journalStep (s : Dev) : Dev := if s.mgmt.jrnlOpen.isSome then s.journalCommit else s.journalProgram

/-- Every buffered record is written out. -/
def Dev.journalFlush (s : Dev) : Dev :=
  let s1 := s.journalCommit
  s1.mgmt.buffer.foldl (fun s _ => s.journalProgram.journalCommit) s1

/-- A cut leaves the record being programmed torn (R448, R449). -/
def Mgmt.journalCut (m : Mgmt) : List JournalRec :=
  match m.jrnlOpen with
  | some r => { r with torn := true } :: m.journal
  | none => m.journal

/-- An event in a status register: EVENT takes its code, SEQ advances, and the log engine journals the event with the
register as it then reads (R5, R448). (DEDUCED, notes/assumptions/101.md) -/
def Dev.post (s : Dev) (b : Nat) (seq ev : Fld) (code : Nat) : Dev :=
  let s1 := (s.put b ev code).bump b seq
  s1.journal (journalClass b) code (BitVec.zeroExtend 256 (s1.reg (b + ev.off)))

/-! ### In-band interrupts (R438, R439) -/

/-- The I3C controller meets up to `n` pending interrupts, in ascending MDB order: it accepts the one that is raised, and
the next is raised, or it NACKs it; a choice of the controller and so a free value here.
(DESIGN CHOICE, notes/assumptions/99.md) -/
def Dev.ibiMeet : Nat → Dev → Dev
  | 0, s => s
  | n + 1, s =>
    match s.mgmt.ibis with
    | [] => s
    | (c, _) :: rest =>
      let f := s.freeValue
      if f.1.getLsbD 0 then
        Dev.ibiMeet n ((({ f.2 with mgmt := { s.mgmt with ibis := rest } } : Dev).put base.i3c
          ⟨I3C.STATUS.PENDING.off, 15 + c, 1⟩ 0).post base.i3c I3C.STATUS.SEQ I3C.STATUS.EVENT 3)
      else f.2.post base.i3c I3C.STATUS.SEQ I3C.STATUS.EVENT 4

/-- Pending interrupts are raised where ENEC has enabled them (R439). -/
def Dev.ibiRaise (s : Dev) : Dev :=
  if s.flag base.i3c I3C.STATUS.IBI_EN then Dev.ibiMeet s.mgmt.ibis.length s else s

/-- A class has an event: a pending interrupt of the class takes it in, else one becomes pending and is raised. -/
def Dev.ibi (s : Dev) (cls code seq : Nat) : Dev :=
  if !(s.rd base.i3c I3C.CFG.IBI_MASK).testBit (cls - 1) then s
  else
    match s.mgmt.ibis.find? (fun x => x.1 = cls) with
    | some x =>
      let n : BitVec 8 := if x.2.merged = 0xFF then 0xFF else x.2.merged + 1
      { s with mgmt := { s.mgmt with ibis := s.mgmt.ibis.map (fun y =>
        if y.1 = cls then (cls, ⟨BitVec.ofNat 16 code, BitVec.ofNat 8 seq, n⟩) else y) } }
    | none =>
      let i : Ibi := ⟨BitVec.ofNat 16 code, BitVec.ofNat 8 seq, 1⟩
      let t := s.mgmt.ibis.filter (fun y => y.1 < cls) ++ (cls, i) :: s.mgmt.ibis.filter (fun y => cls < y.1)
      (({ s with mgmt := { s.mgmt with ibis := t } } : Dev).put base.i3c ⟨I3C.STATUS.PENDING.off, 15 + cls, 1⟩ 1).ibiRaise

/-- A counter advances n times. -/
def Dev.countN (s : Dev) (b : Nat) (f : Fld) : Nat → Dev
  | 0 => s
  | n + 1 => (s.count b f).countN b f n

/-- Key of a WIDE field in `wide`. -/
def wideKey (b sel : Nat) : Nat := 65536 * b + sel

/-- A WIDE field. -/
def Dev.wideOf (s : Dev) (b sel : Nat) : Nat := s.wide.get (fun _ => 0) (wideKey b sel)

/-- The device with a WIDE field set. -/
def Dev.setWide (s : Dev) (b sel v : Nat) : Dev := { s with wide := s.wide.set (fun _ => 0) (wideKey b sel) v }

/-! ### Parts of the device -/

def Dev.fp (s : Dev) (n : Nat) : Fp := s.fps.get (fun _ => Fp.reset) n
def Dev.setFp (s : Dev) (n : Nat) (v : Fp) : Dev := { s with fps := s.fps.set (fun _ => Fp.reset) n v }
def Dev.upFp (s : Dev) (n : Nat) (f : Fp → Fp) : Dev := s.setFp n (f (s.fp n))

def Dev.pc (s : Dev) (p : Nat) : Pc := s.pcs.get (fun _ => Pc.reset) p
def Dev.setPc (s : Dev) (p : Nat) (v : Pc) : Dev := { s with pcs := s.pcs.set (fun _ => Pc.reset) p v }
def Dev.upPc (s : Dev) (p : Nat) (f : Pc → Pc) : Dev := s.setPc p (f (s.pc p))

def Dev.qme (s : Dev) (q : Nat) : Qme := s.qmes.get (fun _ => Qme.reset) q
def Dev.setQme (s : Dev) (q : Nat) (v : Qme) : Dev := { s with qmes := s.qmes.set (fun _ => Qme.reset) q v }
def Dev.upQme (s : Dev) (q : Nat) (f : Qme → Qme) : Dev := s.setQme q (f (s.qme q))

def Dev.hb (s : Dev) (n : Nat) : Hb := s.hbs.get (fun _ => Hb.reset) n
def Dev.setHb (s : Dev) (n : Nat) (v : Hb) : Dev := { s with hbs := s.hbs.set (fun _ => Hb.reset) n v }
def Dev.upHb (s : Dev) (n : Nat) (f : Hb → Hb) : Dev := s.setHb n (f (s.hb n))

def Dev.mailbox (s : Dev) (b : Nat) : Mbx := s.mbx.get (fun _ => Mbx.reset) b
def Dev.setMailbox (s : Dev) (b : Nat) (v : Mbx) : Dev := { s with mbx := s.mbx.set (fun _ => Mbx.reset) b v }

/-- A codeword of the Crown; a line that nothing has written reads as the all-zero codeword (DESIGN CHOICE,
notes/assumptions/4.md). -/
def Dev.lineAt (s : Dev) (k : Nat) : Line := s.crown.get (fun _ => 0) k
/-- The Crown with a codeword stored. -/
def Dev.setLine (s : Dev) (k : Nat) (v : Line) : Dev := { s with crown := s.crown.set (fun _ => 0) k v }

/-- An entry of a routing bank (R166). -/
def Dev.route (s : Dev) (bank node : Nat) : BitVec 16 := s.routes.get (fun _ => 0) (4096 * bank + node)
def Dev.setRoute (s : Dev) (bank node : Nat) (v : BitVec 16) : Dev :=
  { s with routes := s.routes.set (fun _ => 0) (4096 * bank + node) v }

/-- An outcome record (R147). -/
def Dev.outRec (s : Dev) (e tag : Nat) : OutRec := s.outcomes.get (fun _ => .none) (4096 * e + tag)
def Dev.setOutRec (s : Dev) (e tag : Nat) (v : OutRec) : Dev :=
  { s with outcomes := s.outcomes.set (fun _ => .none) (4096 * e + tag) v }

/-- State of a destage unit in the unit state map (R290). -/
def Dev.unitState (s : Dev) (u : Nat) : BitVec 2 := s.fuller.map.get (fun _ => 0) u
def Dev.setUnitState (s : Dev) (u : Nat) (v : BitVec 2) : Dev :=
  { s with fuller := { s.fuller with map := s.fuller.map.set (fun _ => 0) u v } }

/-- Fold an operation over a list, left to right. -/
def Dev.each {α : Type} (s : Dev) (xs : List α) (f : Dev → α → Dev) : Dev := xs.foldl f s

/-- An element goes before the first of a list that it does not come after. -/
def insertBy {α : Type} (le : α → α → Bool) (x : α) : List α → List α
  | [] => [x]
  | y :: t => if le x y then x :: y :: t else y :: insertBy le x t

/-- A list in rising order; equal elements keep their order. -/
def sortBy {α : Type} (le : α → α → Bool) (xs : List α) : List α := xs.foldr (insertBy le) []

/-- Apply an operation where a condition holds. -/
def Dev.when (s : Dev) (c : Bool) (f : Dev → Dev) : Dev := if c then f s else s

/-! ### Performance counters (R522-R530) -/

/-- A unit's counters hold (R530). -/
def Dev.perfFrozen (s : Dev) (u : Nat) : Bool :=
  s.flag (base.perf u) PERF.CTL.FREEZE || s.flag base.pglobal PGLOBAL.CTL.FREEZE_ALL

/-- A unit's counter of selector 1 (cycle) or 2 + k grows by n, modulo 2^48, and a wrap sets its OVF bit (R527). -/
def Dev.perfAdd (s : Dev) (u sel n : Nat) : Dev :=
  let v := s.wideOf (base.perf u) sel + n
  let s1 := s.setWide (base.perf u) sel (v % 2 ^ 48)
  if v < 2 ^ 48 then s1
  else (s1.put (base.perf u) ⟨0x4, 8 + (sel - 1), 1⟩ 1).post (base.perf u) PERF.STATUS.SEQ PERF.STATUS.EVENT 2

/-- One counter's reaction to n occurrences of a count event of one instance (R524, R525). -/
def Dev.perfCounter (s : Dev) (u inst ev n k : Nat) : Dev :=
  let f (x : Fld) := s.rd (base.perf u) (x.at 4 k)
  if f PERF.EVSEL.EVENT = ev ∧ ev ≠ 0 ∧ (f PERF.EVSEL.FILTER = 0x3F ∨ f PERF.EVSEL.FILTER = inst) then
    let m := f PERF.EVSEL.MODE
    if m = 1 ∨ m = 3 then s.perfAdd u (2 + k) n
    else if m = 2 then (if f PERF.EVSEL.THRESH < n then s.perfAdd u (2 + k) 1 else s)
    else s
  else s

/-- Instance of an event that belongs to no instance of its unit: only FILTER 0x3F selects it (DEDUCED,
notes/assumptions/12.md). -/
def noInst : Nat := 64

/-- n occurrences of a count event at an instance of a unit. -/
def Dev.perf (s : Dev) (u inst ev n : Nat) : Dev :=
  if s.perfFrozen u then s else s.each (List.range 8) (fun s k => s.perfCounter u inst ev n k)

/-- The step that runs an effect on the device and leaves the queue alone. -/
def State.act (s : State) (f : Dev → Dev) : Host.Outcome State Fault Refusal := .next { s with toDev := f s.toDev }

end Machine
end Sys2Proof
end

