-- ==== Sys2Proof/Machine/Flags.lean ====
section
/-! DEFINITION. Codes: opcodes, status codes, reasons, virtual channels, and the indices of the fault sources. -/
namespace Sys2Proof.Machine

/-! ### Packets (R83, R117, R138, R140) -/

def vcReq : BitVec 2 := 0
def vcRsp : BitVec 2 := 1
def vcMgt : BitVec 2 := 2
def vcPer : BitVec 2 := 3

def opcRd : BitVec 5 := 0x01
def opcWr : BitVec 5 := 0x02
def opcWrm : BitVec 5 := 0x03
def opcAtom : BitVec 5 := 0x04
def opcTag : BitVec 5 := 0x05
def opcEpoch : BitVec 5 := 0x06
def opcRegion : BitVec 5 := 0x07
def opcOutcome : BitVec 5 := 0x08
def opcMrd : BitVec 5 := 0x0C
def opcMwr : BitVec 5 := 0x0D
def opcMirWr : BitVec 5 := 0x10
def opcMirXchg : BitVec 5 := 0x11
def opcHello : BitVec 5 := 0x14
def opcNodeAssign : BitVec 5 := 0x15
def opcSync : BitVec 5 := 0x16
def opcAlert : BitVec 5 := 0x17
def opcRsp : BitVec 5 := 0x18
def opcRspData : BitVec 5 := 0x19

def stOk : Nat := 0
def stPoisoned : Nat := 1
def stRetry : Nat := 2
def stAddrErr : Nat := 3
def stUnsupported : Nat := 4
def stUnreachable : Nat := 5
def stPreempted : Nat := 6
def stBusy : Nat := 7
def stTimeout : Nat := 8
def stDenied : Nat := 9
def stStateErr : Nat := 0xA

def rsnStarting : Nat := 1
def rsnNoImage : Nat := 2
def rsnQuiesce : Nat := 3
def rsnPcOut : Nat := 4
def rsnBackpressure : Nat := 5
def rsnMirror : Nat := 6
def rsnRung : Nat := 7
def rsnThermal : Nat := 8

/-! ### Fault sources (R456) -/

def srcCollector : Nat := 0x000
def srcLockViol : Nat := 0x001
def srcConflict : Nat := 0x002
def srcRegTimeout : Nat := 0x003
def srcWdt : Nat := 0x004
def srcWdtHalt : Nat := 0x005
def srcSpiNor : Nat := 0x008
def srcFwNone : Nat := 0x009
def srcRollbackFull : Nat := 0x00A
def srcCert : Nat := 0x00B
def srcBattLoad : Nat := 0x00C
def srcLogOverflow : Nat := 0x00D
def srcI3cProto : Nat := 0x00E
def srcDieErase (t : Nat) : Nat := 0x030 + t
def srcTimeStep : Nat := 0x035
def srcQuad (q k : Nat) : Nat := 0x040 + 0x40 * q + k
def srcEccUe (q : Nat) : Nat := srcQuad q 0
def srcEccPoison (q : Nat) : Nat := srcQuad q 1
def srcEccChecker (q : Nat) : Nat := srcQuad q 2
def srcLaneRepair (q : Nat) : Nat := srcQuad q 3
def srcLaneErased (q : Nat) : Nat := srcQuad q 4
def srcSpareFail (q : Nat) : Nat := srcQuad q 5
def srcTpllUnlock (q : Nat) : Nat := srcQuad q 7
def srcRefCap (q : Nat) : Nat := srcQuad q 9
def srcDieSupply (q d : Nat) : Nat := srcQuad q (0x10 + d)
def srcFp (n k : Nat) : Nat := 0x140 + 0x0C * n + k
def srcFpDown (n : Nat) : Nat := srcFp n 0
def srcFpProto (n : Nat) : Nat := srcFp n 1
def srcFpLane (n : Nat) : Nat := srcFp n 2
def srcFpDegraded (n : Nat) : Nat := srcFp n 3
def srcFpFallback (n : Nat) : Nat := srcFp n 4
def srcFpRecovery (n : Nat) : Nat := srcFp n 5
def srcFpReplayTo (n : Nat) : Nat := srcFp n 6
def srcFpCrcRate (n : Nat) : Nat := srcFp n 7
def srcSpllUnlock (n : Nat) : Nat := srcFp n 8
def srcHelloLost (n : Nat) : Nat := srcFp n 11
def srcOutcomeFull : Nat := 0x188
def srcHoldDiscard : Nat := 0x189
def srcStale : Nat := 0x18A
def srcRouteNbr : Nat := 0x190
def srcRouteUnreach : Nat := 0x192
def srcDupNode : Nat := 0x193
def srcSyncLost : Nat := 0x194
def srcNondurable : Nat := 0x198
def srcFold : Nat := 0x199
def srcCopyPoison : Nat := 0x19A
def srcMirrorBreak : Nat := 0x19B
def srcRestorePoison : Nat := 0x19C
def srcRestoreUnsaved : Nat := 0x19D
def srcHoldupShort : Nat := 0x19E
def srcEnergyShort : Nat := 0x19F
def srcHb (n k : Nat) : Nat := 0x1A8 + 8 * n + k
def srcHbLink (n : Nat) : Nat := srcHb n 0
def srcHbForeign (n : Nat) : Nat := srcHb n 1
def srcHbWear (n : Nat) : Nat := srcHb n 2
def srcHbWorn (n : Nat) : Nat := srcHb n 3
def srcHbTimeout (n : Nat) : Nat := srcHb n 4
def srcHbFailed (n : Nat) : Nat := srcHb n 5
def srcHpllUnlock (n : Nat) : Nat := srcHb n 6
def srcAesSelftest : Nat := 0x1B8
def srcThermSensor : Nat := 0x1C0
def srcThalt : Nat := 0x1C1
def srcThermTd (i : Nat) : Nat := 0x1C2 + i
def srcJournalFull : Nat := 0x1C6
def srcThermShutdown : Nat := 0x1C7
def srcGovLimit : Nat := 0x1C8
def srcCpllUnlock : Nat := 0x1C9
def srcSupply (n : Nat) : Nat := 0x1CA + n
def srcAonOsc : Nat := 0x1D6
def srcOtpWeak : Nat := 0x1E0
def srcOtpDigest : Nat := 0x1E1
def srcOtpIncomplete : Nat := 0x1E2
def srcOtpUe : Nat := 0x1E3
def srcBurnFail : Nat := 0x1E4
def srcSpareFull : Nat := 0x1E5
def srcBistFail : Nat := 0x1E8
def srcBistRefused : Nat := 0x1E9
def srcScanEntry : Nat := 0x1EA
def srcSecretClear : Nat := 0x1EB
def srcTraceOvf : Nat := 0x1F0

/-- Master code of MGMT.BATT.STAGE_OWNER: 1 fabric MGT, 2 I3C, 3 management core, 4 JTAG. -/
def masterCode : Master → Nat
  | .mgt _ => 1
  | .i3c => 2
  | .core => 3
  | .jtag => 4

/-- Source node of a claim: SRC of a fabric MGT access, 0x000 for any other master (R546). -/
def masterNode : Master → BitVec 12
  | .mgt n => n
  | _ => 0

/-- States of a port (FAB.FPn.STATUS.STATE). -/
def fpDown : Nat := 0
def fpQuiet : Nat := 1
def fpLock : Nat := 2
def fpRate : Nat := 3
def fpEq : Nat := 4
def fpDeskew : Nat := 5
def fpConfig : Nat := 6
def fpActive : Nat := 7

end Sys2Proof.Machine
end

