-- ==== Sys2Proof/Machine/Operands.lean ====
section
/-! DEFINITION. Operand forms: addresses and their decode (R29-R38), lines and their bytes (R20-R27), packet slots
(R112-R115, R122), and the masters that OWNER admits (R553, R554). -/
namespace Sys2Proof.Machine

/-! ### The address map -/

/-- Where a line lives (R29, R30). `bank` is 8 * BG + BK. -/
structure Place where
  pc : Nat
  bank : Nat
  row : Nat
  col : Nat
deriving DecidableEq, Repr

/-- Bits [lo + len - 1 : lo] of a number. -/
def bitsOf (n lo len : Nat) : Nat := n / 2 ^ lo % 2 ^ len

/-- The seven selector bits as a pseudo-channel number (R30, R31): Q = SEL[1:0], C = SEL[4:2], P = SEL[5],
T = SEL[6]. -/
def pcOfSel (sel : Nat) : Nat :=
  32 * bitsOf sel 0 2 + 16 * bitsOf sel 6 1 + 2 * bitsOf sel 2 3 + bitsOf sel 5 1

/-- The selector of a pseudo-channel, inverse of `pcOfSel`. -/
def selOfPc (pc : Nat) : Nat := bitsOf pc 5 2 + 4 * bitsOf pc 1 3 + 32 * bitsOf pc 0 1 + 64 * bitsOf pc 4 1

/-- The decode of a line index under an interleave mode (0 LINEAR, 1 PAGE, 2 GRANULE) and the bank hash (R32, R33). -/
def placeOf (mode : Nat) (hash : Bool) (l : Nat) : Place :=
  let linear := mode = 0
  let row := if linear then bitsOf l 10 14 else bitsOf l 17 14
  let bgf := if linear then bitsOf l 8 2 else bitsOf l 12 2
  let bkf := if linear then bitsOf l 5 3 else bitsOf l 14 3
  let colh := if mode = 2 then bitsOf l 9 3 else bitsOf l 2 3
  let pc := if linear then bitsOf l 24 7 else pcOfSel (if mode = 1 then bitsOf l 5 7 else bitsOf l 2 7)
  let bg := if hash then bgf ^^^ (row % 4) else bgf
  let bk := if hash then bkf ^^^ (row / 4 % 8) else bkf
  ⟨pc, 8 * bg + bk, row, 4 * colh + bitsOf l 0 2⟩

/-- The line index of a place, inverse of `placeOf` (R29). -/
def lineOf (mode : Nat) (hash : Bool) (p : Place) : Nat :=
  let bg := p.bank / 8
  let bk := p.bank % 8
  let bgf := if hash then bg ^^^ (p.row % 4) else bg
  let bkf := if hash then bk ^^^ (p.row / 4 % 8) else bk
  if mode = 0 then p.pc * 2 ^ 24 + p.row * 2 ^ 10 + bgf * 2 ^ 8 + bkf * 2 ^ 5 + p.col
  else if mode = 1 then p.row * 2 ^ 17 + bkf * 2 ^ 14 + bgf * 2 ^ 12 + selOfPc p.pc * 2 ^ 5 + p.col
  else p.row * 2 ^ 17 + bkf * 2 ^ 14 + bgf * 2 ^ 12 + p.col / 4 * 2 ^ 9 + selOfPc p.pc * 2 ^ 2 + p.col % 4

/-- The place of a line under the active map. -/
def Dev.place (s : Dev) (l : Nat) : Place :=
  placeOf (s.rd base.amap AMAP.CFG.MODE) (s.flag base.amap AMAP.CFG.BANK_HASH) l

/-- The line of a place under the active map. -/
def Dev.lineAtPlace (s : Dev) (p : Place) : Nat :=
  lineOf (s.rd base.amap AMAP.CFG.MODE) (s.flag base.amap AMAP.CFG.BANK_HASH) p

/-- Key of a place in the Crown. -/
def Place.key (p : Place) : Nat := p.pc * 2 ^ 24 + p.bank * 2 ^ 19 + p.row * 2 ^ 5 + p.col

/-- Key of a line in the Crown under the active map. -/
def Dev.keyOf (s : Dev) (l : Nat) : Nat := (s.place l).key

/-- First line of the shadow pool (R36). -/
def Dev.shadowBase (s : Dev) : Nat := 2 ^ 31 - s.rd base.amap AMAP.CFG.SHADOW_GIB * 2 ^ 24

/-- The line lies in the shadow pool (R36). -/
def Dev.inShadow (s : Dev) (l : Nat) : Bool := s.shadowBase ≤ l

/-- The valid region that covers a line (R37): the unit of 16 MiB is bits [30:18] of the line index. -/
def Dev.regionOf (s : Dev) (l : Nat) : Option Nat :=
  (List.range 64).find? (fun n =>
    s.flag base.rgn (RGN.SPAN.VALID.at 8 n) && s.rd base.rgn (RGN.SPAN.BASE.at 8 n) ≤ l / 2 ^ 18 &&
    l / 2 ^ 18 ≤ s.rd base.rgn (RGN.SPAN.LAST.at 8 n))

def clsVolatile : Nat := 0
def clsLatest : Nat := 1
def clsEpoch : Nat := 2
def clsMirrored : Nat := 3

/-- Class of a region. -/
def Dev.classOf (s : Dev) (rgn : Nat) : Nat := s.rd base.rgn (RGN.ATTR.CLASS.at 8 rgn)

/-- A region's entry is in use. -/
def Dev.rgnValid (s : Dev) (rgn : Nat) : Bool := s.flag base.rgn (RGN.SPAN.VALID.at 8 rgn)

/-- Class of a line; VOLATILE where no valid region covers it (R38). -/
def Dev.lineClass (s : Dev) (l : Nat) : Nat :=
  match s.regionOf l with
  | none => clsVolatile
  | some n => s.classOf n

/-- The quadrant, tier and quadrant-local index of a pseudo-channel (R30). -/
def quadOf (pc : Nat) : Nat := pc / 32
def tierOf (pc : Nat) : Nat := pc / 16 % 2

/-- Destage unit of a line: 4 KiB, 64 lines (R289). -/
def unitOf (l : Nat) : Nat := l / 64

/-! ### Lines and their content -/

/-- Content of a codeword: line bits [519:0] (R21). -/
def contentOf (w : Line) : Content := w.extractLsb' 0 520

/-- User bits of a content. -/
def userOf (c : Content) : BitVec 512 := c.extractLsb' 0 512

/-- Metadata fields (R22). -/
def metaOf (c : Content) : BitVec 8 := c.extractLsb' 512 8
def tagsOf (c : Content) : BitVec 4 := c.extractLsb' 512 4
def poisonOf (c : Content) : Bool := c.getLsbD 516
def epochBitsOf (c : Content) : BitVec 2 := c.extractLsb' 517 2
def pendingOf (c : Content) : Bool := c.getLsbD 519

/-- A content from its parts: user bits, T, P, E, D. -/
def mkContent (u : BitVec 512) (t : BitVec 4) (p : Bool) (e : BitVec 2) (d : Bool) : Content :=
  BitVec.ofBool d ++ e ++ BitVec.ofBool p ++ t ++ u

def withUser (c : Content) (u : BitVec 512) : Content :=
  mkContent u (tagsOf c) (poisonOf c) (epochBitsOf c) (pendingOf c)
def withTags (c : Content) (t : BitVec 4) : Content :=
  mkContent (userOf c) t (poisonOf c) (epochBitsOf c) (pendingOf c)
def withPoison (c : Content) (p : Bool) : Content :=
  mkContent (userOf c) (tagsOf c) p (epochBitsOf c) (pendingOf c)
def withMark (c : Content) (e : BitVec 2) (d : Bool) : Content :=
  mkContent (userOf c) (tagsOf c) (poisonOf c) e d

/-- The bits of the user bytes that a 64-bit byte mask enables. -/
def bitMask (m : BitVec 64) : BitVec 512 :=
  (List.range 64).foldl (fun (a : BitVec 512) b =>
    if m.getLsbD b then a ||| (BitVec.ofNat 512 0xFF <<< (8 * b)) else a) 0

/-- User bits with the bytes of a mask replaced. -/
def mergeBytes (old new : BitVec 512) (m : BitVec 64) : BitVec 512 :=
  (old &&& ~~~(bitMask m)) ||| (new &&& bitMask m)

/-- The 8-byte field at byte offset `o` of a line. -/
def field8 (u : BitVec 512) (o : Nat) : BitVec 64 := u.extractLsb' (8 * o) 64

/-- The user bits with the 8-byte field at offset `o` replaced. -/
def setField8 (u : BitVec 512) (o : Nat) (v : BitVec 64) : BitVec 512 :=
  (u &&& ~~~(BitVec.ofNat 512 (2 ^ 64 - 1) <<< (8 * o))) ||| ((BitVec.zeroExtend 512 v) <<< (8 * o))

/-! ### Requests (R112, R122-R126) -/

/-- Destination node of a global address, and the local address. -/
def Req.node (r : Req) : Nat := r.addr.toNat / 2 ^ 37
def Req.localAddr (r : Req) : Nat := r.addr.toNat % 2 ^ 37

/-- Slot 0 of a request (R112). -/
def reqSlot (opc : BitVec 5) (r : Req) : Slot :=
  r.arg ++ r.sub ++ r.tv ++ BitVec.ofBool r.tu ++ r.addr ++ r.src ++ r.tag ++ BitVec.ofBool r.ri ++ r.hops ++ r.cls ++
    opc

/-- The fields of slot 0 of a request (R112). -/
def reqOfSlot (w : Slot) : Req :=
  ⟨w.extractLsb' 5 2, w.extractLsb' 7 4, w.getLsbD 11, w.extractLsb' 12 12, w.extractLsb' 24 12, w.extractLsb' 36 49,
   w.getLsbD 85, w.extractLsb' 86 4, w.extractLsb' 90 6, w.extractLsb' 96 32⟩

def slotOpc (w : Slot) : BitVec 5 := w.extractLsb' 0 5

/-- Slot 0 of a response (R113). -/
def rspSlot (opc : BitVec 5) (cls : BitVec 2) (hops : BitVec 4) (tag dst resp : BitVec 12) (status : Nat)
    (tv : BitVec 4) (rsn : Nat) (rval : BitVec 64) : Slot :=
  rval ++ (0 : BitVec 4) ++ BitVec.ofNat 4 rsn ++ tv ++ BitVec.ofNat 4 status ++ resp ++ dst ++ tag ++ (0 : BitVec 1) ++
    hops ++ cls ++ opc

/-- The four data slots of a line (R115). -/
def dataSlots (u : BitVec 512) : List Slot := (List.range 4).map (fun i => u.extractLsb' (128 * i) 128)

/-- User bits from data slots, the first at data-slot index `first`. -/
def userOfSlots (first : Nat) (xs : List Slot) : BitVec 512 :=
  (xs.foldl (fun (a : BitVec 512 × Nat) x => (a.1 ||| ((BitVec.zeroExtend 512 x) <<< (128 * a.2)), a.2 + 1)) (0, first)).1

/-- LEN of a WRM (R122). -/
def wrmLen (r : Req) : Nat := r.arg.toNat % 64 + 1

/-- First and last data-slot index of a WRM (R122). -/
def wrmFirst (r : Req) : Nat := r.addr.toNat % 64 / 16
def wrmLast (r : Req) : Nat := min ((r.addr.toNat % 64 + wrmLen r - 1) / 16) 3

/-- The enabled bytes of a WRM: mask bit set and position within ADDR[5:0] to ADDR[5:0] + LEN - 1 (R122). -/
def wrmEnabled (r : Req) (mask : BitVec 128) : BitVec 64 :=
  let lo := r.addr.toNat % 64
  (List.range 64).foldl (fun (a : BitVec 64) b =>
    if mask.getLsbD b && lo ≤ b && b < lo + wrmLen r then a ||| (1 <<< b) else a) 0

/-- Slots of a packet from its opcode, and for WRM its length (R116, R117); none: a reserved opcode. -/
def packetSlots (w : Slot) : Option Nat :=
  let o := (slotOpc w).toNat
  if o = 0x01 ∨ o = 0x05 ∨ o = 0x06 ∨ o = 0x07 ∨ o = 0x08 ∨ o = 0x0C ∨ o = 0x0D ∨ o = 0x14 ∨ o = 0x17 ∨ o = 0x18 then some 1
  else if o = 0x02 ∨ o = 0x10 ∨ o = 0x19 then some 5
  else if o = 0x03 then some (3 + wrmLast (reqOfSlot w) - wrmFirst (reqOfSlot w))
  else if o = 0x04 ∨ o = 0x11 ∨ o = 0x15 then some 2
  else if o = 0x16 then some 3
  else none

/-- The virtual channel that a packet of an opcode rides (R117); none: a reserved opcode. -/
def packetVc (opc : BitVec 5) : Option (BitVec 2) :=
  let o := opc.toNat
  if 1 ≤ o ∧ o ≤ 8 then some vcReq
  else if o = 0x0C ∨ o = 0x0D ∨ (0x14 ≤ o ∧ o ≤ 0x17) then some vcMgt
  else if o = 0x10 ∨ o = 0x11 then some vcPer
  else if o = 0x18 ∨ o = 0x19 then some vcRsp
  else none

/-- New field value of an ATOM (R124); none: a reserved SUB. Compare and operand are slot 1 bits [127:64], [63:0]. -/
def atomOp (sub : BitVec 6) (old operand compare : BitVec 64) : Option (BitVec 64) :=
  match sub.toNat with
  | 0 => some (old + operand)
  | 1 => some operand
  | 2 => some (if old = compare then operand else old)
  | 3 => some (old &&& operand)
  | 4 => some (old ||| operand)
  | 5 => some (old ^^^ operand)
  | 6 => some (if old.slt operand then operand else old)
  | 7 => some (if operand.slt old then operand else old)
  | 8 => some (if old.ult operand then operand else old)
  | 9 => some (if operand.ult old then operand else old)
  | _ => none

/-- New T3:T0 of a TAG (R126) and whether a TCAS swapped; none: a reserved SUB. -/
def tagOp (sub : BitVec 6) (t : BitVec 4) (arg : BitVec 32) : Option (BitVec 4 × Bool) :=
  let mask : BitVec 4 := arg.extractLsb' 0 4
  let cmp : BitVec 4 := arg.extractLsb' 4 4
  let new : BitVec 4 := arg.extractLsb' 8 4
  match sub.toNat with
  | 0 => some (t, false)
  | 1 => some (t ||| mask, false)
  | 2 => some (t &&& ~~~mask, false)
  | 3 => some (if t &&& mask = cmp &&& mask then ((t &&& ~~~mask) ||| (new &&& mask), true) else (t, false))
  | 4 => some (new, false)
  | _ => none

/-! ### OWNER (R553, R554) -/

/-- The OWNER field of the block at a window base excludes a master. -/
def Dev.ownerBars (s : Dev) (m : Master) (blk : Nat) : Bool :=
  let i := blk / 4096
  let f := s.rd base.owner ⟨4 * (i / 8), 4 * (i % 8), 4⟩
  let free := blk = base.owner && (masterCode m = 3 || masterCode m = 4)
  i < 4096 && !free && f.testBit (masterCode m - 1)

/-- A command of a master on a block has its effect unless OWNER excludes the master. -/
def Dev.owned (s : Dev) (m : Master) (blk : Nat) (f : Dev → Dev) : Dev := if s.ownerBars m blk then s else f s

end Sys2Proof.Machine
end

