-- ==== Sys2Proof/Machine/Net.lean ====
section
/-! DEFINITION. Sending and routing packets (R155-R178): neighbours, the routing procedure, learned entries, the
duplicate filter, responses, and the trace of crossbar outputs (R558). -/
namespace Sys2Proof.Machine

/-! ### Identity and neighbours -/

/-- Node ID in force (R155). -/
def Dev.node (s : Dev) : Nat := s.rd base.rnode NODE.ID.NODE

/-- Device UID. -/
def Dev.uid (s : Dev) : Nat := s.wideOf base.rnode 1

/-- A field of ROUTE.PORTn. -/
def Dev.nbr (s : Dev) (n : Nat) (f : Fld) : Nat := s.rd (base.rport n) f

/-- State of a port (FAB.FPn.STATUS.STATE). -/
def Dev.fpState (s : Dev) (n : Nat) : Nat := s.rd (base.fp n) FP.STATUS.STATE

/-- DIR of a port of the device; 3 is treated as 0. -/
def Dev.portDir (s : Dev) (n : Nat) : Nat :=
  let d := s.nbr n RPORT.CFG.DIR
  if d = 3 then 0 else d

/-- KIND is permitted by PORT_ROLE (R162): 1 HOST permits 1, 2 PEER permits 0, 3 ANY permits both. -/
def roleOk (role kind : Nat) : Bool := (kind = 0 && (role = 2 || role = 3)) || (kind = 1 && (role = 1 || role = 3))

/-- The DIR condition for a neighbour of KIND 0 (R162); DIR 3 is treated as 0. -/
def dirOk (own other : Nat) : Bool :=
  (own = 0 && (other = 0 || other = 3)) || (own = 1 && other = 2) || (own = 2 && other = 1)

/-- The neighbour equals the recorded neighbour, or none is recorded (R162). -/
def Dev.nbrRecorded (s : Dev) (n : Nat) : Bool :=
  match (s.fp n).recorded with
  | none => true
  | some (nd, u) => nd.toNat = s.nbr n RPORT.NBR.NODE && u.toNat = s.wideOf (base.rport n) 1

/-- Failing mismatch conditions of a heard neighbour, as event numbers 5 to 8 in ascending order (R162). -/
def Dev.mismatches (s : Dev) (n : Nat) : List Nat :=
  let kind := s.nbr n RPORT.NBR.KIND
  (if s.nbr n RPORT.NBR.NODE = s.node ∧ s.node ≠ 0 then [5] else []) ++
  (if roleOk (s.rd (base.fp n) FP.CFG.ROLE) kind then [] else [6]) ++
  (if kind ≠ 0 ∨ dirOk (s.portDir n) (s.nbr n RPORT.NBR.DIR) = true then [] else [7]) ++
  (if s.nbrRecorded n then [] else [8])

/-- The conditions of R162; a port in recovery counts as ACTIVE (DEDUCED, notes/assumptions/15.md). A port that is taken
out for a Batt reload is not routable (R67, R177). -/
def Dev.routableNow (s : Dev) (n : Nat) : Bool :=
  !s.batt.quiesced.contains (5 + n) && (s.fpState n = fpActive || (s.fp n).recovering) && s.nbr n RPORT.NBR.HEARD = 1 && s.nbr n RPORT.NBR.NODE != 0 && (s.mismatches n).isEmpty

/-- A port is routable. -/
def Dev.routable (s : Dev) (n : Nat) : Bool := s.nbr n RPORT.NBR.ROUTABLE = 1

/-! ### Queues towards the ports -/

/-- A packet is an L0 read or a response: it takes precedence over other traffic towards the same output (R174). -/
def Packet.ahead (p : Packet) : Bool :=
  p.vc = vcRsp || (p.vc = vcReq && (match p.slots with
    | w :: _ => slotOpc w = opcRd && (reqOfSlot w).cls = 0
    | [] => false))

/-- Two requests of one source for one line, which keep their order on a route (R143). -/
def Packet.sameLine (p q : Packet) : Bool :=
  match p.slots, q.slots with
  | a :: _, b :: _ => p.vc = vcReq && q.vc = vcReq && (reqOfSlot a).src = (reqOfSlot b).src &&
      (reqOfSlot a).addr.toNat / 64 = (reqOfSlot b).addr.toNat / 64
  | _, _ => false

/-- A packet joins an output queue; one that takes precedence passes the packets that do not (R174), but no request of
its own source for its own line (R143). -/
def enqueue (q : List Packet) (p : Packet) : List Packet :=
  if p.ahead then
    let free := (q.reverse.takeWhile (fun x => !x.sameLine p)).reverse
    q.take (q.length - free.length) ++ free.takeWhile Packet.ahead ++ p :: free.dropWhile Packet.ahead
  else q ++ [p]

/-- A header slot leaves a crossbar output: the trace records it (R558). Outputs: port 0-5, or 8 + q.
(DESIGN CHOICE, notes/assumptions/45.md) -/
def Dev.traceHdr (s : Dev) (out : Nat) (hdr : Slot) : Dev :=
  if s.flag base.trace TRACE.CTL.ENABLE && s.rd base.trace TRACE.CTL.OUTPUT = out then
    let w := s.rd base.trace TRACE.STATUS.WPTR
    let e : BitVec 192 := BitVec.ofNat 64 s.stamp ++ hdr
    let unread := min 4096 (s.traceUnread + 1)
    let s1 := { s with trace := s.trace.set (fun _ => 0) w e, traceUnread := unread }
    let s2 := s1.put base.trace TRACE.STATUS.WPTR ((w + 1) % 4096)
    if unread = 4096 then
      ((s2.when (s.flag base.trace TRACE.CTL.STOP_FULL) (fun s => s.put base.trace TRACE.CTL.ENABLE 0)).put
        base.trace TRACE.STATUS.OVF 1).raise srcTraceOvf
    else s2
  else s

/-- A packet is delivered to a crossbar output; `fwd` when it came in by another port (R523 events of PERF.XBAR). -/
def Dev.delivered (s : Dev) (out : Nat) (vc : BitVec 2) (fwd : Bool) (hdr : Slot) : Dev :=
  (s.perf 10 out (if vc = vcRsp then 3 else if fwd then 2 else 1) 1).traceHdr out hdr

/-- A packet joins the transmit queue of a port; `inp`: the port that a forwarded packet arrived on. -/
def Dev.emitFrom (s : Dev) (inp : Option Nat) (n : Nat) (vc : BitVec 2) (slots : List Slot) : Dev :=
  let s1 := s.upFp n (fun p => { p with txq := enqueue p.txq ⟨vc, slots, inp⟩ })
  let s2 := if inp.isSome then s1.perf (4 + n) vc.toNat 7 1 else s1
  s2.delivered n vc inp.isSome (slots.headD 0)

/-- A packet of the device's own joins the transmit queue of a port. -/
def Dev.emit (s : Dev) (n : Nat) (vc : BitVec 2) (slots : List Slot) : Dev := s.emitFrom none n vc slots

/-- A HELLO of the device for a port (R159). -/
def Dev.helloSlot (s : Dev) (n : Nat) : Slot :=
  BitVec.ofNat 64 s.uid ++ (0 : BitVec 16) ++ BitVec.ofNat 16 (s.rd base.tbl TBL.GEN.GEN) ++ (0 : BitVec 1) ++
    BitVec.ofNat 2 (s.portDir n) ++ (0 : BitVec 2) ++ BitVec.ofNat 3 n ++ BitVec.ofNat 12 s.node ++
    (0 : BitVec 7) ++ opcHello

/-- The device sends a HELLO on a port that is ACTIVE (R160); in recovery the HELLO goes out once the port is back. -/
def Dev.sendHello (s : Dev) (n : Nat) : Dev :=
  if s.fpState n = fpActive then (s.emit n vcMgt [s.helloSlot n]).upFp n (fun p => { p with helloOwed := false })
  else s.when (s.fp n).recovering (fun s => s.upFp n (fun p => { p with helloOwed := true }))

/-- A field that every HELLO carries has changed: one goes out on each ACTIVE port (R160). -/
def Dev.helloAll (s : Dev) : Dev := s.each (List.range 6) (fun s n => s.sendHello n)

/-- LIMIT = 0 in every learned entry of both banks that a test names. -/
def Dev.clearLearnedBy (s : Dev) (p : BitVec 16 → Bool) : Dev :=
  s.each s.routes (fun s e => if e.2.getLsbD 10 && p e.2 then
    s.setRoute (e.1 / 4096) (e.1 % 4096) (e.2 &&& ~~~(0x03C0 : BitVec 16)) else s)

/-- An event in ROUTE.NODE.STATUS, with its port. -/
def Dev.nodeEvent (s : Dev) (code n : Nat) : Dev :=
  (s.put base.rnode NODE.STATUS.PORT n).post base.rnode NODE.STATUS.SEQ NODE.STATUS.EVENT code

/-- GEN + 1 modulo 2^16 (R176), and HELLOs with the new GEN. (DEDUCED, notes/assumptions/44.md) -/
def Dev.bumpGen (s : Dev) : Dev :=
  (s.put base.tbl TBL.GEN.GEN (s.rd base.tbl TBL.GEN.GEN + 1)).helloAll

/-- The set of failing mismatch conditions of a port is evaluated (R162): MISMATCH follows it, and a changed set that
is not empty raises ROUTE_NBR and records the lowest event. -/
def Dev.evalMismatch (s : Dev) (n : Nat) : Dev :=
  let ms := if s.nbr n RPORT.NBR.HEARD = 1 then s.mismatches n else []
  let s1 := (s.putFlag (base.rport n) RPORT.NBR.MISMATCH (!ms.isEmpty)).upFp n (fun p => { p with mismatch := ms })
  match ms with
  | [] => s1
  | m :: _ =>
    if ms = (s.fp n).mismatch then s1
    else
      let s2 := (s1.nodeEvent m n).raise srcRouteNbr
      if m = 5 then s2.raise srcDupNode else s2

/-- Routability of a port is evaluated (R162, R168, R176): a change moves GEN and records event 3 or 4, and a port that
stops being routable loses its learned entries. While it is routable the neighbour is recorded. -/
def Dev.evalRoutable (s : Dev) (n : Nat) : Dev :=
  let now := s.routableNow n
  let s1 :=
    if now then s.upFp n (fun p => { p with
      recorded := some (BitVec.ofNat 12 (s.nbr n RPORT.NBR.NODE), BitVec.ofNat 64 (s.wideOf (base.rport n) 1)), lost := false })
    else s
  if now = s.routable n then s1
  else
    let s2 := s1.putFlag (base.rport n) RPORT.NBR.ROUTABLE now
    let s3 := if now then s2 else s2.clearLearnedBy (fun e => (e &&& 7).toNat = n)
    s3.bumpGen.nodeEvent (if now then 4 else 3) n

/-- Both evaluations of R162 for a port. -/
def Dev.evalPort (s : Dev) (n : Nat) : Dev := (s.evalMismatch n).evalRoutable n

/-! ### The routing procedure (R167, R169) -/

/-- R169: a packet that arrived on a peer port with DIR = UP may not leave on a peer port with DIR = UP. -/
def Dev.turnOk (s : Dev) (inp : Option Nat) (out : Nat) : Bool :=
  match inp with
  | none => true
  | some i =>
    let up (n : Nat) : Bool := s.nbr n RPORT.NBR.KIND = 0 && s.portDir n = 1
    !(up i && up out)

/-- Where the procedure sends a packet. -/
inductive Hop where
  | deliver
  | out (port : Nat) (hops : Nat)
  | hopExpire
  | unreach (turn : Bool)
deriving DecidableEq, Repr

/-- The procedure of R167. -/
def Dev.lookup (s : Dev) (inp : Option Nat) (dst hops : Nat) (vc : BitVec 2) : Hop :=
  if dst = s.node then .deliver
  else if inp.isSome ∧ hops = 0 then .hopExpire
  else
    let e := s.route (s.rd base.tbl TBL.GEN.ACTIVE_BANK) dst
    let limit := bitsOf e.toNat 6 4
    if limit = 0 ∨ (e.getLsbD 10 = true ∧ (vc = vcReq ∨ vc = vcPer)) then .unreach false
    else
      let outs := [bitsOf e.toNat 0 3, bitsOf e.toNat 3 3]
      let live := outs.filter (fun o => o ≤ 5 && s.routable o)
      match live.find? (fun o => s.turnOk inp o && (s.nbr o RPORT.NBR.KIND = 0 || s.nbr o RPORT.NBR.NODE = dst)) with
      | some o => .out o (min hops limit - 1)
      | none => .unreach (live.any (fun o => !s.turnOk inp o))

/-- The header with HOPS replaced. -/
def withHops (w : Slot) (h : Nat) : Slot := (w &&& ~~~(0x780 : Slot)) ||| (BitVec.ofNat 128 (h % 16 * 128))

/-- A fail of R167 is counted; R169's refusals in TURN_DROP as well. ROUTE_UNREACH is raised by a fail that finds no
route (R456). -/
def Dev.countFail (s : Dev) (h : Hop) : Dev :=
  match h with
  | .hopExpire => s.count base.tbl TBL.HOP_EXPIRE.COUNT
  | .unreach turn =>
    ((s.count base.tbl TBL.UNREACH_TX.COUNT).when turn (fun s => s.count base.tbl TBL.TURN_DROP.COUNT)).raise srcRouteUnreach
  | _ => s

/-- A response that the device originates is routed as if it had arrived with HOPS = 15 on no port; a fail discards it
(R167). -/
def Dev.sendRsp (s : Dev) (dst : Nat) (slots : List Slot) : Dev :=
  match s.lookup none dst 15 vcRsp with
  | .deliver => s
  | .out o h => s.emit o vcRsp (match slots with | w :: t => withHops w h :: t | [] => [])
  | f => (s.countFail f).count base.tbl TBL.RSP_DROP.COUNT

/-- A request that the device originates, and whether it found a route; a fail is counted (R167). -/
def Dev.sendOwn (s : Dev) (dst : Nat) (vc : BitVec 2) (slots : List Slot) : Bool × Dev :=
  match s.lookup none dst 15 vc with
  | .out o h => (true, s.emit o vc (match slots with | w :: t => withHops w h :: t | [] => []))
  | f => (false, s.countFail f)

/-- RETRY_TX, POISON_TX and UNSUPPORTED_TX of FAB.TXN count the responses that carry those codes. -/
def Dev.countStatus (s : Dev) (status : Nat) (src : BitVec 12) : Dev :=
  if status = stRetry then s.count base.txn TXN.RETRY_TX.COUNT
  else if status = stPoisoned then s.count base.txn TXN.POISON_TX.COUNT
  else if status = stUnsupported then
    ((s.count base.txn TXN.UNSUPPORTED_TX.COUNT).put base.txn TXN.STATUS.NODE src.toNat).post base.txn TXN.STATUS.SEQ
      TXN.STATUS.EVENT 4
  else s

/-- What a response says (R113). -/
structure Rsp where
  status : Nat
  tv : BitVec 4
  rsn : Nat
  rval : BitVec 64
  data : Option (BitVec 512)
deriving DecidableEq, Repr

def Rsp.code (status : Nat) : Rsp := ⟨status, 0, 0, 0, none⟩
def Rsp.val (v : Nat) : Rsp := ⟨stOk, 0, 0, BitVec.ofNat 64 v, none⟩

/-- The device answers a request (R113, R119); a RETRY_LATER uses up the free value of its estimate. -/
def Dev.answer (s : Dev) (r : Req) (a : Rsp) : Dev :=
  let w := rspSlot (if a.data.isSome then opcRspData else opcRsp) r.cls 15 r.tag r.src (BitVec.ofNat 12 s.node) a.status
    a.tv a.rsn a.rval
  let s1 : Dev := if a.status = stRetry then { s with free := s.free + 1 } else s
  (s1.countStatus a.status r.src).sendRsp r.src.toNat (w :: (match a.data with | some u => dataSlots u | none => []))

/-- Forwarding of a packet for another node (R156, R167). `inp`: the port it arrived on. -/
def Dev.forward (s : Dev) (inp : Option Nat) (vc : BitVec 2) (slots : List Slot) : Dev :=
  match slots with
  | [] => s
  | w :: t =>
    let isRsp := vc = vcRsp
    let dst := if isRsp then bitsOf w.toNat 24 12 else bitsOf w.toNat 73 12
    match s.lookup inp dst (bitsOf w.toNat 7 4) vc with
    | .deliver => s
    | .out o h => s.emitFrom inp o vc (withHops w h :: t)
    | f =>
      let s1 := s.countFail f
      if isRsp then s1.count base.tbl TBL.RSP_DROP.COUNT else s1.answer (reqOfSlot w) (Rsp.code stUnreachable)

/-! ### Learning and broadcasts (R163, R168) -/

/-- A learned entry for a node that arrived by a port (R168). -/
def Dev.learn (s : Dev) (node port : Nat) : Dev :=
  let b := s.rd base.tbl TBL.GEN.ACTIVE_BANK
  let e := s.route b node
  if s.nbr port RPORT.CFG.LEARN_EN = 1 ∧ bitsOf e.toNat 6 4 = 0 then
    s.setRoute b node (BitVec.ofNat 16 (port + 7 * 8 + 15 * 64 + 1024))
  else s

/-- Ports that a broadcast leaves by: ACTIVE with HEARD = 1, but the arrival port (R163). -/
def Dev.bcastPorts (s : Dev) (inp : Option Nat) : List Nat :=
  (List.range 6).filter (fun n => inp != some n && s.fpState n = fpActive && s.nbr n RPORT.NBR.HEARD = 1)

/-- A received broadcast meets the duplicate filter (R163): none when it is a duplicate, which is counted; otherwise
the pair is entered and the sender learned. -/
def Dev.bcastPass (s : Dev) (port : Nat) (r : Req) : Bool × Dev :=
  if s.dups.contains (r.src, r.tag) then (false, s.count base.tbl TBL.BCAST_DUP.COUNT)
  else
    let d := (if s.dups.length < 1024 then s.dups else s.dups.drop 1) ++ [(r.src, r.tag)]
    (true, { s with dups := d }.learn r.src.toNat port)

/-- The broadcast goes on, with HOPS reduced by one, while HOPS > 0 (R163). -/
def Dev.bcastForward (s : Dev) (inp : Option Nat) (slots : List Slot) : Dev :=
  match slots with
  | [] => s
  | w :: t =>
    let h := bitsOf w.toNat 7 4
    if h = 0 then s
    else s.each (s.bcastPorts inp) (fun s n => s.emitFrom inp n vcMgt (withHops w (h - 1) :: t))

/-! ### Packets that arrived on a port -/

/-- A packet that the block has taken in leaves the receive buffer of its port: its slots are freed for the sender
(R96). A packet that did not come through FLIT_RECEIVE is in no buffer. -/
def Dev.takeIn (s : Dev) (port : Nat) (p : Packet) : Dev :=
  let f := s.fp port
  if f.rxq.contains p then
    let v := p.vc.toNat
    let n := p.slots.length
    s.setFp port { f with
      rxq := f.rxq.erase p
      rxUsed := f.rxUsed.set (fun _ => 0) v (f.rxUsed.get (fun _ => 0) v - n)
      freed := f.freed.set (fun _ => 0) v (f.freed.get (fun _ => 0) v + BitVec.ofNat 10 n) }
  else s

end Sys2Proof.Machine
end

