-- ==== Sys2Proof/Machine/Code.lean ====
section
/-! DEFINITION. The codes of the spec: GF(2^10) and the Reed-Solomon codes of R86 and R232-R238, CRC-32C (R87),
CRC-16 (R78), and the TSV keystream (R265). Symbols and bytes are plain numbers here. -/
namespace Sys2Proof.Machine

/-! ### GF(2^10), primitive polynomial x^10 + x^3 + 1; bit j of a symbol is the coefficient of α^j -/

/-- A symbol times α. -/
def gfX (a : Nat) : Nat := let b := 2 * a; if b < 1024 then b else (b ^^^ 0x409)

/-- Product, bit by bit of the second factor. -/
def gfMulFrom : Nat → Nat → Nat → Nat
  | 0, _, _ => 0
  | n + 1, a, b => (if b % 2 = 1 then a else 0) ^^^ gfMulFrom n (gfX a) (b / 2)

/-- Product of two symbols. -/
def gfMul (a b : Nat) : Nat := if a = 0 ∨ b = 0 then 0 else gfMulFrom 10 a b

/-- α^n by repeated multiplication. -/
def gfAlpha : Nat → Nat
  | 0 => 1
  | n + 1 => gfX (gfAlpha n)

/-- a^(2^n - 1) times the squares so far: inverse by a^1022 = a^(2 + 4 + ... + 512). -/
def gfInvFrom : Nat → Nat → Nat → Nat
  | 0, _, acc => acc
  | n + 1, a, acc => let b := gfMul a a; gfInvFrom n b (gfMul acc b)

/-- Inverse of a non-zero symbol. -/
def gfInv (a : Nat) : Nat := gfInvFrom 9 a 1

/-! ### Polynomials: coefficient lists, constant term first -/

def polyAdd : List Nat → List Nat → List Nat
  | [], q => q
  | p, [] => p
  | a :: p, b :: q => (a ^^^ b) :: polyAdd p q

def polyScale (c : Nat) (p : List Nat) : List Nat := p.map (gfMul c)

def polyMul : List Nat → List Nat → List Nat
  | [], _ => []
  | a :: p, q => polyAdd (polyScale a q) (0 :: polyMul p q)

/-- Value at x. -/
def polyEval (p : List Nat) (x : Nat) : Nat := p.foldr (fun a acc => a ^^^ gfMul x acc) 0

/-- Formal derivative in characteristic 2: the odd coefficients. -/
def polyDeriv : List Nat → List Nat
  | [] => []
  | [_] => []
  | _ :: b :: p => b :: 0 :: polyDeriv p

/-- Degree of the last non-zero coefficient. -/
def polyDeg (p : List Nat) : Nat := (p.reverse.dropWhile (· = 0)).length - 1

/-- g(x) = (x - α^0) ... (x - α^(r - 1)). -/
def rsGen : Nat → List Nat
  | 0 => [1]
  | r + 1 => polyMul (rsGen r) [gfAlpha r, 1]

/-- One step of the division by g: the register holds the r remainder coefficients, highest first. -/
def rsShift (g : List Nat) (reg : List Nat) (sym : Nat) : List Nat :=
  match reg with
  | [] => []
  | top :: rest =>
    let f := top ^^^ sym
    List.zipWith (fun a c => a ^^^ gfMul f c) (rest ++ [0]) g

/-- The r check symbols of the message symbols: the remainder of m(x) x^r modulo g(x), symbol of the highest power
first (R86, R232). -/
def rsCheck (r : Nat) (msg : List Nat) : List Nat :=
  msg.foldl (rsShift ((rsGen r).dropLast.reverse)) (List.replicate r 0)

/-- Syndromes r(α^0) ... r(α^(r - 1)) of 64 symbols, symbol s being the coefficient of x^(63 - s). -/
def rsSyndromes (r : Nat) (word : List Nat) : List Nat :=
  (List.range r).map (fun j => let a := gfAlpha j; word.foldl (fun acc c => gfMul acc a ^^^ c) 0)

/-- Locator of the erased symbols: the product of 1 - X x, X = α^(63 - s). -/
def rsErasureLocator (erased : List Nat) : List Nat :=
  erased.foldl (fun p s => polyMul p [1, gfAlpha (63 - s)]) [1]

/-- Berlekamp-Massey for errors and erasures; `f` erasures are given by the starting locator. -/
def rsBm (syn : List Nat) (f : Nat) : Nat → Nat → List Nat → List Nat → Nat → List Nat × Nat
  | 0, _, lam, _, len => (lam, len)
  | n + 1, k, lam, b, len =>
    let d := (List.range (lam.length)).foldl
      (fun acc i => if i ≤ k then acc ^^^ gfMul (lam.getD i 0) (syn.getD (k - i) 0) else acc) 0
    let bx := 0 :: b
    if d = 0 then rsBm syn f n (k + 1) lam bx len
    else
      let lam' := polyAdd lam (polyScale d bx)
      if 2 * len ≤ k + f then rsBm syn f n (k + 1) lam' (polyScale (gfInv d) lam) (k + 1 + f - len)
      else rsBm syn f n (k + 1) lam' bx len

/-- A decoded word: its symbols, and the positions that the decoder changed. -/
structure RsResult where
  word : List Nat
  changed : List Nat
deriving DecidableEq, Repr

/-- Errors-and-erasures decoding with r check symbols (R86, R233): the codeword within 2 e + f ≤ r of the received
word, and none where there is none. -/
def rsDecode (r : Nat) (word erased : List Nat) : Option RsResult :=
  let f := erased.length
  if r < f then none
  else
    let syn := rsSyndromes r word
    if syn.all (· = 0) then some ⟨word, []⟩
    else
      let gam := rsErasureLocator erased
      let (lam, len) := rsBm syn f (r - f) f gam gam f
      let deg := polyDeg lam
      let roots := (List.range 64).filter (fun s => polyEval lam (gfAlpha ((1023 - (63 - s)) % 1023)) = 0)
      if r < 2 * (len - f) + f ∨ roots.length ≠ deg ∨ len < deg then none
      else
        let om := (polyMul syn lam).take r
        let dl := polyDeriv lam
        let fix (s : Nat) : Nat :=
          let xi := gfAlpha ((1023 - (63 - s)) % 1023)
          gfMul (gfAlpha (63 - s)) (gfMul (polyEval om xi) (gfInv (polyEval dl xi)))
        let word' := roots.foldl (fun w s => w.set s (w.getD s 0 ^^^ fix s)) word
        if (rsSyndromes r word').all (· = 0) then some ⟨word', (List.range 64).filter (fun s => word.getD s 0 ≠ word'.getD s 0)⟩
        else none

/-! ### Lines and flits as symbols (R20, R80) -/

/-- The 64 symbols of 640 bits. -/
def symbolsOf (w : Line) : List Nat := (List.range 64).map (fun s => w.toNat / 2 ^ (10 * s) % 1024)

/-- The 640 bits of 64 symbols. -/
def lineOfSymbols (xs : List Nat) : Line := BitVec.ofNat 640 (xs.foldr (fun a acc => a + 1024 * acc) 0)

/-- The codeword of a content: symbols 0-51 the content, 52-63 the checks (R21, R232). -/
def encodeLine (c : Content) : Line :=
  let m := (List.range 52).map (fun s => c.toNat / 2 ^ (10 * s) % 1024)
  lineOfSymbols (m ++ rsCheck 12 m)

/-- Symbols that die j of a tier holds (R234). -/
def dieSymbols (j : Nat) : List Nat := (List.range 8).map (fun i => 8 * j + i)

/-- Symbols that lane number ℓ (0-39) touches (R235). -/
def laneSymbols (lane : Nat) : List Nat :=
  let j := lane / 5
  let k := lane % 5
  (List.range 8).filterMap (fun i =>
    if 10 * i < 16 * k + 16 ∧ 16 * k < 10 * i + 10 then some (8 * j + i) else none)

/-- How a line came out of the inline decoder (R236-R238): its codeword, symbols changed, whether die search was used
and with which die. -/
structure Decoded where
  line : Line
  changed : List Nat
  search : Option Nat
deriving DecidableEq, Repr

/-- Decoding with given erasures. -/
def decodeWith (raw : Line) (erased : List Nat) : Option Decoded :=
  (rsDecode 12 (symbolsOf raw) erased).map (fun r => ⟨lineOfSymbols r.word, r.changed, none⟩)

/-- Die search: each die erased in turn, accepted only when exactly one gives a codeword with no symbol in error
outside it (R238); erased lanes of the pseudo-channel stay erased. -/
def dieSearch (raw : Line) (lanes : List Nat) : Option Decoded :=
  let hits := (List.range 8).filterMap (fun j =>
    let er := dieSymbols j ++ lanes.filter (fun x => !(dieSymbols j).contains x)
    match decodeWith raw er with
    | none => none
    | some d => if d.changed.all (fun x => er.contains x) then some { d with search := some j } else none)
  match hits with
  | [d] => some d
  | _ => none

/-! ### CRC -/

/-- One bit of a reflected CRC-32C register. -/
def crc32cBit (c : Nat) : Nat := if c % 2 = 1 then (c / 2) ^^^ 0x82F63B78 else c / 2

/-- One byte into the CRC-32C register. -/
def crc32cByte (c byte : Nat) : Nat :=
  crc32cBit (crc32cBit (crc32cBit (crc32cBit (crc32cBit (crc32cBit (crc32cBit (crc32cBit (c ^^^ byte))))))))

/-- CRC-32C over bytes: polynomial 0x1EDC_6F41 reflected, initial value and final XOR 0xFFFF_FFFF (R87). -/
def crc32c (bytes : List Nat) : Nat := (bytes.foldl crc32cByte 0xFFFFFFFF) ^^^ 0xFFFFFFFF

/-- Bytes of a number, byte 0 first. -/
def bytesOf (n count : Nat) : List Nat := (List.range count).map (fun j => n / 2 ^ (8 * j) % 256)

/-- Number of bytes, byte 0 least significant (R3). -/
def ofBytes (bs : List Nat) : Nat := bs.foldr (fun b acc => b % 256 + 256 * acc) 0

/-- One bit into a CRC-16 register with polynomial 0x1021. -/
def crc16Bit (c bit : Nat) : Nat :=
  let t := (c / 2 ^ 15 + bit) % 2
  let d := 2 * c % 65536
  if t = 1 then d ^^^ 0x1021 else d

/-- CRC-16 over the n low bits of a number, least significant bit first as they are sent (R78; the bit order is
DEDUCED, notes/assumptions/14.md). -/
def crc16 (w n : Nat) : Nat := (List.range n).foldl (fun c i => crc16Bit c (w / 2 ^ i % 2)) 0xFFFF

/-! ### The TSV keystream (R265) -/

/-- One step of the PRBS23 generator x^23 + x^18 + 1: the bit put out and the next state. -/
def prbs23 (s : Nat) : Nat × Nat :=
  let n := (s / 2 ^ 22 + s / 2 ^ 17) % 2
  (n, (2 * s + n) % 2 ^ 23)

/-- Steps of the generator, bits in order. -/
def prbs23Run : Nat → Nat → List Nat
  | 0, _ => []
  | k + 1, s => (prbs23 s).1 :: prbs23Run k (prbs23 s).2

/-- Bit b of the keystream of line index L and lane ℓ scrambles beat b. -/
def keystream (l lane : Nat) : List Nat :=
  let s := (l % 2 ^ 23) ^^^ (l / 2 ^ 23 % 256 * 2 ^ 15) ^^^ (lane * 2 ^ 9) ^^^ 0x7A5C33
  (prbs23Run 48 (if s = 0 then 0x7FFFFF else s)).drop 32

end Sys2Proof.Machine
end

