-- ==== Sys2Proof/Machine/Otp.lean ====
section
/-! DEFINITION. One-time-programmable memory (R492-R507). A burn and its verify are one step here: what the verify
read is an operand. -/
namespace Sys2Proof.Machine

/-! ### Words -/

/-- Check bits of a data word; the all-zero word is a codeword (R493). -/
def otpEccOf (d : BitVec 64) : BitVec 8 := if d = 0 then 0 else Config.otpEcc d

/-- A word carries ECC: all but LIFECYCLE, ROLLBACK and the reserved words beside them (R493, R494). -/
def otpHasEcc (a : Nat) : Bool := 0x010 ≤ a

/-- The 72 bits of a data word at an address. -/
def otpWord (a : Nat) (d : BitVec 64) : BitVec 72 := (if otpHasEcc a then otpEccOf d else 0) ++ d

/-- A word as read: its data and whether it was corrected; none: uncorrectable (R493). -/
def otpRead72 (a : Nat) (w : BitVec 72) : Option (BitVec 64 × Bool) :=
  let d : BitVec 64 := w.extractLsb' 0 64
  if !otpHasEcc a then some (d, false)
  else if w.extractLsb' 64 8 = otpEccOf d then some (d, false)
  else (Config.otpCorrect w).map (fun d => (d, true))

/-- The word stored in the main array. -/
def Dev.otpArray (s : Dev) (a : Nat) : BitVec 72 := s.otp.words.get (fun _ => 0) a

/-- Redirection entry i as read (R502): bits [6:0] the row, bit [63] VALID. -/
def Dev.otpEntry (s : Dev) (i : Nat) : BitVec 64 :=
  match otpRead72 (0x010 + i) (s.otpArray (0x010 + i)) with
  | some (d, _) => d
  | none => 0

/-- The spare row that a row is redirected to: the highest VALID entry that names it (R503). -/
def Dev.otpSpareOf (s : Dev) (row : Nat) : Option Nat :=
  (List.range 32).reverse.find? (fun i =>
    let e := s.otpEntry i
    e.getLsbD 63 && (e.toNat % 128 = row) && 3 ≤ row)

/-- The 72 bits that an access to a word address reaches (R502). -/
def Dev.otpCell (s : Dev) (a : Nat) : BitVec 72 :=
  match s.otpSpareOf (a / 16) with
  | some i => s.otp.spares.get (fun _ => 0) (16 * i + a % 16)
  | none => s.otpArray a

/-- The device with bits burned at a word address; no bit ever returns to 0. (DEDUCED, notes/assumptions/10.md) -/
def Dev.otpBurn (s : Dev) (a : Nat) (bits : BitVec 72) : Dev :=
  match s.otpSpareOf (a / 16) with
  | some i =>
    { s with otp := { s.otp with spares := s.otp.spares.set (fun _ => 0) (16 * i + a % 16) (s.otpCell a ||| bits) } }
  | none => { s with otp := { s.otp with words := s.otp.words.set (fun _ => 0) a (s.otpCell a ||| bits) } }

/-- Data of a word, zero where it is uncorrectable (R493). -/
def Dev.otpData (s : Dev) (a : Nat) : BitVec 64 :=
  match otpRead72 a (s.otpCell a) with
  | some (d, _) => d
  | none => 0

/-- A word is uncorrectable. -/
def Dev.otpUe (s : Dev) (a : Nat) : Bool := (otpRead72 a (s.otpCell a)).isNone

/-! ### Lockable regions (R496, R497) -/

/-- A lockable region: first data word, number of data words, COMPLETE word, first digest word, and the lifecycle
states it may be programmed in. -/
structure OtpRegion where
  first : Nat
  count : Nat
  complete : Nat
  digest : Nat
  states : List Nat
deriving DecidableEq, Repr

/-- The regions 0-15 of R496, primary copies. -/
def otpRegions : List OtpRegion :=
  [⟨0x100, 4, 0x104, 0x105, [0, 1]⟩, ⟨0x108, 6, 0x10E, 0x10F, [0, 1]⟩, ⟨0x118, 6, 0x11E, 0x11F, [0, 1]⟩,
   ⟨0x128, 6, 0x12E, 0x12F, [0, 1]⟩, ⟨0x138, 1, 0x139, 0x13A, [0, 1]⟩, ⟨0x140, 1, 0x141, 0x142, [0, 1]⟩,
   ⟨0x148, 4, 0x14C, 0x14D, [2]⟩, ⟨0x180, 64, 0x1C0, 0x1C1, [0, 1]⟩] ++
  (List.range 8).map (fun k => ⟨0x200 + 0x20 * k, 16, 0x210 + 0x20 * k, 0x211 + 0x20 * k, [1, 2, 3]⟩)

/-- The twin of a region lies at primary + 0x400 (R494). -/
def OtpRegion.twin (r : OtpRegion) : OtpRegion :=
  { r with first := r.first + 0x400, complete := r.complete + 0x400, digest := r.digest + 0x400 }

/-- A copy by index and side. -/
def otpCopy (i : Nat) (tw : Bool) : Option OtpRegion :=
  (otpRegions[i]?).map (fun r => if tw then r.twin else r)

/-- The eight bytes "COMPLETE", byte 0 in bits [7:0]. -/
def completeWord : BitVec 64 := 0x4554454C504D4F43

/-- Data and COMPLETE words of a copy as they read. -/
def Dev.otpCopyWords (s : Dev) (r : OtpRegion) : List (BitVec 64) :=
  ((List.range r.count).map (fun i => s.otpData (r.first + i))) ++ [s.otpData r.complete]

/-- A copy is sealed when its digest words are not both unprogrammed (R497). -/
def Dev.otpSealed (s : Dev) (r : OtpRegion) : Bool :=
  !(s.otpCell r.digest = 0 && s.otpCell (r.digest + 1) = 0)

/-- State of a copy (R497): 0 OPEN, 1 VALID, 2 INCOMPLETE, 3 BAD. -/
def Dev.otpCopyState (s : Dev) (r : OtpRegion) : Nat :=
  if !s.otpSealed r then 0
  else
    let ue := (List.range r.count).any (fun i => s.otpUe (r.first + i)) || s.otpUe r.complete || s.otpUe r.digest ||
      s.otpUe (r.digest + 1)
    let dg : BitVec 128 := s.otpData (r.digest + 1) ++ s.otpData r.digest
    if ue ∨ dg ≠ Config.sha256Words (s.otpCopyWords r) then 3
    else if s.otpData r.complete = completeWord then 1 else 2

/-- The copy in use, as Dawn chose it: primary when VALID, else the twin when VALID, else none (R497); IN_USE shows it. -/
def Dev.otpInUse (s : Dev) (i : Nat) : Option OtpRegion :=
  match s.rd base.otp (OTP.REGION.IN_USE.at 4 i) with
  | 0 => otpRegions[i]?
  | 1 => (otpRegions[i]?).map OtpRegion.twin
  | _ => none

/-- Data word k of a region in use. -/
def Dev.otpRegionWord (s : Dev) (i k : Nat) : Option (BitVec 64) := (s.otpInUse i).map (fun r => s.otpData (r.first + k))

/-- A 384-bit key hash held in a region, first word lowest; none when no copy is usable. -/
def Dev.otpHash (s : Dev) (i : Nat) : Option (BitVec 384) :=
  (s.otpInUse i).map (fun r =>
    (List.range 6).foldl (fun (a : BitVec 384) k => a ||| ((BitVec.zeroExtend 384 (s.otpData (r.first + k))) <<< (64 * k))) 0)

/-- The Batt key hash (region 1), firmware key hash (2), vendor CA key hash (3). -/
def Dev.battKeyHash (s : Dev) : Option (BitVec 384) := s.otpHash 1
def Dev.fwKeyHash (s : Dev) : Option (BitVec 384) := s.otpHash 2
def Dev.caKeyHash (s : Dev) : Option (BitVec 384) := s.otpHash 3

/-- The 256-bit device root key (region 6); none when no copy is usable, and none in RETURNED and SCRAPPED (R451). -/
def Dev.rootKey (s : Dev) : Option (BitVec 256) :=
  if 4 ≤ s.otp.lifecycle then none
  else (s.otpInUse 6).map (fun r =>
    s.otpData (r.first + 3) ++ s.otpData (r.first + 2) ++ s.otpData (r.first + 1) ++ s.otpData r.first)

/-- Lifecycle state that LIFECYCLE shows: the one reached by the highest taken field (R495). -/
def lifecycleOf (w : BitVec 64) : Nat :=
  (List.range 5).foldl (fun a k => if bitsOf w.toNat (8 * k) 8 ≠ 0 then k + 1 else a) 0

/-- ROLLBACK: the number of bits that read 1 (R494). -/
def popcount (n : Nat) (w : Nat) : Nat := (List.range n).foldl (fun a i => a + w / 2 ^ i % 2) 0

/-- PRIMARY or TWIN of a region's register. -/
def Dev.otpShowCopy (s : Dev) (i : Nat) (tw : Bool) (st : Nat) : Dev :=
  s.put base.otp (((if tw then OTP.REGION.TWIN else OTP.REGION.PRIMARY)).at 4 i) st

/-- SPARE.USED and FULL: entries programmed, torn ones included (R502). -/
def Dev.otpShowSpares (s : Dev) : Dev :=
  let used := ((List.range 32).filter (fun i => s.otpArray (0x010 + i) ≠ 0)).length
  (s.put base.otp OTP.SPARE.USED used).putFlag base.otp OTP.SPARE.FULL (used = 32)

/-! ### Ends of operations -/

def otpOk : Nat := 0
def otpLocked : Nat := 1
def otpDenied : Nat := 2
def otpConflict : Nat := 3
def otpNoSpare : Nat := 4
def otpAborted : Nat := 5
def otpVerifyFail : Nat := 6
def otpRefused : Nat := 7
def otpCond : Nat := 8
def otpUncorrectable : Nat := 9

/-- An operation ends: SEQ advances, RESULT, idle; GO has been taken. -/
def Dev.otpEnd (s : Dev) (res : Nat) : Dev :=
  (((s.put base.otp OTP.CMD.GO 0).put base.otp OTP.STATUS.RESULT res).put base.otp OTP.STATUS.STATE 0).bump base.otp
    OTP.STATUS.SEQ

/-- GO of OTP.CTL.CMD: an OP above 4 ends with REFUSED; the operations 0-4 are commands of their own, which find GO set
until they are taken. (DESIGN CHOICE, notes/assumptions/13.md) -/
def Dev.otpGo (s : Dev) : Dev :=
  if 5 ≤ s.rd base.otp OTP.CMD.OP ∧ s.otp.held = false then s.otpEnd otpRefused else s.put base.otp OTP.CMD.GO 1

/-- The address of the command. -/
def Dev.otpAddr (s : Dev) : Nat := s.rd base.otp OTP.CMD.ADDR

/-- WEAK of the oldest list entry. -/
def Dev.otpShowWeak (s : Dev) : Dev :=
  (s.put base.otp OTP.WEAK.ADDR (s.otp.weak.headD 0)).put base.otp OTP.WEAK.COUNT s.otp.weak.length

/-- A read whose two samples disagree marks the word WEAK (R492). -/
def Dev.otpMarkWeak (s : Dev) (a : Nat) : Dev :=
  let s1 := s.raise srcOtpWeak
  if s.otp.weak.contains a then s1
  else if 16 ≤ s.otp.weak.length then s1.count base.otp OTP.WEAK_DROP.COUNT
  else ({ s1 with otp := { s1.otp with weak := s.otp.weak ++ [a] } }.count base.otp OTP.WEAK_FOUND.COUNT).otpShowWeak

/-- One read of a word, its second sample given: the data, and the device with WEAK, CORR and UE noted (R492, R493). -/
def Dev.otpSample (s : Dev) (a : Nat) (tight : BitVec 72) : BitVec 64 × Bool × Dev :=
  let w := s.otpCell a
  let s1 := (s.putFlag base.otp OTP.STATUS.WEAK (w ≠ tight)).when (w ≠ tight) (fun s => s.otpMarkWeak a)
  match otpRead72 a w with
  | none => (0, false, ((s1.raise srcOtpUe).count base.otp OTP.UE.COUNT).put base.otp OTP.STATUS.CORR 0)
  | some (d, c) => (d, true, (s1.putFlag base.otp OTP.STATUS.CORR c).when c (fun s => s.count base.otp OTP.CORR.COUNT))

/-- Words that hardware reads for itself: each that is uncorrectable raises OTP_UE, each corrected one counts, and those
whose samples disagreed are marked WEAK (R492, R493). (DEDUCED, notes/assumptions/11.md) -/
def Dev.otpReadAll (s : Dev) (words weak : List Nat) : Dev :=
  let s1 := s.each (words.filter (fun a => weak.contains a)) (fun s a => s.otpMarkWeak a)
  s1.each words (fun s a =>
    match otpRead72 a (s.otpCell a) with
    | none => (s.raise srcOtpUe).count base.otp OTP.UE.COUNT
    | some (_, c) => s.when c (fun s => s.count base.otp OTP.CORR.COUNT))

/-- A burn cut short, or one whose verify failed and that no spare row takes over: which of its bits got programmed is
open. -/
def Dev.otpTorn (s : Dev) (a : Nat) (bits : BitVec 72) : Dev :=
  let (f0, s1) := s.freeValue
  let (f1, s2) := s1.freeValue
  s2.otpBurn a (bits &&& (f1.extractLsb' 0 8 ++ f0))

/-! ### Commands -/

/-- A word of a lockable region copy: region index, copy, and whether it is a data or the COMPLETE word. -/
def otpSite (a : Nat) : Option (Nat × Bool × OtpRegion) :=
  ((List.range 16).flatMap (fun i => [(i, false), (i, true)])).findSome? (fun x =>
    match otpCopy x.1 x.2 with
    | none => none
    | some r => if (r.first ≤ a ∧ a < r.first + r.count) ∨ a = r.complete then some (x.1, x.2, r) else none)

/-- The address lies in ROOTKEY or its twin, digest words included. -/
def inRootKey (a : Nat) : Bool := (0x148 ≤ a && a ≤ 0x14E) || (0x548 ≤ a && a ≤ 0x54E)

/-- During the Dawn step a command is held; a second GO replaces the held one (R506, R507). -/
def Dev.otpWait (s : Dev) (c : OtpHeld) : Dev :=
  ({ s with otp := { s.otp with waiting := some c } } : Dev).put base.otp OTP.CMD.GO 1

/-- READ (R492, R498). -/
def Dev.otpReadCmd (s : Dev) (tight : BitVec 72) : Dev :=
  if s.otp.held then s.otpWait (.read tight)
  else if inRootKey s.otpAddr then (s.setWide base.otp 2 0).otpEnd otpDenied
  else
    let (d, _, s1) := s.otpSample s.otpAddr tight
    (s1.setWide base.otp 2 d.toNat).otpEnd otpOk

def execOtpRead (m : Master) (tight : BitVec 72) (s : State) : Host.Outcome State Fault Refusal :=
  s.act (fun s => s.owned m base.otp (fun s => s.otpReadCmd tight))

/-- The row of an address is redirected (R502): the lowest wholly unprogrammed entry, every word copied as it reads, the
burn under way applied, then the entry burned. Result code. -/
def Dev.otpRedirectRow (s : Dev) (row : Nat) (burn : Nat × BitVec 72) : Nat × Dev :=
  if row < 3 then (otpVerifyFail, s)
  else
    match (List.range 32).find? (fun i => s.otpArray (0x010 + i) = 0) with
    | none => (otpNoSpare, s.raise srcSpareFull)
    | some i =>
      let copied := (List.range 16).map (fun k =>
        let a := 16 * row + k
        let w := otpWord a (s.otpData a)
        (16 * i + k, if burn.1 = a then w ||| burn.2 else w))
      let sp := copied.foldl (fun (t : Tab (BitVec 72)) e => t.set (fun _ => 0) e.1 (t.get (fun _ => 0) e.1 ||| e.2)) s.otp.spares
      let entry := otpWord (0x010 + i) (BitVec.ofNat 64 (2 ^ 63 + row))
      (otpOk, { s with otp := { s.otp with spares := sp, words := s.otp.words.set (fun _ => 0) (0x010 + i) entry } }.otpShowSpares)

/-- PWRFAIL_N or Tshut comes during the burn of a word: some data pulses have ended, the ECC pulse has not
(R507). -/
def Dev.otpCutBurn (s : Dev) (a : Nat) (bits : BitVec 72) : Dev :=
  (s.otpTorn a (bits &&& 0x00FFFFFFFFFFFFFFFF)).otpEnd otpAborted

/-- PROG (R498, R499). `verified`: the word read back at both references. (DEDUCED, notes/assumptions/21.md) -/
def Dev.otpProgCmd (s : Dev) (cond : BurnConditions) (verified : Bool) : Dev :=
  let a := s.otpAddr
  let v := BitVec.ofNat 64 (s.wideOf base.otp 1)
  if s.otp.held then s.otpWait (.prog cond verified)
  else
    match otpSite a with
    | none => s.otpEnd otpDenied
    | some (_, _, r) =>
      if s.otp.lifecycle = 5 ∨ ¬ r.states.contains s.otp.lifecycle then s.otpEnd otpDenied
      else if s.otpSealed r then s.otpEnd otpLocked
      else if !cond.suppliesInRange then s.otpEnd otpCond
      else
        let new := otpWord a v
        if s.otpCell a &&& ~~~new ≠ 0 then s.otpEnd otpConflict
        else if s.otpCell a = new then s.otpEnd otpOk
        else if !cond.uncut then s.otpCutBurn a new
        else if verified then (s.otpBurn a new).otpEnd otpOk
        else
          let (res, s1) := s.otpRedirectRow (a / 16) (a, new)
          (if res = otpOk then s1 else s1.otpTorn a new).otpEnd res

def execOtpProg (m : Master) (cond : BurnConditions) (verified : Bool) (s : State) : Host.Outcome State Fault Refusal :=
  s.act (fun s => s.owned m base.otp (fun s => s.otpProgCmd cond verified))

/-- The data words and the COMPLETE word of a copy. -/
def OtpRegion.sealedWords (r : OtpRegion) : List Nat := (List.range r.count).map (fun k => r.first + k) ++ [r.complete]

/-- SEAL (R498, R500, R507): the address is the first word of a copy. `weak`: the words whose two samples disagreed. -/
def Dev.otpSealCmd (s : Dev) (cond : BurnConditions) (verified : Bool) (weak : List Nat) : Dev :=
  let a := s.otpAddr
  if s.otp.held then s.otpWait (.seal cond verified weak)
  else
    match otpSite a with
    | none => s.otpEnd otpDenied
    | some (i, tw, r) =>
      if s.otp.lifecycle = 5 ∨ a ≠ r.first ∨ ¬ r.states.contains s.otp.lifecycle then s.otpEnd otpDenied
      else if s.otpSealed r then s.otpEnd otpLocked
      else if !cond.suppliesInRange then s.otpEnd otpCond
      else if r.sealedWords.any s.otpUe then (s.otpReadAll r.sealedWords weak).otpEnd otpUncorrectable
      else
        let s0 := s.otpReadAll r.sealedWords weak
        let dg := Config.sha256Words (s.otpCopyWords r)
        let w0 := otpWord r.digest (dg.extractLsb' 0 64)
        let w1 := otpWord (r.digest + 1) (dg.extractLsb' 64 64)
        let s1 := if verified && cond.uncut then (s0.otpBurn r.digest w0).otpBurn (r.digest + 1) w1
          else (s0.otpTorn r.digest w0).otpTorn (r.digest + 1) w1
        let s2 := s1.otpShowCopy i tw (s1.otpCopyState r)
        s2.otpEnd (if !cond.uncut then otpAborted else if verified then otpOk else otpVerifyFail)

def execOtpSeal (m : Master) (cond : BurnConditions) (verified : Bool) (weak : List (Fin 2048)) (s : State) :
    Host.Outcome State Fault Refusal :=
  s.act (fun s => s.owned m base.otp (fun s => s.otpSealCmd cond verified (weak.map (·.val))))

/-- REBURN (R501): every bit that reads 1 is burned again; the word leaves the weak list when both references agree. SCRAPPED
alone refuses it, wherever the word lies. (DEDUCED, notes/assumptions/196.md) -/
def Dev.otpReburnCmd (s : Dev) (cond : BurnConditions) (agree verified : Bool) : Dev :=
  let a := s.otpAddr
  if s.otp.held then s.otpWait (.reburn cond agree verified)
  else if s.otp.lifecycle = 5 then s.otpEnd otpDenied
  else if !cond.suppliesInRange then s.otpEnd otpCond
  else if !cond.uncut then s.otpEnd otpAborted
  else
    let s1 := if agree then
        { s with otp := { s.otp with weak := s.otp.weak.filter (fun x => x != a) } }.otpShowWeak
      else (s.raise srcBurnFail).count base.otp OTP.BURN_FAIL.COUNT
    if verified then s1.otpEnd otpOk
    else
      let (res, s2) := s1.otpRedirectRow (a / 16) (a, 0)
      s2.otpEnd res

def execOtpReburn (m : Master) (cond : BurnConditions) (agree verified : Bool) (s : State) :
    Host.Outcome State Fault Refusal := s.act (fun s => s.owned m base.otp (fun s => s.otpReburnCmd cond agree verified))

/-- REDIRECT cut short (R502, R503, R507): what it had copied of the row into the spare row is open, and the entry, which it
burns last, has no VALID. -/
def Dev.otpCutRow (s : Dev) (row : Nat) : Dev :=
  match (List.range 32).find? (fun i => s.otpArray (0x010 + i) = 0) with
  | none => s
  | some i =>
    if row < 3 then s
    else
      let s1 := s.each (List.range 16) (fun s k =>
        let a := 16 * row + k
        let f := s.freeValue
        let g := f.2.freeValue
        let w := otpWord a (g.2.otpData a) &&& (g.1.extractLsb' 0 8 ++ f.1)
        let old := g.2.otp.spares.get (fun _ => 0) (16 * i + k)
        { g.2 with otp := { g.2.otp with spares := g.2.otp.spares.set (fun _ => 0) (16 * i + k) (old ||| w) } })
      (s1.otpTorn (0x010 + i) (BitVec.ofNat 72 row)).otpShowSpares

/-- REDIRECT (R502). -/
def Dev.otpRedirectCmd (s : Dev) (cond : BurnConditions) : Dev :=
  if s.otp.held then s.otpWait (.redirect cond)
  else if s.otp.lifecycle = 5 then s.otpEnd otpDenied
  else if !cond.suppliesInRange then s.otpEnd otpCond
  else if !cond.uncut then (s.otpCutRow (s.otpAddr / 16)).otpEnd otpAborted
  else
    let (res, s1) := s.otpRedirectRow (s.otpAddr / 16) (0x800, 0)
    s1.otpEnd res

def execOtpRedirect (m : Master) (cond : BurnConditions) (s : State) : Host.Outcome State Fault Refusal :=
  s.act (fun s => s.owned m base.otp (fun s => s.otpRedirectCmd cond))

/-- POP of the weak list; ignored when empty (R492). -/
def Dev.otpWeakPop (s : Dev) : Dev :=
  ({ s with otp := { s.otp with weak := s.otp.weak.drop 1 } }.put base.otp OTP.WEAK.POP 0).otpShowWeak

def execOtpWeakPop (s : State) : Host.Outcome State Fault Refusal := s.act Dev.otpWeakPop

/-- The held command runs once the Dawn step has ended (R506). -/
def Dev.otpRelease (s : Dev) : Dev :=
  let s1 : Dev := { s with otp := { s.otp with held := false, waiting := none } }
  match s.otp.waiting with
  | none => s1
  | some (.read tight) => s1.otpReadCmd tight
  | some (.prog cond verified) => s1.otpProgCmd cond verified
  | some (.seal cond verified weak) => s1.otpSealCmd cond verified weak
  | some (.reburn cond agree verified) => s1.otpReburnCmd cond agree verified
  | some (.redirect cond) => s1.otpRedirectCmd cond

/-! ### The Dawn reading step (R495, R497, R506, R507) -/

/-- A region's two copies get their states and faults, and IN_USE is chosen (R497). -/
def Dev.otpLoadRegion (s : Dev) (i : Nat) : Dev :=
  match otpRegions[i]? with
  | none => s
  | some r =>
    let p := s.otpCopyState r
    let t := s.otpCopyState r.twin
    let differ := p = 1 ∧ t = 1 ∧
      (List.range r.count).any (fun k => s.otpData (r.first + k) ≠ s.otpData (r.twin.first + k)) = true
    let s1 := ((s.otpShowCopy i false p).otpShowCopy i true t).put base.otp (OTP.REGION.IN_USE.at 4 i)
      (if p = 1 then 0 else if t = 1 then 1 else 2)
    let s2 := s1.put base.otp (OTP.REGION.TWIN_DIFF.at 4 i) (if differ then 1 else 0)
    let s3 := s2.when (p = 3 || t = 3 || decide differ) (fun s => s.raise srcOtpDigest)
    s3.when (p = 2 || t = 2) (fun s => s.raise srcOtpIncomplete)

/-- LIFECYCLE fields at Dawn: every taken field and every field below the highest taken one is burned whole (R495). -/
def lifecycleFix (w : BitVec 64) : BitVec 64 :=
  BitVec.ofNat 64 (w.toNat / 2 ^ 40 * 2 ^ 40 + (2 ^ (8 * lifecycleOf w) - 1))

/-- The words that the reading step reads (R506): LIFECYCLE, ROLLBACK, the redirection entries, the thermal journal and
both copies of every region. -/
def otpDawnWords : List Nat :=
  [0, 1] ++ (List.range 32).map (0x010 + ·) ++ (List.range 128).map (0x040 + ·) ++
  otpRegions.flatMap (fun r => [r, r.twin].flatMap (fun c => c.sealedWords ++ [c.digest, c.digest + 1]))

/-- The registers that the reading step keeps until the next chip reset (R493). -/
def Dev.otpLoad (s : Dev) : Dev :=
  let lw : BitVec 64 := (s.otpArray 0).extractLsb' 0 64
  let s1 := s.otpBurn 0 (BitVec.zeroExtend 72 (lifecycleFix lw))
  let lc := lifecycleOf lw
  -- first Dawn in SCRAPPED burns every bit of both ROOTKEY copies
  let s2 := if lc = 5 then s1.each ((List.range 7).flatMap (fun k => [0x148 + k, 0x548 + k]))
      (fun s a => s.otpBurn a (BitVec.allOnes 72)) else s1
  let s3 := s2.each (List.range 16) (fun s i => s.otpLoadRegion i)
  let uid := ((s3.otpRegionWord 0 0).getD 0)
  let pol := match s3.otpRegionWord 4 0 with
    | some w => if w.extractLsb' 0 2 = (0 : BitVec 2) then 3 else w.extractLsb' 0 2
    | none => 3
  let lim := match s3.otpRegionWord 5 0 with
    | some w => w.toNat % 2 ^ 32
    | none => 108 + 110 * 2 ^ 8 + 100 * 2 ^ 16 + 100 * 2 ^ 24
  let s4 := { s3 with otp := { s3.otp with
    lifecycle := lc, rollback := popcount 64 ((s3.otpArray 1).toNat % 2 ^ 64), policy := pol, pendingLc := none } }
  let s5 := (s4.setWide base.rnode 1 uid.toNat).put base.therm THERM.LIMITS.reg lim
  let s6 := ((s5.put base.lc LC.STATUS.STATE lc).put base.lc LC.STATUS.PENDING 0).put base.fwup FWUP.STATUS.COUNTER s5.otp.rollback
  (s6.put base.bist BIST.POLICY.AB pol.toNat).otpShowSpares

end Sys2Proof.Machine
end

