-- ==== Sys2Proof/Machine/BattCheck.lean ====
section
/-! DEFINITION. Batt images: the items, the checks and the comparison with the image in force (R49-R58, R60, R64). -/
namespace Sys2Proof.Machine

/-! ### Items (R55, R56) -/

/-- An item of R56: code, highest INDEX, range, default. -/
structure ItemSpec where
  code : Nat
  maxIdx : Nat
  lo : Nat
  hi : Nat
  dflt : Nat
deriving DecidableEq, Repr

def itInterleave : Nat := 0x0101
def itBankHash : Nat := 0x0102
def itShadowGib : Nat := 0x0103
def itRgnSpan : Nat := 0x0201
def itRgnAttr : Nat := 0x0202
def itTsvRate : Nat := 0x0301
def itScramble : Nat := 0x0302
def itSpareCal : Nat := 0x0303
def itPortRole : Nat := 0x0401
def itLaneRate : Nat := 0x0402
def itNodePolicy : Nat := 0x0501
def itNodeId : Nat := 0x0502
def itHbMode : Nat := 0x0601
def itBattPush : Nat := 0x0701
def itMgtPorts : Nat := 0x0702
def itDebugRead : Nat := 0x0703
def itDirtyBudget : Nat := 0x0801
def itDestageCap : Nat := 0x0802
def itHoldupJ : Nat := 0x0803
def itHoldupEff : Nat := 0x0804
def itPowerBudget : Nat := 0x0901
def itDuskIdle : Nat := 0x0902
def itHotC : Nat := 0x0A01
def itThrottleC : Nat := 0x0A02
def itThaltC : Nat := 0x0A03
def itTdWarnC : Nat := 0x0A04
def itL0Share : Nat := 0x0B01
def itL1Weight : Nat := 0x0B02
def itL2Weight : Nat := 0x0B03
def itScrubHours : Nat := 0x0C01
def itDriftSteps : Nat := 0x0C02

/-- The items of R56. The three thermal thresholds end at the OTP limit, which `itemRange` puts in. -/
def itemSpecs : List ItemSpec :=
  [⟨itInterleave, 0, 0, 2, 2⟩, ⟨itBankHash, 0, 0, 1, 1⟩, ⟨itShadowGib, 0, 0, 16, 4⟩,
   ⟨itRgnSpan, 63, 0, 0xFFFFFFFF, 0⟩, ⟨itRgnAttr, 63, 0, 0xFFFFFFFF, 0⟩,
   ⟨itTsvRate, 3, 0, 2, 0⟩, ⟨itScramble, 3, 0, 1, 1⟩, ⟨itSpareCal, 3, 0, 1, 1⟩,
   ⟨itPortRole, 5, 0, 3, 3⟩, ⟨itLaneRate, 5, 0, 1, 0⟩,
   ⟨itNodePolicy, 0, 0, 1, 1⟩, ⟨itNodeId, 0, 1, 0xFFE, 0⟩, ⟨itHbMode, 0, 0, 3, 0⟩,
   ⟨itBattPush, 0, 0, 0xF, 0xF⟩, ⟨itMgtPorts, 0, 0, 0x3F, 0x3F⟩, ⟨itDebugRead, 0, 0, 1, 0⟩] ++
  [⟨itDirtyBudget, 0, 1, 32, 8⟩, ⟨itDestageCap, 0, 1, 72, 16⟩, ⟨itHoldupJ, 0, 4, 255, 24⟩, ⟨itHoldupEff, 0, 50, 100, 90⟩,
   ⟨itPowerBudget, 0, 15, 70, 70⟩, ⟨itDuskIdle, 0, 1, 1000, 10⟩,
   ⟨itHotC, 0, 60, 255, 85⟩, ⟨itThrottleC, 0, 60, 255, 95⟩, ⟨itThaltC, 0, 60, 255, 100⟩, ⟨itTdWarnC, 3, 20, 125, 85⟩,
   ⟨itL0Share, 0, 10, 60, 60⟩, ⟨itL1Weight, 0, 1, 15, 8⟩, ⟨itL2Weight, 0, 1, 15, 2⟩,
   ⟨itScrubHours, 0, 1, 168, 24⟩, ⟨itDriftSteps, 0, 1, 8, 3⟩]

def itemSpec (code : Nat) : Option ItemSpec := itemSpecs.find? (fun i => i.code = code)

/-- Default of an item (R53, R56). -/
def itemDefault (code : Nat) : Nat := match itemSpec code with | some i => i.dflt | none => 0

/-- Default of an item in the no-image state: POWER_BUDGET 25 W, every LANE_RATE 56 Gb/s (R60). -/
def noImageDefault (code : Nat) : Nat :=
  if code = itPowerBudget then 25 else if code = itLaneRate then 1 else itemDefault code

/-- Key of an item in an image's table. -/
def itemKey (code idx : Nat) : Nat := 64 * code + idx

/-- An item of an image, its default where the image has no record of it (R53). -/
def Image.item (im : Image) (code idx : Nat) : Nat :=
  (im.items.get (fun k => BitVec.ofNat 32 (itemDefault (k / 64))) (itemKey code idx)).toNat

/-- An item in force. -/
def Dev.item (s : Dev) (code idx : Nat) : Nat :=
  match s.batt.active with
  | some im => im.item code idx
  | none => noImageDefault code

/-- Section types that the device recognises (R55). -/
def knownSection (t : Nat) : Bool := 1 ≤ t && t ≤ 0x000C

/-- Reserved bits of the layouts of RGNnn_SPAN and RGNnn_ATTR: a value that sets one is outside its range (DEDUCED,
notes/assumptions/18.md). -/
def itemReserved (code : Nat) : Nat := if code = itRgnSpan then 0x6000E000 else if code = itRgnAttr then 0xFFFF0008 else 0

/-! ### Checks (R57, R58) -/

/-- A failure: result code, SECTION, FAIL_OFFSET. -/
structure BattFail where
  code : Nat
  sec : Nat
  off : Nat
deriving DecidableEq, Repr

/-- Bytes [off, off + n) as a little-endian number. -/
def fieldAt (bs : List Nat) (off n : Nat) : Nat := ofBytes ((bs.drop off).take n)

/-- What the checks need of the device. -/
structure BattCtx where
  keyHash : Option (BitVec 384)
  lifecycle : Nat
  uid : Nat
  stepping : Nat
  fwVersion : Nat
  thermMax : Nat
  node : Nat
deriving DecidableEq, Repr

def toBytes (bs : List Nat) : List (BitVec 8) := bs.map (BitVec.ofNat 8)

/-- Checks 1 and 2. -/
def battCheck12 (bs : List Nat) : Option BattFail :=
  let n := bs.length
  if n < 256 ∨ 65536 < n ∨ n % 8 ≠ 0 ∨ fieldAt bs 0x08 4 ≠ n then some ⟨1, 0, 0x08⟩
  else if fieldAt bs 0x00 4 ≠ 0x54544142 then some ⟨2, 0, 0x00⟩
  else if fieldAt bs 0x04 2 ≠ 1 then some ⟨2, 0, 0x04⟩
  else none

/-- Checks 3, 4 and 5. (DEDUCED, notes/assumptions/9.md) -/
def battCheck345 (bs : List Nat) (c : BattCtx) : Option BattFail :=
  let n := bs.length
  let test := fieldAt bs 0x0E 2 % 2 = 1
  let pub := toBytes ((bs.drop (n - 192)).take 96)
  let keyFail : Option BattFail :=
    match c.keyHash with
    | some h => if Config.sha384 pub = h then none else some ⟨3, 0, n - 192⟩
    | none => if c.lifecycle ≠ 0 then some ⟨3, 0, n - 192⟩ else if test then none else some ⟨3, 0, 0x0E⟩
  match keyFail with
  | some f => some f
  | none =>
    if !Config.ecdsaVerify pub (Config.sha384 (toBytes (bs.take (n - 96)))) (toBytes (bs.drop (n - 96))) then
      some ⟨4, 0, n - 96⟩
    else if fieldAt bs 0x18 8 ≠ 0 ∧ fieldAt bs 0x18 8 ≠ c.uid then some ⟨5, 0, 0x18⟩
    else if fieldAt bs 0x14 2 / 2 ^ c.stepping % 2 = 0 then some ⟨5, 0, 0x14⟩
    else if c.fwVersion < fieldAt bs 0x20 4 then some ⟨5, 0, 0x20⟩
    else if test ∧ 1 < c.lifecycle then some ⟨5, 0, 0x0E⟩
    else none

/-- A directory entry: its own offset in the image, TYPE, OFFSET, LENGTH. -/
structure DirEntry where
  at_ : Nat
  typ : Nat
  off : Nat
  len : Nat
deriving DecidableEq, Repr

def dirEntries (bs : List Nat) : List DirEntry :=
  (List.range (fieldAt bs 0x0C 2)).map (fun i =>
    let e := 0x40 + 16 * i
    ⟨e, fieldAt bs e 2, fieldAt bs (e + 4) 4, fieldAt bs (e + 8) 4⟩)

/-- The directory rules of R51 and R55, entry by entry: `prevT`, `prevEnd` the TYPE and end of the entry before. -/
def dirFail (bs : List Nat) : List DirEntry → Nat → Nat → Option BattFail
  | [], _, _ => none
  | e :: es, prevT, prevEnd =>
    if fieldAt bs (e.at_ + 3) 1 ≠ 0 ∨ fieldAt bs (e.at_ + 12) 4 ≠ 0 ∨ e.typ ≤ prevT ∨ e.off % 8 ≠ 0 ∨ e.len % 8 ≠ 0 ∨
        e.off < prevEnd ∨ bs.length < e.off + e.len + 192 ∨ (!knownSection e.typ ∧ e.typ < 0x8000) ∨
        fieldAt bs (e.at_ + 2) 1 ≠ 1 then some ⟨6, e.typ % 256, e.at_⟩
    else dirFail bs es e.typ (e.off + e.len)

/-- The first non-zero byte of a gap between the parts of an image. -/
def gapFail (bs : List Nat) (lo hi : Nat) : Option BattFail :=
  match ((bs.drop lo).take (hi - lo)).findIdx? (fun b => b ≠ 0) with
  | none => none
  | some i => some ⟨6, 0, lo + i⟩

/-- Every byte outside the parts is zero (R51). -/
def gapsFail (bs : List Nat) : List DirEntry → Nat → Option BattFail
  | [], at_ => gapFail bs at_ (bs.length - 192)
  | e :: es, at_ => match gapFail bs at_ e.off with | some f => some f | none => gapsFail bs es (e.off + e.len)

/-- An item record: its offset, TYPE of its section, ITEM, INDEX, VALUE. -/
structure ItemRec where
  at_ : Nat
  typ : Nat
  code : Nat
  idx : Nat
  val : Nat
deriving DecidableEq, Repr

def recordsOf (bs : List Nat) (e : DirEntry) : List ItemRec :=
  (List.range (e.len / 8)).map (fun i =>
    let r := e.off + 8 * i
    ⟨r, e.typ, fieldAt bs r 2, fieldAt bs (r + 2) 1, fieldAt bs (r + 4) 4⟩)

/-- The record rules of R52 within a section. -/
def recordsFail (bs : List Nat) : List ItemRec → Option Nat → Option BattFail
  | [], _ => none
  | r :: rs, prev =>
    let k := r.code * 256 + r.idx
    if r.code / 256 ≠ r.typ % 256 ∨ fieldAt bs (r.at_ + 3) 1 ≠ 0 ∨ prev.any (fun p => k ≤ p) = true then
      some ⟨6, r.typ % 256, r.at_⟩
    else recordsFail bs rs (some k)

/-- The first failure of a list of checks. -/
def firstFail (fs : List (Option BattFail)) : Option BattFail := fs.findSome? id

/-- Check 6. -/
def battCheck6 (bs : List Nat) : Option BattFail :=
  let ds := dirEntries bs
  let dirEnd := 0x40 + 16 * ds.length
  firstFail
    [if fieldAt bs 0x0E 2 / 2 ≠ 0 then some ⟨6, 0, 0x0E⟩ else none,
     if fieldAt bs 0x16 2 ≠ 0 then some ⟨6, 0, 0x16⟩ else none,
     if fieldAt bs 0x24 4 ≠ 0 then some ⟨6, 0, 0x24⟩ else none,
     if fieldAt bs 0x30 16 ≠ 0 then some ⟨6, 0, 0x30⟩ else none,
     if 32 < ds.length ∨ bs.length < dirEnd + 192 then some ⟨6, 0, 0x0C⟩ else none,
     dirFail bs ds 0 dirEnd, gapsFail bs ds dirEnd,
     firstFail ((ds.filter (fun e => knownSection e.typ)).map (fun e => recordsFail bs (recordsOf bs e) none))]

/-- Records of the recognised sections, in order. -/
def battRecords (bs : List Nat) : List ItemRec :=
  ((dirEntries bs).filter (fun e => knownSection e.typ)).flatMap (recordsOf bs)

/-- Check 7: every ITEM listed, INDEX and VALUE in range, a RGN_ATTR only under a valid RGN_SPAN. -/
def battCheck7 (rs : List ItemRec) (c : BattCtx) : Option BattFail :=
  (rs.find? (fun r =>
    match itemSpec r.code with
    | none => true
    | some i =>
      let hi := if r.code = itHotC ∨ r.code = itThrottleC ∨ r.code = itThaltC then c.thermMax else i.hi
      i.maxIdx < r.idx || r.val < i.lo || hi < r.val || r.val &&& itemReserved r.code ≠ 0 ||
        (r.code = itRgnAttr && !rs.any (fun x => x.code = itRgnSpan && x.idx = r.idx && 2 ^ 31 ≤ x.val)))).map
    (fun r => ⟨7, r.typ % 256, r.at_⟩)

/-- The items of an image as a table. -/
def itemsOf (rs : List ItemRec) : Tab (BitVec 32) :=
  rs.foldl (fun (t : Tab (BitVec 32)) r =>
    t.set (fun k => BitVec.ofNat 32 (itemDefault (k / 64))) (itemKey r.code r.idx) (BitVec.ofNat 32 r.val)) []

/-- A cross-item failure names the first record of the items that its rule names; 0 when the image has none of them
(DEDUCED, notes/assumptions/18.md). -/
def ruleFail (rs : List ItemRec) (ks : List (Nat × Nat)) : Option BattFail :=
  match ks.findSome? (fun k => rs.find? (fun r => r.code = k.1 && r.idx = k.2)) with
  | some r => some ⟨8, r.typ % 256, r.at_⟩
  | none => some ⟨8, 0, 0⟩

/-- The region rules of R37 and R40 for entry n of an image. -/
def regionFail (rs : List ItemRec) (im : Image) (own n : Nat) : Option BattFail :=
  let sp := im.item itRgnSpan n
  let at_ := im.item itRgnAttr n
  let b := sp % 2 ^ 13
  let l := sp / 2 ^ 16 % 2 ^ 13
  let mir := at_ / 16 % 4096
  if sp < 2 ^ 31 then none
  else if l < b ∨ 8192 - 64 * im.item itShadowGib 0 ≤ l ∨ (List.range n).any (fun j =>
      let q := im.item itRgnSpan j
      2 ^ 31 ≤ q && b ≤ q / 2 ^ 16 % 2 ^ 13 && q % 2 ^ 13 ≤ l) then ruleFail rs [(itRgnSpan, n)]
  else if at_ % 4 = clsMirrored ∧ (mir = 0 ∨ mir = 0xFFF ∨ mir = own) then ruleFail rs [(itRgnAttr, n), (itRgnSpan, n)]
  else none

/-- Check 8 (R37, R40 and the other cross-item rules of R57). -/
def battCheck8 (rs : List ItemRec) (im : Image) (c : BattCtx) : Option BattFail :=
  let fixed := im.item itNodePolicy 0 = 0
  let own := if fixed then im.item itNodeId 0 else c.node
  firstFail
    [firstFail ((List.range 64).map (regionFail rs im own)),
     if im.item itHotC 0 < im.item itThrottleC 0 ∧ im.item itThrottleC 0 < im.item itThaltC 0 then none
     else ruleFail rs [(itHotC, 0), (itThrottleC, 0), (itThaltC, 0)],
     if fixed ∧ ¬ (rs.any (fun r => r.code = itNodeId)) then ruleFail rs [(itNodePolicy, 0)] else none,
     if 8 + 5 * im.item itDirtyBudget 0 ≤ 2 * im.item itHoldupJ 0 then none
     else ruleFail rs [(itHoldupJ, 0), (itDirtyBudget, 0)],
     if (List.range 6).all (fun p => im.item itPortRole p = 0) then ruleFail rs ((List.range 6).map (fun p => (itPortRole, p)))
     else none]

/-- All checks of R57 in order: the image, or the first failure. -/
def battCheck (bs : List Nat) (c : BattCtx) : Image ⊕ BattFail :=
  match battCheck12 bs with
  | some f => .inr f
  | none =>
    match battCheck345 bs c with
    | some f => .inr f
    | none =>
      match battCheck6 bs with
      | some f => .inr f
      | none =>
        let rs := battRecords bs
        match battCheck7 rs c with
        | some f => .inr f
        | none =>
          let im : Image := ⟨itemsOf rs, BitVec.ofNat 32 (fieldAt bs 0x10 4), toBytes bs⟩
          match battCheck8 rs im c with
          | some f => .inr f
          | none => .inl im

/-- The context of a check on this device. -/
def Dev.battCtx (s : Dev) : BattCtx :=
  ⟨s.battKeyHash, s.otp.lifecycle, s.uid, s.rd base.chipId CHIPID.REV.STEPPING, s.rd base.core CORE.FW_VERSION.VERSION,
   s.rd base.therm THERM.LIMITS.THERM_MAX_C, s.node⟩

/-! ### The staging buffer and the SPI NOR slots -/

/-- The staged image: TOTAL_LEN bytes of the buffer, at most 64 KiB. -/
def Dev.stagedBytes (s : Dev) : List Nat :=
  let w (i : Nat) : Nat := (s.batt.staging.get (fun _ => 0) i).toNat
  let len := min (w 2) 65536
  ((List.range ((len + 3) / 4)).flatMap (fun i => bytesOf (w i) 4)).take len

/-- A journal record as its 64 bytes (R448), COMMIT 0xFF in a torn one; the bytes the layout does not name are free values. -/
def recordBytes (r : JournalRec) : List Nat :=
  let pad := (Config.journalPad r.seq).toNat
  let bs := bytesOf 0x4A45 2 ++ [r.cls.toNat, pad % 256] ++ bytesOf r.seq.toNat 4 ++ bytesOf r.time 8 ++ bytesOf r.boot.toNat 4 ++
    bytesOf r.code.toNat 2 ++ bytesOf (pad / 256) 2 ++ bytesOf r.data.toNat 32
  bs ++ bytesOf (crc32c bs) 4 ++ [0xFF, 0xFF, 0xFF, if r.torn then 0xFF else 0x00]

/-- The newest record that a reader takes: torn ones are skipped (R448). -/
def Dev.newestRecord (s : Dev) : Option JournalRec := s.mgmt.journal.find? (fun r => !r.torn)

/-- Records in the NOR, newest first, the one being programmed among them. -/
def Dev.ringRecords (s : Dev) : List JournalRec :=
  (s.mgmt.jrnlOpen.map (fun r => { r with torn := true })).toList ++ s.mgmt.journal

/-- Byte i of the event journal's area (R441, R449). -/
def Dev.journalByte (s : Dev) (i : Nat) : Nat :=
  let back := (s.mgmt.jrnlPos + Machine.ringRecords - 1 - i / 64) % Machine.ringRecords
  match s.ringRecords[back]? with
  | some r => (recordBytes r).getD (i % 64) 0xFF
  | none => 0xFF

/-- First address of the event journal (R441). -/
def journalBase : Nat := 0x240000

/-- A byte of the SPI NOR; an erased byte reads 0xFF (R441). -/
def Dev.norByte (s : Dev) (a : Nat) : Nat :=
  if a < journalBase then (s.mgmt.nor.get (fun _ => 0xFF) a).toNat else s.journalByte (a - journalBase)

/-- Bytes of the NOR. -/
def Dev.norBytes (s : Dev) (a n : Nat) : List Nat := (List.range n).map (fun i => s.norByte (a + i))

/-- The device with bytes stored in the NOR. -/
def Dev.norWrite (s : Dev) (a : Nat) (bs : List Nat) : Dev :=
  let nor := (bs.zipIdx).foldl
    (fun (t : Tab (BitVec 8)) b => t.set (fun _ => 0xFF) (a + b.2) (BitVec.ofNat 8 b.1)) s.mgmt.nor
  { s with mgmt := { s.mgmt with nor := nor } }

/-- The device with an area of the NOR erased. -/
def Dev.norErase (s : Dev) (a n : Nat) : Dev :=
  { s with mgmt := { s.mgmt with nor := s.mgmt.nor.filter (fun e => e.1 < a || a + n ≤ e.1) } }

/-- Start of Batt slot 0 or 1 (R441). -/
def battSlotBase (slot : Nat) : Nat := 0x10000 * slot

/-- The image bytes in a Batt slot: TOTAL_LEN of its header, at most the slot. -/
def Dev.slotBytes (s : Dev) (slot : Nat) : List Nat :=
  let len := ofBytes (s.norBytes (battSlotBase slot + 8) 4)
  s.norBytes (battSlotBase slot) (if len ≤ 65536 then len else 64)

/-- The order in which Dawn tries the slots (R59): those passing checks 1 and 2 first, then the higher SERIAL, then
BATT0. -/
def Dev.slotOrder (s : Dev) : List Nat :=
  let ok (k : Nat) : Bool := (battCheck12 (s.slotBytes k)).isNone
  let ser (k : Nat) : Nat := ofBytes (s.norBytes (battSlotBase k + 0x10) 4)
  if ok 0 = ok 1 then (if ser 0 < ser 1 then [1, 0] else [0, 1])
  else if ok 0 then [0, 1] else [1, 0]

/-- The image that Dawn would load from the slots as they stand, with its slot (R59). -/
def Dev.dawnImage (s : Dev) : Option (Image × Nat) :=
  s.slotOrder.findSome? (fun k =>
    match battCheck (s.slotBytes k) s.battCtx with
    | .inl im => some (im, k)
    | .inr _ => none)

/-! ### Comparison and values in force (R42, R64, R68) -/

/-- The value in effect of an item: SEAL_ON_PF counts only in EPOCH, MIRROR_NODE only in MIRRORED (R42). -/
def effective (code v : Nat) : Nat :=
  if code = itRgnAttr then
    let cls := v % 4
    cls + (if cls = clsEpoch then v / 4 % 2 * 4 else 0) + (if cls = clsMirrored then v / 16 % 4096 * 16 else 0)
  else v

/-- Scopes that differ between the items in force and an image (R64): device, quadrants, ports, Hatbox, regions. -/
structure Scopes where
  device : Bool
  quads : List Nat
  ports : List Nat
  hatbox : Bool
  regions : List Nat
deriving DecidableEq, Repr

/-- An item of one index differs. -/
def Dev.itemDiffers (s : Dev) (im : Image) (code idx : Nat) : Bool :=
  effective code (s.item code idx) != effective code (im.item code idx)

def Dev.scopesOf (s : Dev) (im : Image) : Scopes :=
  let d := s.itemDiffers im
  ⟨[itInterleave, itBankHash, itShadowGib, itNodePolicy, itNodeId, itBattPush, itMgtPorts, itDebugRead].any (fun c => d c 0),
   (List.range 4).filter (fun q => [itTsvRate, itScramble, itSpareCal].any (fun c => d c q)),
   (List.range 6).filter (fun p => [itPortRole, itLaneRate].any (fun c => d c p)),
   d itHbMode 0,
   (List.range 64).filter (fun n => [itRgnSpan, itRgnAttr].any (fun c => d c n))⟩

/-- The address map changes, and with it every line's place (R43). -/
def Dev.mapDiffers (s : Dev) (im : Image) : Bool :=
  [itInterleave, itBankHash, itShadowGib].any (fun c => s.itemDiffers im c 0)

/-- IDENTITY changes: forwarding stops while the device is quiesced (R67). -/
def Dev.identityDiffers (s : Dev) (im : Image) : Bool := [itNodePolicy, itNodeId].any (fun c => s.itemDiffers im c 0)

/-- Any structural scope differs. -/
def Scopes.any (x : Scopes) : Bool :=
  x.device || !x.quads.isEmpty || !x.ports.isEmpty || x.hatbox || !x.regions.isEmpty

/-- SCOPES (R64). -/
def Dev.showScopes (s : Dev) (x : Scopes) : Dev :=
  let mask (xs : List Nat) : Nat := xs.foldl (fun a i => a + 2 ^ i) 0
  ((((s.putFlag base.batt BATT.SCOPES.DEVICE x.device).put base.batt BATT.SCOPES.QUAD (mask x.quads)).put base.batt
    BATT.SCOPES.PORT (mask x.ports)).putFlag base.batt BATT.SCOPES.HATBOX x.hatbox).putFlag base.batt BATT.SCOPES.REGION
    (!x.regions.isEmpty)

/-- The tunable items take effect in their registers in one step (R68). -/
def Dev.loadTunable (s : Dev) : Dev :=
  let i := s.item
  let s1 := (((s.put base.fcore FULLER.CFG.DIRTY_BUDGET (i itDirtyBudget 0)).put base.fcore FULLER.CFG.DESTAGE_CAP
    (i itDestageCap 0)).put base.fcore FULLER.CFG.HOLDUP_J (i itHoldupJ 0)).put base.fcore FULLER.CFG.HOLDUP_EFF (i itHoldupEff 0)
  let s2 := (s1.put base.gov GOV.CFG.BUDGET (i itPowerBudget 0)).put base.rung RUNG.CFG.DUSK_IDLE (i itDuskIdle 0)
  let s3 := ((s2.put base.therm THERM.CFG.HOT_C (i itHotC 0)).put base.therm THERM.CFG.THROTTLE_C (i itThrottleC 0)).put
    base.therm THERM.CFG.THALT_C (i itThaltC 0)
  let s4 := s3.each (List.range 128) (fun s p =>
    ((s.put (base.pc p) PC.ARB.L0_SHARE (i itL0Share 0)).put (base.pc p) PC.ARB.L1_WEIGHT (i itL1Weight 0)).put (base.pc p)
      PC.ARB.L2_WEIGHT (i itL2Weight 0))
  s4.each (List.range 4) (fun s q => s.put (base.qme q) QME.CAL_CFG.DRIFT_STEPS (i itDriftSteps 0))

/-- The region table and address map registers (R48): each region's SPAN and ATTR together. -/
def Dev.loadMap (s : Dev) : Dev :=
  let i := s.item
  let valid := (List.range 64).filter (fun n => 2 ^ 31 ≤ i itRgnSpan n)
  let s1 := ((s.put base.amap AMAP.CFG.MODE (i itInterleave 0)).put base.amap AMAP.CFG.BANK_HASH (i itBankHash 0)).put base.amap
    AMAP.CFG.SHADOW_GIB (i itShadowGib 0)
  (s1.put base.amap AMAP.CFG.REGIONS valid.length).each (List.range 64) (fun s n =>
    (s.setReg (base.rgn + 8 * n) (BitVec.ofNat 32 (i itRgnSpan n))).setReg (base.rgn + 8 * n + 4)
      (BitVec.ofNat 32 (effective itRgnAttr (i itRgnAttr n))))

/-- The structural items of ports, quadrants and Hatboxes. -/
def Dev.loadUnits (s : Dev) : Dev :=
  let i := s.item
  let s1 := s.each (List.range 6) (fun s n =>
    (s.put (base.fp n) FP.CFG.ROLE (i itPortRole n)).put (base.fp n) FP.CFG.RATE_CAP (i itLaneRate n))
  let s2 := s1.each (List.range 4) (fun s q =>
    (s.put (base.qme q) QME.CAL_CFG.SCRAMBLE (i itScramble q)).put (base.qme q) QME.CAL_CFG.SPARE_CAL (i itSpareCal q))
  (s2.put base.hctl HCTL.CFG.MODE (i itHbMode 0)).put base.rnode NODE.ID.POLICY (i itNodePolicy 0)

/-- The image's identity in MGMT.BATT: ACTIVE, ACTIVE_SERIAL and ACTIVE_DIGEST (SHA-384 of the signed range). -/
def Dev.showActive (s : Dev) : Dev :=
  match s.batt.active with
  | none => ((s.put base.batt BATT.STATUS.ACTIVE 0).put base.batt BATT.ACTIVE_SERIAL.SERIAL 0).setWide base.batt 1 0
  | some im =>
    ((s.put base.batt BATT.STATUS.ACTIVE 1).put base.batt BATT.ACTIVE_SERIAL.SERIAL im.serial.toNat).setWide base.batt 1
      (Config.sha384 (im.bytes.take (im.bytes.length - 96))).toNat

/-- NEXT_DAWN_DIFFERS (R66). -/
def Dev.showNextDawn (s : Dev) : Dev :=
  let bytes (x : Option Image) : List (BitVec 8) := match x with | some im => im.bytes | none => []
  s.putFlag base.batt BATT.STATUS.NEXT_DAWN_DIFFERS (bytes (s.dawnImage.map Prod.fst) != bytes s.batt.active)

/-- NODE_ID after a load (R155): FIXED takes the image's, ASSIGNED keeps the ID in force. -/
def Dev.loadNode (s : Dev) : Dev :=
  if s.item itNodePolicy 0 = 0 ∧ s.batt.active.isSome then
    let old := s.node
    let s1 := s.put base.rnode NODE.ID.NODE (s.item itNodeId 0)
    if old = s.item itNodeId 0 then s1
    else
      -- R158: a change of node ID: HELLOs, and routability against the new ID
      ((s1.each (List.range 6) (fun s n => s.evalPort n)).helloAll)
  else s

end Sys2Proof.Machine
end

