-- ==== Sys2Proof/Machine/Record.lean ====
section
/-! DEFINITION. The outcome table (R147-R154): entries of sources, the records of their tags, and what becomes of a record
when its request is accepted and answered. -/
namespace Sys2Proof.Machine

/-- A modifying request (R117). -/
def modifying (opc : BitVec 5) (sub : BitVec 6) : Bool :=
  opc = opcWr || opc = opcWrm || opc = opcAtom || (opc = opcTag && sub != 0) || ((opc = opcEpoch || opc = opcRegion) && sub = 1)

/-- Entry of a source in the outcome table. -/
def Dev.outEntry (s : Dev) (src : BitVec 12) : Option Nat :=
  (List.range 64).find? (fun e => s.flag base.txn (TXN.OUTCOME_SRC.VALID.at 4 e) &&
    s.rd base.txn (TXN.OUTCOME_SRC.NODE.at 4 e) = src.toNat)

/-- An event in FAB.TXN.STATUS with its source node. -/
def Dev.txnEvent (s : Dev) (code : Nat) (src : BitVec 12) : Dev :=
  (s.put base.txn TXN.STATUS.NODE src.toNat).post base.txn TXN.STATUS.SEQ TXN.STATUS.EVENT code

/-- A source claims a free entry with its first modifying request; a source beyond 64 stays untracked (R147).
(DEDUCED, notes/assumptions/65.md) -/
def Dev.claimOutcome (s : Dev) (src : BitVec 12) : Dev :=
  if !s.flag base.txn TXN.CFG.OUTCOME_EN || (s.outEntry src).isSome then s
  else
    match (List.range 64).find? (fun e => !s.flag base.txn (TXN.OUTCOME_SRC.VALID.at 4 e)) with
    | some e => (s.put base.txn (TXN.OUTCOME_SRC.NODE.at 4 e) src.toNat).put base.txn (TXN.OUTCOME_SRC.VALID.at 4 e) 1
    | none => (s.txnEvent 1 src).raise srcOutcomeFull

/-- A record of a tracked source. -/
def Dev.recordOf (s : Dev) (src tag : BitVec 12) : OutRec :=
  match s.outEntry src with
  | some e => s.outRec e tag.toNat
  | none => .none

def Dev.setRecord (s : Dev) (src tag : BitVec 12) (v : OutRec) : Dev :=
  match s.outEntry src with
  | some e => s.setOutRec e tag.toNat v
  | none => s

/-- A modifying request is accepted or begins execution: PENDING (R148). `id`: its arrival order. -/
def Dev.recordPending (s : Dev) (opc : BitVec 5) (r : Req) (line id : Nat) : Dev :=
  if modifying opc r.sub then s.setRecord r.src r.tag (.pending opc (BitVec.ofNat 31 line) id) else s

/-- The response of a modifying request is sent: DONE. A request that was accepted before, with its number, changes the
record only while that is its own PENDING record: not after a RELEASE, nor once a later request has replaced it (R148,
R154). -/
def Dev.recordDone (s : Dev) (opc : BitVec 5) (r : Req) (line : Nat) (accepted : Option Nat) (status : Nat) : Dev :=
  let done (s : Dev) : Dev := s.setRecord r.src r.tag (.done opc (BitVec.ofNat 4 status) (BitVec.ofNat 31 line))
  if !modifying opc r.sub then s
  else
    match accepted, s.recordOf r.src r.tag with
    | some k, .pending _ _ id => if id = k then done s else s
    | some _, _ => s
    | none, _ => done s

/-- RELEASE frees an entry and sets its 4,096 records to NONE (R154); NODE of a free entry reads 0 (DESIGN CHOICE,
notes/assumptions/186.md). -/
def Dev.outcomeRelease (s : Dev) (e : Nat) : Dev :=
  let s1 := (s.put base.txn (TXN.OUTCOME_SRC.NODE.at 4 e) 0).put base.txn (TXN.OUTCOME_SRC.VALID.at 4 e) 0
  { s1 with outcomes := s1.outcomes.filter (fun x => x.1 / 4096 != e) }

def execOutcomeSrcRelease (e : Fin 64) (s : State) : Host.Outcome State Fault Refusal := s.act (fun s => s.outcomeRelease e)

/-- Every record and entry lost (R334). -/
def Dev.outcomeReset (s : Dev) : Dev := s.each (List.range 64) (fun s e => s.outcomeRelease e)

end Sys2Proof.Machine
end

