-- ==== Sys2Proof/Machine/Chan.lean ====
section
/-! DEFINITION. The channel controller of a pseudo-channel: bank states and core-die timing (R182-R188), the queues
(R189, R190), admission (R192), the row-match rule (R200), the order of operations on one line (R142, R201), slot
tallies (R532). Times are in sixths of a nanosecond of the controller's own clock; a command tick is three. -/
namespace Sys2Proof.Machine

/-! ### Registers and times of a controller -/

def Dev.pcr (s : Dev) (p : Nat) (f : Fld) : Nat := s.rd (base.pc p) f

/-- A timing parameter in force, in sixths of a nanosecond (R184, R212). -/
def Dev.tim (s : Dev) (p : Nat) (f : Fld) : Nat := 3 * s.pcr p f

/-- Length of a line slot at the TSV point in force: 2.5, 3.33 or 5.0 ns (R187). -/
def Dev.slotLen (s : Dev) (p : Nat) : Nat :=
  match s.pcr p PC.ARB.RATE with
  | 0 => 15
  | 1 => 20
  | _ => 30

/-- L0 queue depth in force at a point (R187). -/
def l0DepthAt (rate : Nat) : Nat := match rate with | 0 => 13 | 1 => 10 | _ => 7

/-- States of a pseudo-channel (PC.STATUS.STATE, R210). -/
def pcInit : Nat := 0
def pcServing : Nat := 1
def pcDraining : Nat := 2
def pcOut : Nat := 3
def pcRejoining : Nat := 4

def Dev.pcState (s : Dev) (p : Nat) : Nat := s.pcr p PC.STATUS.STATE

def Dev.pcEvent (s : Dev) (p code : Nat) : Dev := s.post (base.pc p) PC.STATUS.SEQ PC.STATUS.EVENT code

/-- A pseudo-channel changes state (event 1). -/
def Dev.setPcState (s : Dev) (p st : Nat) : Dev := (s.put (base.pc p) PC.STATUS.STATE st).pcEvent p 1

/-- Requests to the pseudo-channel are served. -/
def Dev.pcServes (s : Dev) (p : Nat) : Bool := s.pcState p = pcServing || s.pcState p = pcRejoining

/-- Perf events of the quadrant, by local pseudo-channel index (R521). -/
def Dev.qperf (s : Dev) (p ev : Nat) : Dev := s.perf (p / 32) (p % 32) ev 1

/-! ### Operations -/

/-- The operation writes the line when it completes. -/
def Op.writes : Op → Bool
  | .fullWrite | .merge | .tagOp | .restoreWrite | .healWrite | .poisonWrite | .cowCopy | .mirrorWrite | .clearD
  | .seedWrite | .writeBack => true
  | .read | .debugRead | .cowRead | .destageRead | .resyncRead | .carderRead | .revisitRead => false

/-- The operation may change its line; a TREAD reads only (R126). -/
def Entry.changes (e : Entry) : Bool := e.op.writes && !(e.op = .tagOp && e.req.sub = 0)

/-- An entry of the L1 or L2 queue that takes an RD; the others take a WR. -/
def Op.takesRead : Op → Bool
  | .read | .merge | .tagOp | .debugRead | .cowRead | .destageRead | .seedWrite | .resyncRead | .carderRead
  | .revisitRead => true
  | .fullWrite | .restoreWrite | .healWrite | .poisonWrite | .cowCopy | .mirrorWrite | .clearD | .writeBack => false

/-- Order of a source within L2 (R197). -/
def Op.l2Order : Op → Nat
  | .restoreWrite | .healWrite | .poisonWrite => 1
  | .cowRead | .cowCopy => 2
  | .mirrorWrite => 3
  | .destageRead | .clearD | .seedWrite | .resyncRead => 4
  | .carderRead | .revisitRead | .writeBack => 5
  | .read | .fullWrite | .merge | .tagOp | .debugRead => 6

/-- An operation of the device's own that a held host write does not hold up (R307, R311). -/
def Op.passesHeld : Op → Bool
  | .cowRead | .cowCopy | .destageRead => true
  | _ => false

/-- A request with no field set: that of the device's own operations. -/
def Req.none : Req := ⟨0, 0, false, 0, 0, 0, false, 0, 0, 0⟩

/-- An operation of the device's own on a line. -/
def ownEntry (op : Op) (line order : Nat) (data : Content) : Entry :=
  ⟨op, line, order, none, 0, Req.none, data, 0, 0, false, none, .none, true, 0⟩

/-- The device gives the next arrival order (R133, R142). -/
def Dev.nextOrder (s : Dev) : Nat × Dev := (s.order, { s with order := s.order + 1 })

/-! ### Banks -/

def Pc.bank (c : Pc) (b : Nat) : Bank := c.banks.get (fun _ => Bank.reset) b
def Pc.setBank (c : Pc) (b : Nat) (k : Bank) : Pc := { c with banks := c.banks.set (fun _ => Bank.reset) b k }
def Pc.upBank (c : Pc) (b : Nat) (f : Bank → Bank) : Pc := c.setBank b (f (c.bank b))

/-- When the last PRE, REFpb or REFmu of a bank lets it take the next command, by the times in force (R184, R213). -/
def Dev.freeFrom (s : Dev) (p : Nat) (k : Bank) : Nat :=
  if k.closedAt = 0 then 0
  else k.closedAt + s.tim p (match k.closedBy with
    | .pre => PC.TIMING0.TRP
    | .refpb => PC.REF_CFG.TRFCPB
    | .refmu => PC.REF_CFG.TRFCMU)

/-- A bank whose tRP or tRFC has passed is IDLE (R185). -/
def Dev.settleBank (s : Dev) (p t : Nat) (k : Bank) : Bank :=
  match k.st with
  | .precharging | .refreshing => if s.freeFrom p k ≤ t then { k with st := .idle } else k
  | _ => k

/-- The row that a bank holds open. -/
def Bank.openRow (k : Bank) : Option Nat :=
  match k.st with
  | .active r => some r
  | _ => none

/-- Every bank of a pseudo-channel settled at a moment. -/
def Dev.settle (s : Dev) (p t : Nat) : Dev :=
  s.upPc p (fun c => (List.range 32).foldl (fun c b => c.upBank b (s.settleBank p t)) c)

/-- R185: PRE no earlier than tRAS after the ACT, tRTP after the last RD, tWR after the last write data beat. -/
def Dev.preOk (s : Dev) (p : Nat) (k : Bank) (t : Nat) : Bool :=
  k.openRow.isSome && k.actAt + s.tim p PC.TIMING0.TRAS ≤ t &&
  (k.lastRead = 0 || k.lastRead + s.tim p PC.TIMING2.TRTP ≤ t) &&
  (k.lastWriteEnd = 0 || k.lastWriteEnd + s.tim p PC.TIMING2.TWR ≤ t)

/-- First moment at which R185 permits a PRE of an open bank. -/
def Dev.preFrom (s : Dev) (p : Nat) (k : Bank) : Nat :=
  max (k.actAt + s.tim p PC.TIMING0.TRAS)
    (max (if k.lastRead = 0 then 0 else k.lastRead + s.tim p PC.TIMING2.TRTP)
      (if k.lastWriteEnd = 0 then 0 else k.lastWriteEnd + s.tim p PC.TIMING2.TWR))

/-- A PRE to a bank at a moment: PRECHARGING until tRP has passed. -/
def Dev.precharge (s : Dev) (p b t : Nat) : Dev :=
  (s.upPc p (fun c => c.upBank b (fun k =>
    { k with st := .precharging, closedBy := .pre, closedAt := t, lastRead := 0, lastWriteEnd := 0, l0Row := false }))).qperf p 0x0C

/-- A row command outside the ticks of a line slot: it takes the first command tick after the controller's clock at which
the row bus is free, no earlier than a moment, and the clock moves there (R182). -/
def Dev.rowFrom (s : Dev) (p t : Nat) : Nat := max ((s.pc p).clock + 3) t
def Dev.precharge1 (s : Dev) (p b t : Nat) : Dev :=
  let t1 := s.rowFrom p (max t (s.preFrom p ((s.pc p).bank b)))
  (s.precharge p b t1).upPc p (fun c => { c with clock := t1 })

/-- R184, R185: an ACT may be issued to the bank at the moment (IDLE, tRP, tRFC, tRC, tRRD_S, tRRD_L, tFAW). -/
def Dev.actOk (s : Dev) (p b t : Nat) : Bool :=
  let c := s.pc p
  let k := c.bank b
  k.st = .idle && s.freeFrom p k ≤ t && (k.actAt = 0 || k.actAt + s.tim p PC.TIMING1.TRC ≤ t) &&
  c.acts.all (fun a => a.1 + s.tim p PC.TIMING1.TRRD_S ≤ t &&
    (a.2 != b / 8 || a.1 + s.tim p PC.TIMING1.TRRD_L ≤ t)) &&
  (match c.acts[3]? with
   | some a => decide (a.1 + s.tim p PC.TIMING1.TFAW ≤ t)
   | none => true)

/-- An ACT opens a row. -/
def Dev.activate (s : Dev) (p b row t : Nat) : Dev :=
  (s.upPc p (fun c => { c.upBank b (fun k => { k with st := .active row, actAt := t, touched := false, actNext := false }) with
    acts := ((t, b / 8) :: c.acts).take 8 })).qperf p 0x0B

/-! ### What is queued -/

/-- The queues of a controller. -/
def Pc.queued (c : Pc) : List Entry := c.retryQ ++ c.l0 ++ c.l1 ++ c.l2 ++ c.wq

/-- Open merge entries as operations, at the order of their oldest member. -/
def Pc.merges (c : Pc) : List Entry := c.mergeBuf.filterMap (fun m => m.members.head?.map (fun e => { e with op := .merge }))

/-- The read of an open merge entry: its place in the write queue, while it is held there, is the entry's own. -/
def Pc.retires (c : Pc) (e : Entry) : Bool :=
  e.op = .merge && c.mergeBuf.any (fun m => m.readIssued && m.line = e.line && m.members.head?.map Entry.order = some e.order)

/-- Entries of the write queue in use: one is reserved for each open merge entry (R202). -/
def Pc.wqUsed (c : Pc) : Nat := (c.wq.filter (fun e => !c.retires e)).length + c.mergeBuf.length

/-- Operations that wait for a heal (R245). -/
def Dev.healWaiters (s : Dev) : List Entry := ((s.ecc.heals ++ s.ecc.healWait).map Heal.waiters).flatten

/-- Everything accepted that will still touch a line: queued, gathered, waiting before the queues, reads that await their
decode, and changes that wait for a heal. -/
def Dev.doings (s : Dev) (p : Nat) : List Entry :=
  let c := s.pc p
  c.queued ++ c.merges ++ c.xbarQ ++ c.feed ++ c.inFlight.map InFlight.entry ++ s.healWaiters.filter Entry.changes

/-- Bank and row of an entry. -/
def Dev.bankOf (s : Dev) (e : Entry) : Nat := (s.place e.line).bank
def Dev.rowOf (s : Dev) (e : Entry) : Nat := (s.place e.line).row

/-- An admitted L0 read waits to open a bank. -/
def Dev.l0Waits (s : Dev) (p b : Nat) : Bool :=
  (s.pc p).l0.any (fun e => s.bankOf e = b && ((s.pc p).bank b).openRow != some (s.rowOf e))

/-- The banks in in-order mode (PC.INORDER.BANKS). -/
def Pc.inOrderBanks (c : Pc) : Nat :=
  (List.range 32).foldl (fun a b => if (c.bank b).waitsFor.isEmpty then a else a + 2 ^ b) 0

/-! ### Slot tallies (R532-R534) -/

/-- Wide selector of SLOTS. -/
def selSlots : Nat := 0x10
def selSlotsSnap : Nat := 0x11

/-- One of the four counts of SLOTS advances; a wrap sets its OVF bit. Class: 0 Retired, 1 Wasted, 2 Front, 3 Back. -/
def Dev.tally (s : Dev) (p cls : Nat) : Dev :=
  if s.flag base.pglobal PGLOBAL.CTL.FREEZE_ALL then s
  else
    let w := s.wideOf (base.pc p) selSlots
    let n := bitsOf w (48 * cls) 48
    if n + 1 < 2 ^ 48 then s.setWide (base.pc p) selSlots (w + 2 ^ (48 * cls))
    else s.setWide (base.pc p) selSlots (w - n * 2 ^ (48 * cls) ||| 2 ^ (192 + cls))

/-- A slot of a class passes: the tally and the event of the quadrant (R523).
(DESIGN CHOICE, notes/assumptions/23.md) -/
def Dev.slotClass (s : Dev) (p cls : Nat) : Dev := (s.tally p cls).qperf p (cls + 1)

/-! ### Admission and the row-match rule -/

/-- Effective level of a quadrant (R407). -/
def Dev.effLevel (s : Dev) (q : Nat) : Nat := s.rd base.gov ⟨0xc, 16 + 4 * q, 4⟩

/-- Effective L0_SHARE: the one taken at the last slot boundary, under the governor's cut (R194, R408). -/
def Dev.l0Share (s : Dev) (p : Nat) : Nat :=
  let l := (s.pc p).share
  match s.effLevel (p / 32) with
  | 13 => min l 40
  | 14 => min l 25
  | 15 => min l 10
  | _ => l

/-- First condition of R192 that an arriving L0 read fails. -/
def Dev.demotion (s : Dev) (p : Nat) (e : Entry) : Option Nat :=
  let c := s.pc p
  let recent := (c.admits.filter (fun n => c.slotNo < n + 100)).length
  if s.l0Share p < recent + 1 then some 1
  else if s.pcr p PC.ARB.L0_DEPTH ≤ (c.l0 ++ c.retryQ.filter Entry.l0).length then some 2
  else if c.l0.any (fun o => s.bankOf o = s.bankOf e && s.rowOf o != s.rowOf e &&
      (c.bank (s.bankOf o)).openRow != some (s.rowOf o)) then some 3
  else if (c.wq ++ c.merges).any (fun o => s.bankOf o = s.bankOf e && s.rowOf o = s.rowOf e) then some 4
  else none

/-- The read of an open merge entry's line is due; it enters the L1 read queue, at the class of the oldest member, as soon
as that has room (R190, R203). -/
def Pc.issueMerge (c : Pc) (m : MergeEntry) : Pc :=
  match m.members.head? with
  | some e =>
    if c.l1.length < 32 then
      { c with
        l1 := c.l1 ++ [{ e with op := .merge, hold := .none, waited := 0 }]
        mergeBuf := c.mergeBuf.map (fun x => if x = m then { x with due := true, readIssued := true } else x) }
    else { c with mergeBuf := c.mergeBuf.map (fun x => if x = m then { x with due := true } else x) }
  | none => c

def Dev.issueMergeRead (s : Dev) (p line : Nat) : Dev :=
  match (s.pc p).mergeBuf.find? (fun m => m.line = line && !m.readIssued) with
  | some m => s.upPc p (fun c => c.issueMerge m)
  | none => s

/-- A read reaches a bank: open merge entries of its row are read (R203), and the bank enters in-order mode when its
row matches a queued write or merge entry (R200). -/
def Dev.readReaches (s : Dev) (p : Nat) (e : Entry) : Dev :=
  let b := s.bankOf e
  let row := s.rowOf e
  let same (o : Entry) : Bool := s.bankOf o = b && s.rowOf o = row
  let ws := ((s.pc p).wq ++ (s.pc p).merges).filter same
  let s1 := s.each ((s.pc p).mergeBuf.filter (fun m => m.members.any same)) (fun s m => s.issueMergeRead p m.line)
  if ws.isEmpty then s1
  else
    let s2 := if ((s.pc p).bank b).waitsFor.isEmpty then s1.count (base.pc p) PC.INORDER_ENTER.COUNT else s1
    s2.upPc p (fun c => c.upBank b (fun k => { k with waitsFor := k.waitsFor ++
      ((ws.map Entry.order).filter (fun n => !k.waitsFor.contains n)) }))

/-- A request enters the L1 read queue: it is accepted (R148). -/
def Dev.enterL1 (s : Dev) (p : Nat) (e : Entry) : Dev :=
  ((s.upPc p (fun c => { c with l1 := c.l1 ++ [e] })).qperf p 0x07).recordPending e.opc e.req e.line e.order

/-- A request moves on from the crossbar's queue: its credits return (R190). -/
def Dev.movesOn (s : Dev) (port : Option Nat) (opc : BitVec 5) (r : Req) : Dev :=
  match port with
  | some n => s.takeIn n ⟨vcReq, [reqSlot opc r], none⟩
  | none => s

/-- A request for the L1 read queue enters it, or waits behind the others in the crossbar's queue (R190). -/
def Dev.toL1 (s : Dev) (p : Nat) (e : Entry) : Dev :=
  if (s.pc p).xbarQ.isEmpty && (s.pc p).l1.length < 32 then s.enterL1 p { e with l0 := false }
  else s.upPc p (fun c => { c with xbarQ := c.xbarQ ++ [{ e with l0 := false }] })

/-- A host read takes its place: L0 when admitted, else L1 (R190, R192). An L0 read that finds its bank being refreshed
waits for that refresh and for no other (R218). -/
def Dev.placeRead (s : Dev) (p : Nat) (e : Entry) : Dev :=
  let s0 := s.readReaches p e
  if !e.l0 then s0.toL1 p e
  else
    match s.demotion p e with
    | none =>
      let b := s0.bankOf e
      let waits := match ((s0.pc p).bank b).st with | .refreshing => true | _ => false
      let s1 := (s0.upPc p (fun c => { c with l0 := c.l0 ++ [e], admits := c.slotNo :: c.admits.take 99 })).qperf p 0x05
      s1.when waits (fun s => (s.upPc p (fun c => c.upBank b (fun k => { k with actNext := true }))).count (base.pc p) PC.REF_L0_WAIT.COUNT)
    | some n => ((s0.count (base.pc p) (PC.DEMOTE_SHARE.COUNT.at 4 (n - 1))).qperf p 0x06).toL1 p e

/-- Entries of the L2 queue in use: the read of a read-modify-write keeps its entry for the write (R576). -/
def Pc.l2Used (c : Pc) : Nat :=
  c.l2.length + ((c.retryQ ++ c.inFlight.map InFlight.entry).filter (fun e => e.op = .seedWrite)).length

/-- An L2 operation enters the L2 queue. -/
def Dev.enterL2 (s : Dev) (p : Nat) (e : Entry) : Dev :=
  (if e.op.takesRead then s.readReaches p e else s).upPc p (fun c => { c with l2 := c.l2 ++ [e] })

/-- The Carder issues operations: the pseudo-channel is SERVING or REJOINING and the device in Noon (R251). -/
def Dev.carderRuns (s : Dev) (p : Nat) : Bool :=
  s.pcServes p && s.rd base.rung RUNG.STATUS.RUNG = 0 && s.rd base.pf PF.STATUS.PHASE = 0

/-- A burst that was counted Retired is discarded: its slot counts as Wasted (R532). The four counts keep their sum
(R533). -/
def Dev.wasted (s : Dev) (p : Nat) : Dev :=
  if s.flag base.pglobal PGLOBAL.CTL.FREEZE_ALL then s
  else
    let w := s.wideOf (base.pc p) selSlots
    let s1 := if bitsOf w 0 48 = 0 then s else s.setWide (base.pc p) selSlots (w - 1)
    (s1.tally p 1).qperf p 2

/-- Lines of a pseudo-channel are written by something else: what the Carder has read of them is stale, and its write-backs
of them are dropped, the dropped read counting as Wasted (R201, R249). -/
def Dev.carderStale (s : Dev) (p : Nat) (hit : Nat → Bool) : Dev :=
  let c := s.pc p
  let gone (e : Entry) : Bool := e.op = .writeBack && hit e.line
  let mark (e : Entry) : Entry := if (e.op = .carderRead || e.op = .revisitRead) && hit e.line then { e with answered := false } else e
  let keep (es : List Entry) : List Entry := (es.filter (fun e => !gone e)).map mark
  let s1 := s.setPc p { c with
    l2 := keep c.l2, feed := keep c.feed, retryQ := keep c.retryQ
    inFlight := c.inFlight.map (fun f => { f with entry := mark f.entry })
    decodeQ := c.decodeQ.map (fun f => { f with entry := mark f.entry }) }
  s1.each ((c.l2 ++ c.feed).filter gone) (fun s _ => (s.count (base.pc p) PC.WB_DROP.COUNT).wasted p)

/-- An L2 operation joins the work of its source for the pseudo-channel (R576). -/
def Dev.feedL2 (s : Dev) (e : Entry) : Dev :=
  let p := (s.place e.line).pc
  let s1 := if e.op.writes && e.op != .writeBack then s.carderStale p (fun l => l = e.line) else s
  if (s1.pc p).feed.isEmpty && (s1.pc p).l2Used < 16 then s1.enterL2 p e
  else s1.upPc p (fun c => { c with feed := c.feed ++ [e] })

/-- A source of L2 whose oldest operation has waited 1,024 line slots (R197). -/
def Pc.lateSource (c : Pc) (k : Nat) : Bool := (c.feed ++ c.l2).any (fun e => e.op.l2Order = k && 1024 ≤ e.waited)

/-- The sources of L2 in the order in which they are served: those that have waited too long first (R197). -/
def Pc.sources (c : Pc) : List Nat :=
  (List.range 6).filter c.lateSource ++ (List.range 6).filter (fun k => !c.lateSource k)

/-- The operation that enters the L2 queue next: the oldest of the first source that has work waiting (R197, R576). The
Carder keeps its own while it issues nothing (R251). -/
def Dev.nextFeed (s : Dev) (p : Nat) : Option Entry :=
  let c := s.pc p
  c.sources.findSome? (fun k => if k = 5 && !s.carderRuns p then none else c.feed.find? (fun e => e.op.l2Order = k))

/-- One operation moves from its source into the L2 queue. A full queue lets it take the place of a younger operation on
its own line, which would wait for it (DESIGN CHOICE, notes/assumptions/187.md). -/
def Dev.feedOne (s : Dev) (p : Nat) : Dev :=
  let c := s.pc p
  match s.nextFeed p with
  | none => s
  | some e =>
    if c.l2Used < 16 then (s.setPc p { c with feed := c.feed.erase e }).enterL2 p e
    else
      match c.feed.findSome? (fun f => (c.l2.find? (fun x => x.line = f.line && f.order < x.order)).map (fun x => (f, x))) with
      | some (f, x) => (s.setPc p { c with feed := x :: c.feed.erase f, l2 := c.l2.erase x }).enterL2 p f
      | none => s

/-- A new operation of the device on a line, at the order of its arrival. -/
def Dev.ownOp (s : Dev) (op : Op) (line : Nat) (data : Content) : Dev :=
  let n := s.nextOrder
  n.2.feedL2 (ownEntry op line n.1 data)

/-- The L1 read queue takes what waits for it: reads whose hold has ended, reads of merge entries that are due, then the
crossbar's queue (R190, R203). -/
def Dev.fillL1 (s : Dev) (p : Nat) : Dev :=
  let back := s.each ((s.pc p).wq.filter (fun e => e.hold = .reread)) (fun s e =>
    if (s.pc p).l1.length < 32 then
      s.upPc p (fun c => { c with wq := c.wq.erase e, l1 := c.l1 ++ [{ e with hold := .none }] })
    else s)
  let due := back.upPc p (fun c => (c.mergeBuf.filter (fun m => m.due && !m.readIssued)).foldl Pc.issueMerge c)
  due.each (due.pc p).xbarQ (fun s e =>
    if (s.pc p).l1.length < 32 && (s.pc p).xbarQ.head? = some e then
      ((s.upPc p (fun c => { c with xbarQ := c.xbarQ.drop 1 })).enterL1 p e).movesOn e.port e.opc e.req
    else s)

/-- Queues fill from what waits before them. -/
def Dev.fillQueues (s : Dev) (p : Nat) : Dev := (s.fillL1 p).each (List.range 17) (fun s _ => s.feedOne p)

/-! ### Calibration windows -/

/-- Live calibration pauses: shadows are released and the window discarded; it resumes at the same round (R288). -/
def Dev.livePause (s : Dev) (p : Nat) : Dev :=
  let c := s.pc p
  (s.setPc p { c with phase := .paused, window := [], windowReady := false, winSlots := 0, skipPairs := 0, bursts := 0, burstLeft := 0 }).when
    (c.phase = .window || c.phase = .judged) (fun s => s.count (base.pc p) PC.CAL_DISCARD.COUNT)

/-- The window of pattern calibration is discarded (R288). -/
def Dev.patternPause (s : Dev) (p : Nat) : Dev :=
  let c := s.pc p
  (s.setPc p { c with patWindow := [], patReady := false, patSlots := 0 }).when (c.patReady || 0 < c.patSlots)
    (fun s => s.count (base.pc p) PC.CAL_DISCARD.COUNT)

/-- Both kinds of calibration pause. -/
def Dev.calPause (s : Dev) (p : Nat) : Dev := (s.livePause p).patternPause p

/-! ### Which request may go -/

/-- An older operation on the same line must go first (R142, R201): one of the two changes the line. A held write
stands in the way of everything on its line but the device's own reads that release it (R311). -/
def Dev.blocked (s : Dev) (p : Nat) (e : Entry) : Bool :=
  (s.doings p).any (fun o => o.line = e.line && o.order < e.order && (o.changes || e.changes) &&
    !(o.hold != .none && e.op.passesHeld))

/-- In in-order mode the bank executes its requests in arrival order (R200); the device's own reads that release a held
write pass it (R311). -/
def Dev.inTurn (s : Dev) (p : Nat) (e : Entry) : Bool :=
  let c := s.pc p
  let b := s.bankOf e
  (c.bank b).waitsFor.isEmpty || e.retryOf.isSome ||
  !(c.queued ++ c.merges).any (fun o => s.bankOf o = b && o.order < e.order && !(o.hold != .none && e.op.passesHeld))

/-- A line waits for or undergoes a heal (R245). -/
def Dev.healing (s : Dev) (l : Nat) : Bool := (s.ecc.heals ++ s.ecc.healWait).any (fun h => h.line = l)

/-- A retry is the next command to its bank (R242). -/
def Dev.retryDue (s : Dev) (p b : Nat) : Bool := (s.pc p).retryQ.any (fun o => s.bankOf o = b)

/-- The request is held up by no order, hold, heal or retry. -/
def Dev.mayGo (s : Dev) (p : Nat) (e : Entry) : Bool :=
  e.hold = .none && !s.blocked p e && s.inTurn p e && (e.retryOf.isSome || !s.retryDue p (s.bankOf e)) &&
  !(e.op.takesRead && e.op != .debugRead && s.healing e.line)

/-- DEBT of a bank (R216), and URGENT in force: 0 acts as 1, above 8 as 8. -/
def debtFld (b : Nat) : Fld := ⟨0x90 + 4 * (b / 4), 8 * (b % 4), 5⟩
def Dev.debt (s : Dev) (p b : Nat) : Nat := s.pcr p (debtFld b)
def Dev.urgentLevel (s : Dev) (p : Nat) : Nat := max 1 (min 8 (s.pcr p PC.REF_CFG.URGENT))

/-- Refresh goes ahead of the L1 and L2 work on a bank: at the Urgent level unless an admitted L0 read waits to open the
bank, at the cap, and while the bank owes a forced make-up, but for the row that an L0 read opened (R217, R225).
(DEDUCED, notes/assumptions/188.md) -/
def Dev.refreshFirst (s : Dev) (p b : Nat) : Bool :=
  if (s.pc p).forced.contains b then !((s.pc p).bank b).l0Row
  else s.urgentLevel p ≤ s.debt p b && (8 ≤ s.debt p b || !s.l0Waits p b)

/-- The request is held by nothing but bank state and timing. -/
def Dev.eligible (s : Dev) (p : Nat) (e : Entry) : Bool := s.mayGo p e && (e.l0 || !s.refreshFirst p (s.bankOf e))

/-- An admitted L0 read that may go waits for its bank to open (R198). -/
def Dev.l0Next (s : Dev) (p b : Nat) : Bool :=
  (s.pc p).l0.any (fun e => s.bankOf e = b && ((s.pc p).bank b).openRow != some (s.rowOf e) && s.mayGo p e)

/-- A queued request targets the row that a bank holds open, and no request to another row of the bank must go before it
(R186). (DEDUCED, notes/assumptions/189.md) -/
def Dev.rowWanted (s : Dev) (p b : Nat) : Bool :=
  match ((s.pc p).bank b).openRow with
  | none => false
  | some r => (s.pc p).queued.any (fun e => s.bankOf e = b && s.rowOf e = r && e.hold = .none && s.inTurn p e &&
      (e.retryOf.isSome || !s.retryDue p b) && (e.l0 || !s.refreshFirst p b))

/-- Data slot of a column command at a moment: its first beat. -/
def Dev.dataFrom (s : Dev) (p : Nat) (write : Bool) (t : Nat) : Nat :=
  t + s.tim p (if write then PC.TIMING2.TCWL else PC.TIMING0.TCL)

/-- R183, R184: the data bus takes the burst of a column command to a bank group at the moment. -/
def Dev.busOk (s : Dev) (p group : Nat) (write : Bool) (t : Nat) : Bool :=
  let c := s.pc p
  let from_ := s.dataFrom p write t
  c.lastCol.all (fun x => x.2 + s.tim p (if x.1 = group then PC.TIMING3.TCCD_L else PC.TIMING3.TCCD_S) ≤ t) &&
  c.busEnd ≤ from_ &&
  (if write then c.busWrite || c.busEnd = 0 || decide (c.busEnd + s.tim p PC.TIMING2.TRTW ≤ from_)
   else c.wrEnds.all (fun x => if x.1 = group then x.2 + s.tim p PC.TIMING3.TWTR_L ≤ t
     else x.2 + s.tim p PC.TIMING3.TWTR_S ≤ from_))

/-- A burst takes the data bus: direction, bank group, and the moment of its command. -/
def Dev.takeBus (s : Dev) (p group : Nat) (write : Bool) (t : Nat) : Dev :=
  let endAt := s.dataFrom p write t + s.slotLen p
  s.upPc p (fun c => { c with
    busEnd := endAt, busWrite := write, lastCol := c.lastCol.set (fun _ => 0) group t
    wrEnds := if write then c.wrEnds.set (fun _ => 0) group endAt else c.wrEnds
    groupUse := if group < 4 then c.groupUse.set (fun _ => 0) group (c.groupUse.get (fun _ => 0) group + 1) else c.groupUse })

/-- A column command for the entry may be issued at the moment. -/
def Dev.columnOk (s : Dev) (p : Nat) (e : Entry) (write : Bool) (t : Nat) : Bool :=
  let b := s.bankOf e
  let k := (s.pc p).bank b
  k.openRow = some (s.rowOf e) && k.actAt + s.tim p PC.TIMING0.TRCD ≤ t && s.busOk p (b / 8) write t

end Sys2Proof.Machine
end

