-- ==== Sys2Proof/Machine/Outcome.lean ====
section
/-! DEFINITION. Outcome queries (R151), the reasons of RETRY_LATER (R140), and the answer of a request that the
device executed or refused. -/
namespace Sys2Proof.Machine

/-! ### Outcome queries -/

/-- RVAL of an OUTCOME (R151); a FENCED record answers as the record it replaced (DEDUCED, notes/assumptions/19.md). -/
def Dev.outcomeVal (s : Dev) (r : Req) : Nat :=
  if (s.outEntry r.src).isNone || !s.flag base.txn TXN.CFG.OUTCOME_EN then 2 ^ 12
  else
    match s.recordOf r.src (r.arg.extractLsb' 0 12) with
    | .none => 2 ^ 11
    | .fenced none => 2 ^ 11
    | .fenced (some (opc, st, line)) =>
      st.toNat + opc.toNat * 16 + (if st = 0 then 2 ^ 9 else 0) + line.toNat * 2 ^ 32
    | .pending opc line _ => opc.toNat * 16 + 2 ^ 10 + line.toNat * 2 ^ 32
    | .done opc st line => st.toNat + opc.toNat * 16 + (if st = 0 then 2 ^ 9 else 0) + line.toNat * 2 ^ 32

/-! ### RETRY_LATER -/

/-- The no-image state (R60): step 6 has ended without an image in force. -/
def Dev.noImage (s : Dev) : Bool :=
  s.batt.active.isNone && (s.rd base.dawn DAWN.STATUS.DONE).testBit 5 && s.rd base.dawn DAWN.STATUS.PHASE != 6

/-- A scope of a Batt reload is quiesced: code 0 the device, 1 + q a quadrant, 5 + n a port, 11 the Hatboxes, 12 + r a
region (R67). -/
def Dev.quiescedScope (s : Dev) (c : Nat) : Bool := s.batt.quiesced.contains c || s.batt.rejoining.contains c

/-- The device has passed its power-fail, Thalt or Midnight point and has not come back: the reason it answers data
requests with (R333, R339, R341, R342). -/
def Dev.stopReason (s : Dev) : Option Nat :=
  if s.rd base.pf PF.STATUS.PHASE != 0 then
    some (if s.rd base.pf PF.STATUS.CAUSE = 2 then rsnThermal else rsnRung)
  else none

/-- The reasons that hold for a data request to a line, or to the device as a whole, apart from those its
pseudo-channel's queues and its mirror add (R140, R210, R516). -/
def Dev.reasons (s : Dev) (line : Option Nat) : List Nat :=
  let dev : List Nat :=
    (if s.noImage then [rsnNoImage] else []) ++ (if s.quiescedScope 0 then [rsnQuiesce] else []) ++
    (match s.stopReason with | some r => [r] | none => [])
  let dawn : List Nat :=
    if s.noImage || s.rd base.pf PF.STATUS.PHASE != 0 then []
    else if s.rd base.dawn DAWN.STATUS.PHASE = 4 then [rsnThermal]
    else if s.flag base.pf PF.RST_STATUS.MIDNIGHT then [rsnRung] else [rsnStarting]
  match line with
  | none => dev ++ (if (s.rd base.dawn DAWN.STATUS.PHASE != 5 || s.rd base.pf PF.RST_STATUS.PHASE = 1 || s.rd base.rung RUNG.STATUS.PHASE = 2) && !(List.range 128).any s.pcServes then dawn else [])
  | some l =>
    let p := (s.place l).pc
    let st := s.pcState p
    dev ++ (if s.quiescedScope (1 + p / 32) then [rsnQuiesce] else []) ++
    (match s.regionOf l with | some r => (if s.quiescedScope (12 + r) then [rsnQuiesce] else []) | none => []) ++
    (if st = pcInit then dawn else if st = pcDraining || st = pcOut then [rsnPcOut] else [])

/-- The lowest-numbered reason that applies (R140). -/
def lowest (rs : List Nat) : Option Nat := rs.foldl (fun a r => match a with | none => some r | some x => some (min x r)) none

/-- RETRY_LATER with its advisory wait: an estimate the spec does not state, at least 1 where it says so (R482, R517),
0 where no limit runs (R514, R515, R516): a free value, a fresh one for each response (notes/assumptions/46.md). -/
def Dev.retryRsp (s : Dev) (rsn : Nat) : Rsp :=
  let ph := s.rd base.dawn DAWN.STATUS.PHASE
  let e := Config.waitEstimate s.free rsn
  let e1 : BitVec 32 :=
    if rsn = rsnStarting ∧ (ph = 1 ∨ ph = 3 ∨ ph = 4) then 0
    else if (rsn = rsnStarting ∨ (rsn = rsnPcOut ∧ s.bist.isSome)) ∧ e = 0 then 1
    else e
  ⟨stRetry, 0, rsn, e1.zeroExtend 64, none⟩

/-! ### Answers -/

/-- The answer of a request addressed to the device: its record goes to DONE as the response is sent (R148). `accepted`: the
number of a request that was accepted before (R154). -/
def Dev.respond (s : Dev) (opc : BitVec 5) (r : Req) (line : Nat) (accepted : Option Nat) (a : Rsp) : Dev :=
  (s.recordDone opc r line accepted a.status).answer r a

/-- The answer of a queued request; the device's own operations have none. -/
def Dev.respondEntry (s : Dev) (e : Entry) (a : Rsp) : Dev :=
  if e.port.isNone || e.answered then s else s.respond e.opc e.req e.line (some e.order) a

end Sys2Proof.Machine
end

