-- ==== Sys2Proof/Machine/Mirror.lean ====
section
/-! DEFINITION. What an operation makes of its line (R121-R126, R27), and MIRRORED regions: MIR_WR, its answers, the
break and the resync (R134-R137, R318-R322). -/
namespace Sys2Proof.Machine

/-! ### What a request does to its line -/

/-- The content of a line as the inline decoder delivers the stored codeword, without faults on the way. -/
def Dev.stored (s : Dev) (l : Nat) : Content :=
  let w := s.lineAt (s.keyOf l)
  match decodeWith w [] with
  | some d => contentOf d.line
  | none => contentOf w

/-- New T3:T0 of a request that may carry a tag update (R112). -/
def newTags (r : Req) (old : BitVec 4) : BitVec 4 := if r.tu then r.tv else old

/-- OK with tag bits. -/
def Rsp.tags (t : BitVec 4) (rval : BitVec 64) : Rsp := ⟨stOk, t, 0, rval, none⟩

/-- A full-line write (R27, R121): new user bits, P cleared, T kept without a tag update. -/
def writeEffect (c : Content) (e : Entry) : Content × Rsp :=
  let t := newTags e.req (tagsOf c)
  (mkContent (userOf e.data) t false (epochBitsOf c) (pendingOf c), Rsp.tags t 0)

/-- A masked write (R27, R122, R123). -/
def wrmEffect (c : Content) (e : Entry) : Content × Rsp :=
  if poisonOf c then (c, Rsp.code stPoisoned)
  else
    let t := newTags e.req (tagsOf c)
    (mkContent (mergeBytes (userOf c) (userOf e.data) (wrmEnabled e.req e.aux)) t false (epochBitsOf c) (pendingOf c),
     Rsp.tags t 0)

/-- An atomic (R124, R125): for a CAS the tag update needs a successful compare. -/
def atomEffect (c : Content) (e : Entry) : Content × Rsp :=
  if poisonOf c then (c, Rsp.code stPoisoned)
  else
    let o := e.req.addr.toNat % 64
    let old := field8 (userOf c) o
    let operand : BitVec 64 := e.aux.extractLsb' 0 64
    let compare : BitVec 64 := e.aux.extractLsb' 64 64
    match atomOp e.req.sub old operand compare with
    | none => (c, Rsp.code stUnsupported)
    | some new =>
      let t := if e.req.sub = 2 ∧ old ≠ compare then tagsOf c else newTags e.req (tagsOf c)
      (mkContent (setField8 (userOf c) o new) t false (epochBitsOf c) (pendingOf c), Rsp.tags t old)

/-- A tag operation (R126): executes on a poisoned line as well (R27). -/
def tagEffect (c : Content) (e : Entry) : Content × Rsp :=
  match tagOp e.req.sub (tagsOf c) e.req.arg with
  | none => (c, Rsp.code stUnsupported)
  | some (t, swapped) =>
    (withTags c t, Rsp.tags (tagsOf c) (BitVec.ofNat 64 (swapped.toNat + 2 * (poisonOf c).toNat)))

/-- A member of a merge entry (R203). -/
def memberEffect (c : Content) (e : Entry) : Content × Rsp := if e.opc = opcAtom then atomEffect c e else wrmEffect c e

/-- The line after an operation that is queued, gathered or in flight. The new line of a retired merge entry carries no
opcode; a member does. -/
def Entry.effect (e : Entry) (c : Content) : Content :=
  match e.op with
  | .fullWrite => (writeEffect c e).1
  | .merge => if e.opc = 0 then e.data else (memberEffect c e).1
  | .tagOp => (tagEffect c e).1
  | .restoreWrite | .healWrite | .poisonWrite | .cowCopy | .mirrorWrite | .writeBack => e.data
  | .clearD | .seedWrite => withMark c (epochBitsOf e.data) (pendingOf e.data)
  | .read | .debugRead | .cowRead | .destageRead | .resyncRead | .carderRead | .revisitRead => c

/-- The operations on a line that have not reached the Crown, in arrival order. -/
def Dev.onLine (s : Dev) (l : Nat) : List Entry :=
  let c := s.pc (s.place l).pc
  let members := ((c.mergeBuf.filter (fun m => m.line = l)).map MergeEntry.members).flatten.map
    (fun e => { e with op := .merge })
  let tags := (c.retryQ ++ c.l1 ++ c.xbarQ ++ c.inFlight.map InFlight.entry ++ s.healWaiters).filter (fun e => e.op = .tagOp)
  let rest := (tags ++ c.l2 ++ c.feed ++ c.wq.filter (fun e => !c.retires e)).filter (fun e => e.line = l)
  sortBy (fun a b => a.order ≤ b.order) (members ++ rest)

/-- The line as the operations on it up to an order leave it (R121). (DEDUCED, notes/assumptions/26.md) -/
def Dev.projectedTo (s : Dev) (l n : Nat) : Content :=
  ((s.onLine l).filter (fun e => e.order ≤ n)).foldl (fun c e => e.effect c) (s.stored l)

/-- The new value of the line is not determined before the operation has executed: a member of a merge entry, or a tag
operation (R318). -/
def Entry.undetermined (e : Entry) : Bool := (e.op = .merge && e.opc != 0) || (e.op = .tagOp && e.changes)

/-- The value of a line as operations leave it, as far as it is determined (R318): the last determined value, and whether
that of the last operation is. A full-line write with a tag update needs nothing of what came before. -/
def knownFrom (c : Content) (es : List Entry) : Content × Bool :=
  es.foldl (fun (a : Content × Bool) e =>
    if e.undetermined then (a.1, false)
    else if a.2 || (e.op = .fullWrite && e.req.tu) then (e.effect a.1, true)
    else a) (c, true)

/-- The line as it stands: the latest value that is determined (R134, R318). -/
def Dev.known (s : Dev) (l : Nat) : Content := (knownFrom (s.stored l) (s.onLine l)).1

/-- The value that a request leaves its line with is determined. -/
def Dev.isKnown (s : Dev) (e : Entry) : Bool :=
  e.op != .fullWrite || (knownFrom (s.stored e.line) ((s.onLine e.line).filter (fun x => x.order ≤ e.order))).2

/-! ### MIRRORED regions -/

/-- States of FULLER.MIR.MIRnn_STATUS. -/
def mirNone : Nat := 0
def mirUnmatched : Nat := 1
def mirSync : Nat := 2
def mirBroken : Nat := 3

def Dev.mirState (s : Dev) (r : Nat) : Nat := s.rd base.mir (MIR.STATUS.STATE.at 4 r)
def Dev.setMirState (s : Dev) (r st : Nat) : Dev := s.put base.mir (MIR.STATUS.STATE.at 4 r) st
def Dev.resyncing (s : Dev) (r : Nat) : Bool := s.flag base.mir (MIR.STATUS.RESYNC.at 4 r)

/-- The region that mirrors a line. -/
def Dev.mirrorRegion (s : Dev) (l : Nat) : Option Nat :=
  match s.regionOf l with
  | some r => if s.classOf r = clsMirrored then some r else none
  | none => none

/-- A finished response kept in the entry that waits to send it: TV and RVAL. -/
def Entry.keep (e : Entry) (a : Rsp) : Entry := { e with aux := BitVec.zeroExtend 128 a.rval, req := { e.req with tv := a.tv } }
def Entry.kept (e : Entry) : Rsp := Rsp.tags e.req.tv (e.aux.extractLsb' 0 64)

/-- An event in FULLER.CORE.STATUS. -/
def Dev.fullerEvent (s : Dev) (code : Nat) : Dev := s.post base.fcore FULLER.STATUS.SEQ FULLER.STATUS.EVENT code

/-- Resync chunk of a line within its region: 64 KiB, 1,024 lines (R321). -/
def Dev.chunkOf (s : Dev) (r l : Nat) : Nat := (l - s.rd base.rgn (RGN.SPAN.BASE.at 8 r) * 2 ^ 18) / 1024

/-- A changed line's chunk is marked in the resync map. -/
def Dev.markChunk (s : Dev) (r l : Nat) : Dev :=
  let cs := s.fuller.chunks.get (fun _ => []) r
  let k := s.chunkOf r l
  if cs.contains k then s
  else { s with fuller := { s.fuller with chunks := s.fuller.chunks.set (fun _ => []) r (cs ++ [k]) } }

/-- The answer of a write whose mirror is broken (R321): OK with SOLO, RETRY_LATER with HOLD. -/
def Dev.answerBroken (s : Dev) (e : Entry) : Dev :=
  s.respondEntry e (if s.flag base.fcore FULLER.CTL.MIR_POLICY then s.retryRsp rsnMirror else e.kept)

/-- The mirror of a region breaks (R321). -/
def Dev.breakMirror (s : Dev) (r : Nat) : Dev :=
  let gone := s.fuller.mirOut.filter (fun m => m.region = r)
  let s1 := { s with fuller := { s.fuller with mirOut := s.fuller.mirOut.filter (fun m => m.region != r) } }
  let s2 := ((((s1.setMirState r mirBroken).put base.mir (MIR.STATUS.RESYNC.at 4 r) 0).count base.fcore
    FULLER.MIR_BREAK.COUNT).fullerEvent 9).raise srcMirrorBreak
  s2.each gone (fun s m => (s.markChunk r m.line).each (m.carried ++ m.later) (fun s e => s.answerBroken e))

/-- Packet of a MIR_WR (R134). -/
def Dev.mirPacket (s : Dev) (r l : Nat) (tag : BitVec 12) (c : Content) : List Slot :=
  let node := s.rd base.rgn (RGN.ATTR.MIRROR_NODE.at 8 r)
  let r : Req := ⟨2, 15, false, tag, BitVec.ofNat 12 s.node, BitVec.ofNat 49 (node * 2 ^ 37 + l * 64), true, tagsOf c,
    BitVec.ofNat 6 (poisonOf c).toNat, 0⟩
  reqSlot opcMirWr r :: dataSlots (userOf c)

/-- The packet of a MIR_WR leaves for the mirror node; with no route it counts as answered UNREACHABLE (R178, R321). -/
def Dev.mirLeaves (s : Dev) (r l : Nat) (tag : BitVec 12) (c : Content) : Dev :=
  let d := s.sendOwn (s.rd base.rgn (RGN.ATTR.MIRROR_NODE.at 8 r)) vcPer (s.mirPacket r l tag c)
  if d.1 then d.2 else d.2.breakMirror r

/-- A new MIR_WR for a line. -/
def Dev.sendMirWr (s : Dev) (r l : Nat) (c : Content) (carried : List Entry) (resync : Bool) : Dev :=
  let tag := s.fuller.mirTag
  let m : MirOut := ⟨tag, l, r, carried, [], s.now, none, resync⟩
  (({ s with fuller := { s.fuller with mirTag := tag + 1, mirOut := s.fuller.mirOut ++ [m] } } : Dev).perf 11 noInst 5
    1).mirLeaves r l tag c

/-- Answers of a MIRRORED line whose changes are determined: one MIR_WR carries them, or the next one does where one awaits
its response; a broken mirror is not written (R134, R318, R321). -/
def Dev.mirrorGo (s : Dev) (l : Nat) : Dev :=
  let go := s.fuller.mirWait.filter (fun e => e.line = l && s.isKnown e)
  let s1 : Dev := { s with fuller := { s.fuller with mirWait := s.fuller.mirWait.filter (fun e => !go.contains e) } }
  if go.isEmpty then s
  else
    match s.mirrorRegion l with
    | none => s1.each go (fun s e => s.respondEntry e e.kept)
    | some r =>
      if s.mirState r = mirBroken ∧ ¬ s.resyncing r then (s1.markChunk r l).each go (fun s e => s.answerBroken e)
      else if s.fuller.mirOut.any (fun m => m.line = l) then
        { s1 with fuller := { s1.fuller with
          mirOut := s1.fuller.mirOut.map (fun m => if m.line = l then { m with later := m.later ++ go } else m) } }
      else s1.sendMirWr r l (s.known l) go false

/-- Modifying requests have changed a line, or its new value is known (R318). They are answered at once where the line is
not MIRRORED; else the MIR_WR that carries their changes answers them (R137). -/
def Dev.finishAll (s : Dev) (l : Nat) (xs : List (Entry × Rsp)) : Dev :=
  let waits (x : Entry × Rsp) : Bool := x.1.port.isSome && x.2.status = stOk && (s.mirrorRegion l).isSome
  let s1 := s.each (xs.filter (fun x => !waits x)) (fun s x => s.respondEntry x.1 x.2)
  ({ s1 with fuller := { s1.fuller with
    mirWait := s1.fuller.mirWait ++ (xs.filter waits).map (fun x => x.1.keep x.2) } } : Dev).mirrorGo l

def Dev.finish (s : Dev) (e : Entry) (a : Rsp) : Dev := s.finishAll e.line [(e, a)]

/-- Lines of a region that the resync still has to read or to send. -/
def Dev.resyncLeft (s : Dev) (r : Nat) : Bool :=
  s.fuller.mirOut.any (fun m => m.region = r && m.resync) ||
  (List.range 128).any (fun p => (s.doings p ++ s.healWaiters).any
    (fun e => e.op = .resyncRead && s.regionOf e.line = some r))

/-- The next marked chunk of a region is read, or the region is in sync again (R322). -/
def Dev.resyncNext (s : Dev) (r : Nat) : Dev :=
  match s.fuller.chunks.get (fun _ => []) r with
  | [] => (((s.setMirState r mirSync).put base.mir (MIR.STATUS.RESYNC.at 4 r) 0).fullerEvent 10)
  | k :: _ =>
    let first := s.rd base.rgn (RGN.SPAN.BASE.at 8 r) * 2 ^ 18 + 1024 * k
    s.each (List.range 1024) (fun s i => s.ownOp .resyncRead (first + i) 0)

/-- A resync MIR_WR has completed: when the chunk's last line has, the chunk is done. -/
def Dev.resyncStep (s : Dev) (r : Nat) : Dev :=
  if s.resyncLeft r then s
  else
    let cs := s.fuller.chunks.get (fun _ => []) r
    ({ s with fuller := { s.fuller with chunks := s.fuller.chunks.set (fun _ => []) r (cs.drop 1) } } : Dev).resyncNext r

/-- A line read for the resync is sent as it stands, unless a MIR_WR for it is on its way, which carries its latest
state. -/
def Dev.resyncRead (s : Dev) (e : Entry) (c : Content) : Dev :=
  match s.mirrorRegion e.line with
  | none => s
  | some r =>
    if s.fuller.mirOut.any (fun m => m.line = e.line) then s.resyncStep r
    else s.sendMirWr r e.line (if (s.onLine e.line).isEmpty then c else s.known e.line) [] true

/-- Mirror timeout in nanoseconds (MIR_TMO, steps of 250 us; 0 acts as 1). -/
def Dev.mirTmo (s : Dev) : Nat := 250000 * max 1 (s.rd base.fcore FULLER.CTL.MIR_TMO)

/-- The response to a MIR_WR (R318, R321): it answers the requests whose changes it carried, and the changes made since
go in the next one; after RETRY_LATER the next MIR_WR carries them all (R134). -/
def Dev.mirResponse (s : Dev) (tag : BitVec 12) (status : Nat) : Dev :=
  match s.fuller.mirOut.find? (fun m => m.tag = tag) with
  | none => s
  | some m =>
    let others := s.fuller.mirOut.filter (fun x => x.tag != tag)
    if status = stOk then
      let s1 := ({ s with fuller := { s.fuller with mirOut := others } } : Dev).each m.carried
        (fun s e => s.respondEntry e e.kept)
      let s2 := if m.later.isEmpty then s1 else s1.sendMirWr m.region m.line (s1.known m.line) m.later m.resync
      if m.resync then s2.resyncStep m.region else s2
    else if status = stRetry then
      let since := m.retrySince.getD s.now
      if since + s.mirTmo < s.now then s.breakMirror m.region
      else
        let next (x : MirOut) : MirOut :=
          if x.tag = tag then { x with retrySince := some since, carried := x.carried ++ x.later, later := [] } else x
        ({ s with fuller := { s.fuller with mirOut := s.fuller.mirOut.map next } } : Dev).mirLeaves m.region m.line tag
          (s.known m.line)
    else s.breakMirror m.region

/-- The header of a response to one of the device's own requests arrives (R113, R114): it leaves the receive buffer (R170),
a device without a node ID discards it (R156), and one for another node goes on. -/
def Dev.ownRsp (s : Dev) (port : Nat) (w : Slot) (here : Dev → Dev) : Dev :=
  let s1 := s.takeIn port ⟨vcRsp, [w], none⟩
  if s1.node = 0 then s1.count base.tbl TBL.UNREACH_TX.COUNT
  else if bitsOf w.toNat 24 12 != s1.node then s1.forward (some port) vcRsp [w]
  else here s1

def execMirWrResponse (port : Fin 6) (hdr : BitVec 128) (s : State) : Host.Outcome State Fault Refusal :=
  s.act (fun s => s.ownRsp port hdr (fun s => s.mirResponse (hdr.extractLsb' 12 12) (bitsOf hdr.toNat 48 4)))

/-- MIR_TIMEOUT: no success after MIR_TMO (R321). -/
def Dev.mirTimeout (s : Dev) (tag : BitVec 12) : Dev :=
  match s.fuller.mirOut.find? (fun m => m.tag = tag) with
  | none => s
  | some m => s.breakMirror m.region

def execMirTimeout (tag : BitVec 12) (s : State) : Host.Outcome State Fault Refusal := s.act (fun s => s.mirTimeout tag)

/-- The device's MIR_XCHG for a region (R41, R136); one that finds no route stays unanswered. -/
def Dev.sendXchg (s : Dev) (r : Nat) : Dev :=
  let node := s.rd base.rgn (RGN.ATTR.MIRROR_NODE.at 8 r)
  let span := s.reg (base.rgn + 8 * r)
  let attr := s.reg (base.rgn + 8 * r + 4)
  let hdr := reqSlot opcMirXchg ⟨2, 15, false, BitVec.ofNat 12 r, BitVec.ofNat 12 s.node, BitVec.ofNat 49 (node * 2 ^ 37),
    false, 0, 0, BitVec.ofNat 32 r⟩
  (s.sendOwn node vcPer [hdr, (0 : BitVec 64) ++ attr ++ span]).2

/-- A MIRRORED region that is not matched, or is broken and not yet resyncing. -/
def Dev.wantsXchg (s : Dev) (r : Nat) : Bool :=
  s.rgnValid r && s.classOf r = clsMirrored && (s.mirState r = mirUnmatched || (s.mirState r = mirBroken && !s.resyncing r))

/-- A region serves: nothing that holds for the device or for its lines keeps requests to it from being served (R41). -/
def Dev.rgnServes (s : Dev) (r : Nat) : Bool :=
  (s.reasons (some (s.rd base.rgn (RGN.SPAN.BASE.at 8 r) * 2 ^ 18))).isEmpty

/-- MIR_XCHG goes out for every region that serves and wants one: as service begins, and every 10 ms (R41, R322). -/
def Dev.xchgTick (s : Dev) : Dev := s.each ((List.range 64).filter (fun r => s.wantsXchg r && s.rgnServes r)) (fun s r => s.sendXchg r)

def execMirXchgTimer (s : State) : Host.Outcome State Fault Refusal := s.act Dev.xchgTick

/-- The answer to the device's MIR_XCHG (R41, R322). -/
def Dev.xchgResponse (s : Dev) (r status : Nat) : Dev :=
  if status != stOk || !s.wantsXchg r then s
  else if s.mirState r = mirUnmatched then
    let s1 := s.setMirState r mirSync
    { s1 with fuller := { s1.fuller with matched := if s1.fuller.matched.contains r then s1.fuller.matched else s1.fuller.matched ++ [r] } }
  else (s.put base.mir (MIR.STATUS.RESYNC.at 4 r) 1).resyncNext r

def execMirXchgResponse (port : Fin 6) (hdr : BitVec 128) (s : State) : Host.Outcome State Fault Refusal :=
  s.act (fun s => s.ownRsp port hdr (fun s => s.xchgResponse (bitsOf hdr.toNat 12 6) (bitsOf hdr.toNat 48 4)))

end Sys2Proof.Machine
end

