-- ==== Sys2Proof/Machine/HbBase.lean ====
section
/-! DEFINITION. What the Fuller uses of the Hatbox ports: states and members (R369, R374), the durability set (R294),
NVMe commands (R362, R363), blocks on a cartridge and views of them (R376-R380), records (R328, R383). -/
namespace Sys2Proof

/-! ### Epoch numbers -/

namespace Machine

/-- Epoch a is at or after epoch b (R301). -/
def atOrAfter (a b : BitVec 32) : Bool := !(a - b).getLsbD 31

/-- The epoch after and before one: the sequence skips 0 (R301, R377). -/
def nextEpoch (e : BitVec 32) : BitVec 32 := if e = 0xFFFFFFFF then 1 else e + 1
def prevEpoch (e : BitVec 32) : BitVec 32 := if e = 1 then 0xFFFFFFFF else e - 1

/-- label(e) (R302); 0b00 for epoch 0. -/
def labelOf (e : BitVec 32) : BitVec 2 := if e = 0 then 0 else BitVec.ofNat 2 (1 + e.toNat % 3)

end Machine

/-! ### Parts of a block and the superblock in force -/

/-- Code of a line in a VERSION block (R377). -/
def Block.code (b : Block) (i : Nat) : Nat := b.tags.get (fun _ => 0) i
def Block.line (b : Block) (i : Nat) : Content := b.lines.get (fun _ => 0) i

/-- Tag of a line's entry: E for code 1, E - 1 for code 2 (R377). -/
def Block.tag (b : Block) (i : Nat) : Option (BitVec 32) :=
  match b.code i with
  | 1 => some b.epoch
  | 2 => some (Machine.prevEpoch b.epoch)
  | _ => none

/-- The superblock in force: the readable copy with the higher RSN (R375). -/
def Cart.super (c : Cart) : Option Super :=
  match c.superA, c.superB with
  | some a, some b => some (if a.rsn < b.rsn then b else a)
  | some a, none => some a
  | none, b => b

/-- A superblock copy is written over the older one, with the next RSN (R375).
(DESIGN CHOICE, notes/assumptions/67.md) -/
def Cart.writeSuper (c : Cart) (f : Super) : Cart :=
  match c.superA, c.superB with
  | some a, some b => if a.rsn < b.rsn then { c with superA := some { f with rsn := b.rsn + 1 } }
      else { c with superB := some { f with rsn := a.rsn + 1 } }
  | some a, none => { c with superB := some { f with rsn := a.rsn + 1 } }
  | none, some b => { c with superA := some { f with rsn := b.rsn + 1 } }
  | none, none => { c with superA := some f }

namespace Machine

/-! ### Ports -/

/-- States of a Hatbox port (HB.STATUS.STATE, R369). -/
def hbAbsent : Nat := 0
def hbForeign : Nat := 1
def hbPairing : Nat := 2
def hbResync : Nat := 3
def hbInService : Nat := 4
def hbRestoreOnly : Nat := 5
def hbEjected : Nat := 6
def hbFailed : Nat := 7

def Dev.hbr (s : Dev) (n : Nat) (f : Fld) : Nat := s.rd (base.hb n) f
def Dev.hbState (s : Dev) (n : Nat) : Nat := s.hbr n HB.STATUS.STATE
def Dev.hbEvent (s : Dev) (n code : Nat) : Dev := s.post (base.hb n) HB.STATUS.SEQ HB.STATUS.EVENT code
def Dev.setHbState (s : Dev) (n st : Nat) : Dev :=
  let s1 := (s.put (base.hb n) HB.STATUS.STATE st).hbEvent n 1
  s1.ibi 4 1 (s1.hbr n HB.STATUS.SEQ)

/-- HB_MODE: 0 STRIPED, 1 MIRRORED, 2 HB0 only, 3 HB1 only. -/
def Dev.hbMode (s : Dev) : Nat := s.rd base.hctl HCTL.CFG.MODE

/-- Ports whose cartridge holds a unit under the mode (R374). -/
def Dev.hbHolders (s : Dev) (u : Nat) : List Nat :=
  match s.hbMode with
  | 0 => [0, 1].filter (fun n => s.hbr n HB.STATUS.MEMBER = u % 2)
  | 1 => [0, 1]
  | 2 => [0]
  | _ => [1]

/-- Ports that a destage of a unit writes to (R369, R374). -/
def Dev.hbWriters (s : Dev) (u : Nat) : List Nat :=
  (s.hbHolders u).filter (fun n => (s.hbState n = hbResync || s.hbState n = hbInService) && !(s.hb n).ejecting)

/-- Ports that a unit can be read from (R369). -/
def Dev.hbReaders (s : Dev) (u : Nat) : List Nat :=
  (s.hbHolders u).filter (fun n => (s.hbState n = hbInService || s.hbState n = hbRestoreOnly) && !(s.hb n).ejecting)

/-- Ports whose cartridge is a member in use: records go to every one (R328, R391). -/
def Dev.hbMembers (s : Dev) : List Nat :=
  [0, 1].filter (fun n => (s.hbState n = hbResync || s.hbState n = hbInService) && !(s.hb n).ejecting &&
    (s.hbMode < 2 || n = s.hbMode - 2))

/-- Ports of the durability set (R294); empty: durability is lost. -/
def Dev.durableSet (s : Dev) : List Nat :=
  let up (n : Nat) : Bool := s.hbState n = hbInService
  match s.hbMode with
  | 0 => if up 0 && up 1 && s.hbr 0 HB.STATUS.MEMBER != s.hbr 1 HB.STATUS.MEMBER then [0, 1] else []
  | 1 => [0, 1].filter up
  | 2 => [0].filter up
  | _ => [1].filter up

/-- A usable set for restore: as R294, counting a RESTORE_ONLY cartridge as well (R369). -/
def Dev.restorable (s : Dev) : Bool := !(s.hbReaders 0).isEmpty && !(s.hbReaders 1).isEmpty

/-! ### Blocks and views -/

/-- Block kinds (R376). -/
def kindVersion : BitVec 16 := 0x0001
def kindSession : BitVec 16 := 0x0010
def kindFlushStart : BitVec 16 := 0x0011
def kindCommit : BitVec 16 := 0x0012
def kindAbandon : BitVec 16 := 0x0013
def kindFlushEnd : BitVec 16 := 0x0014
def kindIndex : BitVec 16 := 0x0020
def kindIndexRoot : BitVec 16 := 0x0021

/-- Blocks of the log that a record takes (R381, R383): FLUSH_START is 1,024 blocks, INDEX_ROOT 129. -/
def blockSpan (b : Block) : Nat := if b.kind = kindFlushStart then 1024 else if b.kind = kindIndexRoot then 129 else 1

/-- A tag lies in an abandoned range (r, h] of a region (R345); r = 0: every tag up to h. -/
def abandoned (as : List (Nat × BitVec 32 × BitVec 32)) (rgn : Option Nat) (tag : BitVec 32) : Bool :=
  as.any (fun a => rgn = some a.1 && (a.2.1 = 0 || (tag != a.2.1 && atOrAfter tag a.2.1)) && atOrAfter a.2.2 tag)

/-- The earlier of two epochs, 0 (none) the earliest. -/
def earlier (a b : BitVec 32) : BitVec 32 := if a = 0 || b = 0 then 0 else if atOrAfter a b then b else a
/-- The later of two epochs. -/
def later (a b : BitVec 32) : BitVec 32 := if a = 0 then b else if b = 0 then a else if atOrAfter a b then a else b

/-- The range (r, h] that an ABANDON record names, and its region (R383). -/
def abandonRange (b : Block) : Nat × BitVec 32 × BitVec 32 :=
  (b.payload.getD 0 0, BitVec.ofNat 32 (b.payload.getD 1 0), BitVec.ofNat 32 (b.payload.getD 2 0))

/-- A range lies within another of the same region. -/
def rangeIn (a b : Nat × BitVec 32 × BitVec 32) : Bool :=
  a.1 = b.1 && earlier a.2.1 b.2.1 = b.2.1 && later a.2.2 b.2.2 = b.2.2

/-- Ranges of one region touch or overlap. -/
def rangesTouch (a b : Nat × BitVec 32 × BitVec 32) : Bool :=
  a.1 = b.1 && later a.2.1 b.2.2 = b.2.2 && later b.2.1 a.2.2 = a.2.2

/-- A range joins the abandon list: ranges of its region that touch or overlap become one (R382). -/
def addRange (as : List (Nat × BitVec 32 × BitVec 32)) (a : Nat × BitVec 32 × BitVec 32) : List (Nat × BitVec 32 × BitVec 32) :=
  let near := as.filter (rangesTouch a)
  as.filter (fun x => !rangesTouch a x) ++
    [near.foldl (fun y x => (y.1, earlier y.2.1 x.2.1, later y.2.2 x.2.2)) a]

/-- An entry with a tag is in a view: none is the view "any" (R378); epoch 0 admits nothing (R344). -/
def inView (r : Option (BitVec 32)) (tag : BitVec 32) : Bool :=
  match r with
  | none => true
  | some e => e != 0 && atOrAfter e tag

/-- The block that supplies a line in a view: the latest tag, on equal tags the higher VSN (R378). -/
def winner (as : List (Nat × BitVec 32 × BitVec 32)) (rgn : Option Nat) (log : List Block) (r : Option (BitVec 32))
    (u i : Nat) : Option Block :=
  log.foldl (fun (best : Option Block) b =>
    if b.kind = kindVersion ∧ b.unit = u then
      match b.tag i with
      | none => best
      | some t =>
        if !inView r t || abandoned as rgn t then best
        else match best with
          | none => some b
          | some w =>
            let tw := (w.tag i).getD 0
            if (t != tw && atOrAfter t tw) || (t = tw && w.vsn < b.vsn) then some b else best
    else best) none

/-- A line's content in a view (R378). -/
def viewLine (as : List (Nat × BitVec 32 × BitVec 32)) (rgn : Option Nat) (log : List Block) (r : Option (BitVec 32))
    (u i : Nat) : Option Content :=
  (winner as rgn log r u i).map (fun b => b.line i)

/-- The log of the cartridge in a port. -/
def Dev.hbLog (s : Dev) (n : Nat) : List Block :=
  match (s.hb n).cart with
  | some c => c.log
  | none => []

/-- The region of a unit. -/
def Dev.regionOfUnit (s : Dev) (u : Nat) : Option Nat := s.regionOf (64 * u)

/-- A line of a unit on a port's cartridge, in a view. -/
def Dev.hbView (s : Dev) (n : Nat) (r : Option (BitVec 32)) (u i : Nat) : Option Content :=
  viewLine s.pf.abandons (s.regionOfUnit u) (s.hbLog n) r u i

/-- Live blocks of a unit: they supply a line in the view "any", at d, or, in SEALING, at S (R379).
(DEDUCED, notes/assumptions/68.md) -/
def liveBlocks (as : List (Nat × BitVec 32 × BitVec 32)) (rgn : Option Nat) (log : List Block)
    (views : List (Option (BitVec 32))) (u : Nat) : List Block :=
  let mine := log.filter (fun b => b.kind = kindVersion && b.unit = u)
  mine.filter (fun b => views.any (fun r => (List.range 64).any (fun i => winner as rgn mine r u i = some b)))

/-! ### NVMe commands (R362, R363) -/

/-- A command is issued on a queue of a port. -/
def Dev.nvmeIssue (s : Dev) (n qid : Nat) (op : NvmeOp) : Dev :=
  s.upHb n (fun h => { h with cmds := h.cmds ++ [⟨h.nextCid, qid, op, false⟩], nextCid := h.nextCid + 1 })

/-- Blocks appended to a cartridge's log, each with its place, RSN and, where it has none, its VSN (R376).
(DEDUCED, notes/assumptions/66.md) -/
def appendBlocks (c : Cart) (bs : List Block) : Cart :=
  bs.foldl (fun c b =>
    let top := match c.log with | x :: _ => (x.lba + blockSpan x, x.rsn + blockSpan x) | [] => (0, 1)
    let b1 := { b with lba := top.1, rsn := top.2 }
    { c with log := (if b1.vsn = 0 then { b1 with vsn := b1.rsn } else b1) :: c.log }) c

/-- The log of a port's cartridge grows; what it writes counts in WRITTEN (R375). -/
def Dev.hbAppend (s : Dev) (n : Nat) (bs : List Block) : Dev :=
  let s1 := s.upHb n (fun h => { h with
    cart := h.cart.map (fun c => appendBlocks c bs), logSinceCkpt := h.logSinceCkpt + (bs.map blockSpan).sum })
  s1.setWide (base.hb n) 3 (s1.wideOf (base.hb n) 3 + 4096 * (bs.map blockSpan).sum)

/-- The open epoch, which every block but a VERSION carries in its descriptor (R376). -/
def Dev.openEpoch (s : Dev) : BitVec 32 := BitVec.ofNat 32 (s.rd base.fcore FULLER.EPOCH_OPEN.EPOCH)

/-! ### Records (R328, R383) -/

/-- Kind of a record. -/
def recordKind : RecordKind → BitVec 16
  | .session => kindSession
  | .flushStart => kindFlushStart
  | .commit => kindCommit
  | .abandon => kindAbandon
  | .flushEnd => kindFlushEnd

/-- A record is issued to every member, on QID 7. -/
def Dev.issueRecord (s : Dev) (k : RecordKind) (payload : List Nat) : Dev :=
  let b : Block := ⟨recordKind k, 0, 0, 0, 0, s.openEpoch, [], [], payload⟩
  s.each s.hbMembers (fun s n => s.nvmeIssue n 7 (.writeRecord k b))

/-- A record of a kind still awaits a cartridge of the durability set. -/
def Dev.recordPendingOn (s : Dev) (k : RecordKind) : Bool :=
  s.durableSet.any (fun n => (s.hb n).cmds.any (fun c => match c.op with | .writeRecord r _ => r = k | _ => false))

/-- Payload of a COMMIT: epoch, region mask, masked (R383). -/
def commitPayload (e : BitVec 32) (mask : Nat) (masked : Bool) : List Nat := [e.toNat, mask, masked.toNat]

end Machine
end Sys2Proof
end

