-- ==== Sys2Proof/Machine/Ful.lean ====
section
/-! DEFINITION. The Fuller's tracking (R289-R316): dirty units, the budget and its back-pressure, seed units,
copy-on-write and the shadow pool, folding, epochs, and the acceptance of a write that these rules govern. -/
namespace Sys2Proof.Machine

/-! ### Dawn and restore -/

/-- A Dawn step has ended (CHIP.DAWN.STATUS.DONE). -/
def Dev.dawnDone (s : Dev) (k : Nat) : Bool := (s.rd base.dawn DAWN.STATUS.DONE).testBit (k - 1)

/-- PHASE of FULLER.PF.RST_STATUS: 0 none, 1 loading, 2 restoring, 3 DONE. -/
def Dev.rstPhase (s : Dev) : Nat := s.rd base.pf PF.RST_STATUS.PHASE

/-- Restore start, or the end of a zero-fill, has been reached and the device has not stopped since (R520). -/
def Dev.started (s : Dev) : Bool := s.dawnDone 10 && s.rstPhase != 1 && s.rd base.rung RUNG.STATUS.PHASE != 2

/-! ### Epoch registers -/

/-- Epoch states (FULLER.STATUS.STATE, R301). -/
def epNone : Nat := 0
def epOpen : Nat := 1
def epSealing : Nat := 2

def Dev.epState (s : Dev) : Nat := s.rd base.fcore FULLER.STATUS.STATE
def Dev.epochO (s : Dev) : BitVec 32 := BitVec.ofNat 32 (s.rd base.fcore FULLER.EPOCH_OPEN.EPOCH)
def Dev.epochS (s : Dev) : BitVec 32 := BitVec.ofNat 32 (s.rd base.fcore FULLER.EPOCH_SEALED.EPOCH)
def Dev.epochD (s : Dev) : BitVec 32 := BitVec.ofNat 32 (s.rd base.fcore FULLER.EPOCH_DURABLE.EPOCH)

/-- O, S, d and STATE change together (R327). -/
def Dev.setEpochs (s : Dev) (st : Nat) (o e d : BitVec 32) : Dev :=
  ((((s.put base.fcore FULLER.STATUS.STATE st).put base.fcore FULLER.STATUS.LABEL
    (if st = epNone then 0 else (labelOf o).toNat)).put base.fcore FULLER.EPOCH_OPEN.EPOCH o.toNat).put base.fcore
    FULLER.EPOCH_SEALED.EPOCH e.toNat).put base.fcore FULLER.EPOCH_DURABLE.EPOCH d.toNat

/-- The Fuller is non-durable (R295). -/
def Dev.nonDurable (s : Dev) : Bool := s.flag base.fcore FULLER.STATUS.NONDURABLE

/-! ### The dirty set -/

/-- Class of a unit; a shadow-pool unit has none. -/
def Dev.unitClass (s : Dev) (u : Nat) : Nat := s.lineClass (64 * u)

/-- D of the line is maintained: LATEST, EPOCH, MIRRORED, or the shadow pool (R289). -/
def Dev.tracked (s : Dev) (l : Nat) : Bool := s.inShadow l || s.lineClass l != clsVolatile

/-- E1:E0 and D that a write of the line in an epoch stores (R289, R302). -/
def Dev.markOf (s : Dev) (l : Nat) (e : BitVec 32) : BitVec 2 × Bool :=
  (if s.lineClass l = clsEpoch && !s.inShadow l then labelOf e else 0, s.tracked l)

/-- Units in the dirty set (R291). -/
def Dev.dirtyUnits (s : Dev) : Nat := s.fuller.map.length

/-- Effective budget in units: EFF, in units of 512 MiB (R330), and the level at which held writes are released
(R298). -/
def Dev.budget (s : Dev) : Nat := s.rd base.pf PF.HOLDUP.EFF * 131072
def Dev.releaseLevel (s : Dev) : Nat := s.budget - s.budget / 64

/-- The budget is enforced: not while the Fuller is non-durable, until the end of catch-up (R295, R298). -/
def Dev.enforces (s : Dev) : Bool := !s.nonDurable || s.fuller.catchUp = some []

/-- A write of the line would make a clean unit dirty. -/
def Dev.wouldDirty (s : Dev) (l : Nat) : Bool := s.tracked l && s.unitState (unitOf l) = 0

/-- Back-pressure holds a write of the line (R298). -/
def Dev.bpHolds (s : Dev) (l : Nat) : Bool := s.enforces && s.wouldDirty l && s.budget ≤ s.dirtyUnits

/-- Back-pressure comes into force once the dirty set has reached the budget (R298): event 4. -/
def Dev.bpOn (s : Dev) : Dev :=
  if !s.flag base.fcore FULLER.STATUS.BP && s.enforces && s.budget ≤ s.dirtyUnits then
    (s.putFlag base.fcore FULLER.STATUS.BP true).fullerEvent 4
  else s

/-- The unit of a changed line becomes dirty, or keeps its state (R290). -/
def Dev.dirtyUnit (s : Dev) (l : Nat) (e : BitVec 32) : Dev :=
  if s.wouldDirty l then (s.setUnitState (unitOf l) (if s.lineClass l = clsEpoch then labelOf e else 1)).bpOn else s

/-- Every entry that waits for a release, in order of acceptance, with its pseudo-channel. -/
def Dev.heldEntries (s : Dev) (h : Hold) : List (Nat × Entry) :=
  sortBy (fun a b => a.2.order ≤ b.2.order)
    ((List.range 128).map (fun p => ((s.pc p).wq.filter (fun e => e.hold = h)).map (fun e => (p, e)))).flatten

/-- A held entry's hold changes. -/
def Dev.setHold (s : Dev) (p : Nat) (e : Entry) (h : Hold) : Dev :=
  let f (x : Entry) : Entry := if x = e then { x with hold := h } else x
  s.upPc p (fun c => { c with wq := c.wq.map f })

/-- A held entry leaves the write queue. -/
def Dev.dropEntry (s : Dev) (p : Nat) (e : Entry) : Dev := s.upPc p (fun c => { c with wq := c.wq.filter (fun x => x != e) })

/-! ### Seed units (R300) -/

/-- A seed unit is admitted: dirty at once, its marks set by read-modify-writes at L2 order 4. -/
def Dev.admitSeed (s : Dev) (u : Nat) : Dev :=
  let s1 := ({ s with fuller := { s.fuller with seeds := s.fuller.seeds.erase u } } : Dev).dirtyUnit (64 * u) s.epochO
  let m := s.markOf (64 * u) s.epochO
  s1.each (List.range 64) (fun s i => s.ownOp .seedWrite (64 * u + i) (mkContent 0 0 false m.1 true))

def Dev.admitSeedOf (s : Dev) (l : Nat) : Dev :=
  if s.fuller.seeds.contains (unitOf l) then s.admitSeed (unitOf l) else s

/-! ### Copy-on-write (R307-R311) -/

/-- A write of the line first reads it (R307). -/
def Dev.cowReads (s : Dev) (l : Nat) : Bool :=
  s.epState = epSealing && !s.inShadow l && s.lineClass l = clsEpoch && s.unitState (unitOf l) != 0 &&
    s.unitState (unitOf l) != labelOf s.epochO

/-- The line as read needs a copy. -/
def Dev.copyNeeded (s : Dev) (l : Nat) (c : Content) : Bool :=
  s.cowReads l && pendingOf c && epochBitsOf c != labelOf s.epochO

/-- Shadow blocks in the pool and the first unit of the pool (R309). -/
def Dev.poolBlocks (s : Dev) : Nat := s.rd base.amap AMAP.CFG.SHADOW_GIB * 262144
def Dev.poolFirst (s : Dev) : Nat := s.shadowBase / 64

/-- What comes of an attempt to place a copy. -/
inductive CopyRes where
  | placed (d : Dev)
  | stall
  | overBudget
deriving DecidableEq, Repr

/-- The directory of a block with these home lines, line k of the four (R309). -/
def directoryLine (homes : List Nat) (k : Nat) : Content :=
  mkContent ((List.range 16).foldl (fun (a : BitVec 512) j =>
    match homes[16 * k + j]? with
    | some h => a ||| (BitVec.ofNat 512 (2 ^ 31 + h) <<< (32 * j))
    | none => a) 0) 0 false 0 true

/-- A copy takes the next slot of a block: the line and the directory are written at L2 order 2. -/
def Dev.storeCopy (s : Dev) (u : Nat) (homes : List Nat) (l : Nat) (c : Content) : Dev :=
  let hs := homes ++ [l]
  let sh := s.fuller.shadow.map (fun b => if b.1 = u then (u, hs) else b)
  let dir := 64 * u + 60 + homes.length / 16
  let s1 : Dev := { s with fuller := { s.fuller with
    shadow := sh, jobs := s.fuller.jobs.map (fun j => { j with clear := j.clear.filter (fun x => x != dir) }) } }
  let s2 := (s1.ownOp .cowCopy (64 * u + homes.length) c).ownOp .cowCopy dir
    (directoryLine hs (homes.length / 16))
  (s2.count base.fcore FULLER.COW_COPY.COUNT).perf 11 noInst 3 1

/-- A new shadow block counts against the budget from the moment it is taken. -/
def Dev.newBlock (s : Dev) (l : Nat) (c : Content) : CopyRes :=
  let n := s.poolBlocks
  let used := s.fuller.shadow.map Prod.fst
  match (List.range (used.length + 1)).find? (fun k => 0 < n && k < n &&
      !used.contains (s.poolFirst + (s.fuller.shadowNext + k) % n)) with
  | none => .stall
  | some k =>
    if s.enforces && s.budget ≤ s.dirtyUnits then .overBudget
    else
      let u := s.poolFirst + (s.fuller.shadowNext + k) % n
      let s1 : Dev := { s with fuller := { s.fuller with
        shadow := s.fuller.shadow ++ [(u, [])], shadowNext := (s.fuller.shadowNext + k + 1) % n } }
      .placed ((s1.setUnitState u (labelOf s.epochS)).bpOn.storeCopy u [] l c)

/-- A copy is stored in the block being filled, or in the next free block of the ring (R299, R309). -/
def Dev.placeCopy (s : Dev) (l : Nat) (c : Content) : CopyRes :=
  match s.fuller.shadow.getLast? with
  | some (u, homes) => if homes.length < 60 then .placed (s.storeCopy u homes l c) else s.newBlock l c
  | none => s.newBlock l c

/-! ### Acceptance and release of writes -/

/-- A line is written after its destage read: the clear of its D is dropped (R292). -/
def Dev.keepDirty (s : Dev) (l : Nat) : Dev :=
  { s with fuller := { s.fuller with jobs := s.fuller.jobs.map (fun j => { j with clear := j.clear.filter (fun x => x != l) }) } }

/-- A write to a line has been accepted: operations of the device that it supersedes are dropped (R201, R246, R249,
R292), and a heal learns of a full-line write (R245). -/
def Dev.writeAccepted (s : Dev) (l : Nat) (full : Bool) : Dev :=
  let p := (s.place l).pc
  let gone (e : Entry) : Bool := e.line = l && (e.op = .clearD || e.op = .poisonWrite || (full && e.op = .healWrite))
  let s1 := (s.carderStale p (fun x => x = l)).upPc p (fun c => { c with
    l2 := c.l2.filter (fun e => !gone e), feed := c.feed.filter (fun e => !gone e) })
  let hit (h : Heal) : Heal := if h.line = l && full then { h with overwritten := true } else h
  { s1.keepDirty l with ecc := { s1.ecc with heals := s1.ecc.heals.map hit, healWait := s1.ecc.healWait.map hit } }

/-- The write of an entry in the write queue that back-pressure does not hold: its unit becomes dirty, and it is
answered, or waits for its copy-on-write read (R191, R307). -/
def Dev.startWrite (s : Dev) (p : Nat) (e : Entry) : Dev :=
  let s1 := (s.admitSeedOf e.line)
  let cow := s1.cowReads e.line
  let s2 := s1.dirtyUnit e.line e.epoch
  if cow then
    let s3 := (s2.setHold p e .copyRead).feedL2 { ownEntry .cowRead e.line e.order 0 with epoch := e.epoch }
    (s3.count base.fcore FULLER.COW_READ.COUNT).perf 11 noInst 2 1
  else
    let s3 := s2.setHold p e .none
    let c := s3.projectedTo e.line e.order
    s3.finish e (Rsp.tags (tagsOf c) 0)

/-- A full-line write enters the write queue (R191, R298). (DEDUCED, notes/assumptions/22.md) -/
def Dev.acceptWrite (s : Dev) (e : Entry) : Dev :=
  let p := (s.place e.line).pc
  let s1 := (s.writeAccepted e.line true).qperf p 0x08
  if s1.bpHolds e.line then
    let h := { e with hold := Hold.backPressure }
    (s1.upPc p (fun c => { c with wq := c.wq ++ [h] })).count base.fcore FULLER.BP_HOLD.COUNT
  else (s1.upPc p (fun c => { c with wq := c.wq ++ [e] })).startWrite p e

/-- A request of a line stands between its merge entry and a later one: that would execute before it if it joined the
entry (R142, R201). -/
def Dev.mergeClosed (s : Dev) (p : Nat) (m : MergeEntry) (later : Nat) : Bool :=
  (s.doings p).any (fun e => e.line = m.line && e.port.isSome && e.order < later && m.members.all (fun x => x.order < e.order))

/-- A partial write can join the merge entry of its line, or open one (R202): a line has one entry at most, and one that
must wait for its line's entry to retire waits in the write queue like one that waits for a free entry. (DEDUCED,
notes/assumptions/24.md) -/
def Dev.mergeRoom (s : Dev) (p : Nat) (e : Entry) : Bool :=
  match (s.pc p).mergeBuf.find? (fun m => m.line = e.line) with
  | some m => !s.mergeClosed p m e.order && !m.superseded
  | none => (s.pc p).mergeBuf.length < 16

/-- A partial write joins its line's merge entry or opens one (R202); an ATOM brings the read forward (R203). -/
def Dev.joinMerge (s : Dev) (p : Nat) (e : Entry) : Dev :=
  let c := s.pc p
  let e1 := { e with hold := Hold.none }
  let s1 :=
    if c.mergeBuf.any (fun m => m.line = e.line) then
      let add (m : MergeEntry) : MergeEntry := if m.line = e.line then { m with members := m.members ++ [e1] } else m
      (s.setPc p { c with mergeBuf := c.mergeBuf.map add }).count (base.pc p) PC.MERGE_HIT.COUNT
    else s.setPc p { c with mergeBuf := c.mergeBuf ++ [⟨e.line, [e1], 0, false, false, false, false⟩] }
  let s2 := s1.qperf p (if e.opc = opcAtom then 0x0A else 0x09)
  if e.opc = opcAtom then s2.issueMergeRead p e.line else s2

/-- While a request waits for a free merge entry, the oldest open entry is read, one at a time (R203). -/
def Dev.pressMerge (s : Dev) (p : Nat) : Dev :=
  let c := s.pc p
  let wants := c.wq.any (fun e => e.hold = .mergeFull && !c.mergeBuf.any (fun m => m.line = e.line))
  if !wants || c.mergeBuf.length < 16 || c.mergeBuf.any MergeEntry.pressed then s
  else
    match c.mergeBuf.find? (fun m => !m.readIssued) with
    | some m =>
      let s1 := s.setPc p { c with mergeBuf := c.mergeBuf.map (fun x => if x = m then { x with pressed := true } else x) }
      s1.issueMergeRead p m.line
    | none => s

/-- A partial write that nothing holds back: dirty at once, then the merge buffer, or the write queue until an entry
frees (R202). -/
def Dev.startPartial (s : Dev) (p : Nat) (e : Entry) : Dev :=
  let s1 := (s.admitSeedOf e.line).dirtyUnit e.line e.epoch
  if s1.mergeRoom p e then s1.joinMerge p e
  else (s1.upPc p (fun c => { c with wq := c.wq ++ [{ e with hold := .mergeFull }] })).pressMerge p

/-- A masked write or atomic is accepted (R191, R202). -/
def Dev.acceptPartial (s : Dev) (e : Entry) : Dev :=
  let p := (s.place e.line).pc
  let s1 := s.writeAccepted e.line false
  if s1.bpHolds e.line then
    (s1.upPc p (fun c => { c with wq := c.wq ++ [{ e with hold := .backPressure }] })).count base.fcore FULLER.BP_HOLD.COUNT
  else s1.startPartial p e

/-- Requests that wait for a merge entry take one as it frees, oldest first. -/
def Dev.drainMergeWait (s : Dev) (p : Nat) : Dev :=
  (s.each ((s.pc p).wq.filter (fun e => e.hold = .mergeFull)) (fun s e =>
    if (s.dropEntry p e).mergeRoom p e then (s.dropEntry p e).joinMerge p e else s)).pressMerge p

/-- A MIR_WR is stored as an L2 operation and answered OK (R319). -/
def Dev.storeMirror (s : Dev) (e : Entry) : Dev :=
  (s.feedL2 { e with hold := .none, answered := true }).respondEntry { e with answered := false } (Rsp.code stOk)

/-- A MIR_WR that back-pressure does not hold: dirty at once and stored, after its copy-on-write read where the line needs
one (R307, R319). -/
def Dev.startMirror (s : Dev) (p : Nat) (e : Entry) : Dev :=
  let s1 := s.admitSeedOf e.line
  let s2 := s1.dirtyUnit e.line e.epoch
  if s1.cowReads e.line then
    let s3 := (s2.upPc p (fun c => { c with wq := c.wq ++ [{ e with hold := .copyRead }] })).feedL2
      { ownEntry .cowRead e.line e.order 0 with epoch := e.epoch }
    (s3.count base.fcore FULLER.COW_READ.COUNT).perf 11 noInst 2 1
  else s2.storeMirror e

/-- One held write is released from back-pressure (R298, R299). -/
def Dev.releaseOne (s : Dev) (p : Nat) (e : Entry) : Dev :=
  match e.op with
  | .mirrorWrite => (s.dropEntry p e).startMirror p e
  | .fullWrite => s.startWrite p e
  | .merge => if (s.pc p).retires e then s.setHold p e .reread else (s.dropEntry p e).startPartial p e
  | _ => ((s.admitSeedOf e.line).dirtyUnit e.line e.epoch).setHold p e .reread

/-- Held writes are released in order of acceptance until the dirty set reaches the budget again (R298). -/
def Dev.releaseHeld (s : Dev) : Dev :=
  s.each (s.heldEntries .backPressure) (fun s x =>
    if s.enforces && s.budget ≤ s.dirtyUnits && s.wouldDirty x.2.line then s else s.releaseOne x.1 x.2)

/-- Back-pressure comes into force, or ends below the release level (R298): events 4 and 5. -/
def Dev.bpCheck (s : Dev) : Dev :=
  if s.flag base.fcore FULLER.STATUS.BP && (!s.enforces || s.dirtyUnits < s.releaseLevel) then
    ((s.putFlag base.fcore FULLER.STATUS.BP false).fullerEvent 5).releaseHeld.bpOn
  else s.bpOn

/-- Copy-on-write stalls end where no copy is needed any more or a slot is free: the line is read again and the write
goes on (R311). -/
def Dev.releaseStalls (s : Dev) : Dev :=
  s.each (s.heldEntries .cowStall) (fun s x =>
    let e := x.2
    if e.op != .fullWrite && e.op != .mirrorWrite then s.setHold x.1 e .reread
    else if s.cowReads e.line then (s.setHold x.1 e .copyRead).feedL2 { ownEntry .cowRead e.line e.order 0 with epoch := e.epoch }
    else if e.op = .mirrorWrite then (s.dropEntry x.1 e).storeMirror e
    else
      let s1 := s.setHold x.1 e .none
      let c := s1.projectedTo e.line e.order
      s1.finish e (Rsp.tags (tagsOf c) 0))

/-- A copy-on-write stall begins. -/
def Dev.beginStall (s : Dev) : Dev := s.count base.fcore FULLER.COW_STALL.COUNT

/-- A copy-on-write stall is in force. -/
def Dev.stalled (s : Dev) : Bool := !(s.heldEntries .cowStall).isEmpty

/-! ### Sealing, folding, waiting (R304-R316) -/

/-- RVAL of EPOCH QUERY and WAIT_DURABLE, and of SEAL (R127). -/
def Dev.queryVal (s : Dev) : Nat := s.epochO.toNat + s.epochD.toNat * 2 ^ 32
def sealVal (sealed opened : BitVec 32) : Nat := sealed.toNat + opened.toNat * 2 ^ 32

/-- A command of a waiter ends: a response, or the end of the command from CMD (R326). -/
def Dev.endWaiterOnce (s : Dev) (w : Waiter) (status val : Nat) : Dev :=
  match w with
  | .fabric _ r opc id => s.respond opc r 0 (some id) (if status = stOk then Rsp.val val else Rsp.code status)
  | .mgmt =>
    ((s.put base.fcore FULLER.CMD_STATUS.RUNNING 0).put base.fcore FULLER.CMD_STATUS.RESULT
      (if status = stOk then 0 else if status = stAddrErr then 2 else 1)).bump base.fcore FULLER.CMD_STATUS.SEQ

/-- How a waiter's command ends. -/
abbrev EndBy := Dev → Waiter → Nat → Nat → Dev

/-- S is given up: its copies are discarded, its lines belong to O (R315). -/
def Dev.fold (s : Dev) : Dev :=
  if s.epState != epSealing then s
  else
    let s1 := s.each s.fuller.shadow (fun s b => s.setUnitState b.1 0)
    let s2 : Dev := { s1 with fuller := { s1.fuller with
      shadow := [], jobs := s1.fuller.jobs.filter (fun j => !s.inShadow (64 * j.unit))
      commit := match s1.fuller.commit with | some (_, _, true) => s1.fuller.commit | _ => none } }
    let keep (e : Entry) : Bool := e.op != .cowCopy
    let s3 := s2.each (List.range 128) (fun s p => s.upPc p (fun c => { c with l2 := c.l2.filter keep, feed := c.feed.filter keep }))
    let s4 := ((((s3.setEpochs epOpen s.epochO 0 s.epochD).count base.fcore FULLER.FOLD.COUNT).fullerEvent 3).raise srcFold)
    s4.releaseStalls.bpCheck

/-- Some dirty EPOCH unit still carries label(O + 1) (R305). -/
def Dev.labelTaken (s : Dev) : Bool :=
  s.fuller.map.any (fun u => u.2 = labelOf (nextEpoch s.epochO) && s.unitClass u.1 = clsEpoch && !s.inShadow (64 * u.1))

/-- A seal point at once, whose new S is folded at once: while the Fuller is non-durable (R316).
(DEDUCED, notes/assumptions/51.md) -/
def Dev.sealFoldedBy (s : Dev) (fin : EndBy) (ws : List Waiter) : Dev :=
  let o := s.epochO
  let s1 := ((s.setEpochs epSealing (nextEpoch o) o s.epochD).count base.fcore FULLER.SEAL.COUNT).fullerEvent 1
  s1.fold.each ws (fun s w => fin s w stOk (sealVal o (nextEpoch o)))

/-- A SEAL is taken (R304, R305, R316); `who` gets its answer at the seal point. -/
def Dev.takeSealBy (s : Dev) (fin : EndBy) (who : Waiter) : Dev :=
  if s.epState = epNone then fin s who stStateErr 0
  else if s.nonDurable && s.epState = epOpen then s.sealFoldedBy fin [who]
  else if s.epState = epOpen && s.fuller.sealAt.isSome then
    { s with fuller := { s.fuller with sealers := s.fuller.sealers ++ [who] } }
  else if s.epState = epOpen && !s.labelTaken then
    { s with fuller := { s.fuller with sealAt := some (s.now + 200), sealers := [who] } }
  else { s with fuller := { s.fuller with deferred := s.fuller.deferred ++ [who] } }

/-- Deferred SEALs reach their seal point together once S is durable or folded and label(O + 1) is free (R305). -/
def Dev.sealDeferredBy (s : Dev) (fin : EndBy) : Dev :=
  if s.epState = epOpen && s.fuller.sealAt.isNone && !s.fuller.deferred.isEmpty && (s.nonDurable || !s.labelTaken) &&
      s.rd base.pf PF.STATUS.PHASE = 0 then
    let ws := s.fuller.deferred
    let s1 : Dev := { s with fuller := { s.fuller with deferred := [] } }
    if s1.nonDurable then s1.sealFoldedBy fin ws else s1.each ws (fun s w => s.takeSealBy fin w)
  else s

/-- Dirty units of a region, or of every persistent region. -/
def Dev.flushUnits (s : Dev) (rgn : Option Nat) : List Nat :=
  (s.fuller.map.map Prod.fst).filter (fun u => match rgn with
    | some r => s.regionOfUnit u = some r
    | none => s.unitClass u != clsVolatile && !s.inShadow (64 * u))

/-- Seed units that a flush waits for (R300). -/
def Dev.flushSeeds (s : Dev) (rgn : Option Nat) : List Nat :=
  s.fuller.seeds.filter (fun u => match rgn with | some r => s.regionOfUnit u = some r | none => true)

/-- RVAL of a REGION command (R130). (DEDUCED, notes/assumptions/61.md) -/
def Dev.regionVal (s : Dev) (r : Nat) : Nat :=
  s.classOf r + (if s.flag base.rgn (RGN.ATTR.SEAL_ON_PF.at 8 r) then 4 else 0) +
  s.rd base.rgn (RGN.ATTR.MIRROR_NODE.at 8 r) * 16 + (if s.fuller.matched.contains r then 2 ^ 16 else 0) +
  (s.flushUnits (some r)).length * 2 ^ 32

/-- A flush begins; one with nothing to write, or of a VOLATILE region, ends at once (R130). While the Fuller is
non-durable it waits (R295). -/
def Dev.startFlushBy (s : Dev) (fin : EndBy) (who : Waiter) (rgn : Option Nat) : Dev :=
  let us := s.flushUnits rgn ++ s.flushSeeds rgn
  let val := match rgn with | some r => s.regionVal r | none => 0
  let vol := match rgn with | some r => decide (s.classOf r = clsVolatile) | none => false
  if vol || (us.isEmpty && !s.nonDurable) then fin s who stOk val
  else { s with fuller := { s.fuller with flushes := s.fuller.flushes ++ [⟨who, rgn, us, s.order⟩] } }

/-! ### Commands from CMD (R326) -/

/-- A command from CMD is taken: GO self-clears, RUNNING is set. -/
def Dev.takeCmd (s : Dev) : Dev := (s.put base.fcore FULLER.CMD.GO 0).put base.fcore FULLER.CMD_STATUS.RUNNING 1

/-- CMD is free: a GO is taken when no command from CMD is running, else held (R5). -/
def Dev.cmdFree (s : Dev) : Bool := !s.flag base.fcore FULLER.CMD_STATUS.RUNNING

/-- The operations of CMD: 0 SEAL, 1 FLUSH_REGION, 2 FLUSH_ALL, 3 FOLD. -/
def Dev.cmdBy (s : Dev) (fin : EndBy) (op : Nat) : Dev :=
  if !s.cmdFree then s.put base.fcore FULLER.CMD.GO 1
  else
    match op with
    | 0 => s.takeCmd.takeSealBy fin .mgmt
    | 1 =>
      let r := s.rd base.fcore FULLER.CMD.REGION
      if s.rgnValid r then s.takeCmd.startFlushBy fin .mgmt (some r) else fin s.takeCmd .mgmt stAddrErr 0
    | 2 => s.takeCmd.startFlushBy fin .mgmt none
    | _ =>
      if s.epState = epSealing then fin (s.takeCmd.fold.sealDeferredBy fin) .mgmt stOk 0
      else fin s.takeCmd .mgmt stStateErr 0

/-- A waiter's command ends; where that was one from CMD, a GO that was held is taken (R5, R326). -/
def Dev.endWaiter (s : Dev) (w : Waiter) (status val : Nat) : Dev :=
  let s1 := s.endWaiterOnce w status val
  if w = .mgmt && s1.flag base.fcore FULLER.CMD.GO then s1.cmdBy Dev.endWaiterOnce (s1.rd base.fcore FULLER.CMD.OP) else s1

def Dev.takeSeal (s : Dev) (who : Waiter) : Dev := s.takeSealBy Dev.endWaiter who
def Dev.sealFolded (s : Dev) (ws : List Waiter) : Dev := s.sealFoldedBy Dev.endWaiter ws
def Dev.sealDeferred (s : Dev) : Dev := s.sealDeferredBy Dev.endWaiter
def Dev.startFlush (s : Dev) (who : Waiter) (rgn : Option Nat) : Dev := s.startFlushBy Dev.endWaiter who rgn

/-! ### What waits for durability -/

/-- WAIT_DURABLEs for epochs that count as durable complete (R314); while the Fuller is non-durable only those at or
before d, which is the same test (R295). -/
def Dev.completeWaits (s : Dev) : Dev :=
  let done := s.fuller.waits.filter (fun w => s.epochD != 0 && atOrAfter s.epochD w.1)
  let s1 : Dev := { s with fuller := { s.fuller with waits := s.fuller.waits.filter (fun w => !done.contains w) } }
  s1.each done (fun s w => s.endWaiter w.2 stOk s.queryVal)

/-- S has nothing left to destage: its COMMIT record is issued (R313). -/
def Dev.tryCommit (s : Dev) : Dev :=
  let left := s.fuller.map.any (fun u => !s.inShadow (64 * u.1) && s.unitClass u.1 = clsEpoch && u.2 != labelOf s.epochO)
  if s.epState = epSealing && !left && s.fuller.shadow.isEmpty && s.fuller.commit.isNone && !s.nonDurable &&
      !s.pf.energyShort then
    let mask := (List.range 64).foldl (fun a r => if s.rgnValid r && s.classOf r = clsEpoch then a + 2 ^ r else a) 0
    let s1 : Dev := { s with fuller := { s.fuller with commit := some (s.epochS, BitVec.ofNat 64 mask, false) } }
    s1.issueRecord .commit (commitPayload s.epochS mask false)
  else s

/-- Flushes whose units are all durable end. -/
def Dev.endFlushes (s : Dev) : Dev :=
  if s.nonDurable then s
  else
    let done := s.fuller.flushes.filter (fun f => f.units.isEmpty)
    let s1 : Dev := { s with fuller := { s.fuller with flushes := s.fuller.flushes.filter (fun f => !f.units.isEmpty) } }
    s1.each done (fun s f => s.endWaiter f.who stOk (match f.region with | some r => s.regionVal r | none => 0))

/-- Deferred commands that the Fuller holds (R306). -/
def Dev.deferredCount (s : Dev) : Nat :=
  s.fuller.deferred.length + s.fuller.waits.length + s.fuller.flushes.length

/-- A WAIT_DURABLE (R314). -/
def Dev.waitDurable (s : Dev) (who : Waiter) (e : BitVec 32) : Dev :=
  if s.epochD != 0 && atOrAfter s.epochD e then s.endWaiter who stOk s.queryVal
  else { s with fuller := { s.fuller with waits := s.fuller.waits ++ [(e, who)] } }

/-! ### Durability (R294, R295) -/

/-- The Fuller stops being non-durable once catch-up has ended and the dirty set is below the budget (R295). -/
def Dev.endCatchUp (s : Dev) : Dev :=
  if s.nonDurable && s.fuller.catchUp = some [] && s.dirtyUnits < s.budget then
    let s1 : Dev := { s with fuller := { s.fuller with catchUp := none } }
    (((s1.putFlag base.fcore FULLER.STATUS.NONDURABLE false).fullerEvent 7).endFlushes).completeWaits
  else s

/-- The durability set is evaluated after a port changed state. While the links come up after Night the Fuller does not
count itself non-durable (R401); before the device serves there is nothing to evaluate. -/
def Dev.evalDurability (s : Dev) : Dev :=
  if s.power.linksPending || !s.started then s
  else if s.durableSet.isEmpty then
    if s.nonDurable then { s with fuller := { s.fuller with catchUp := none, jobs := [] } }
    else
      let s1 := ((s.putFlag base.fcore FULLER.STATUS.NONDURABLE true).fullerEvent 6).raise srcNondurable
      let s2 := s1.fold
      (({ s2 with fuller := { s2.fuller with jobs := [], catchUp := none } } : Dev).releaseHeld).bpCheck.sealDeferred
  else if s.nonDurable && s.fuller.catchUp.isNone then
    ({ s with fuller := { s.fuller with catchUp := some (s.fuller.map.map Prod.fst) } } : Dev).endCatchUp
  else s

/-- A destage of a unit has ended, begun at an arrival order: everything that waited for that goes on. A FLUSH is done with
the unit once it is clean, or once a destage that began after the FLUSH has made its lines durable (R130). -/
def Dev.afterDurable (s : Dev) (u began : Nat) : Dev :=
  let drop (xs : List Nat) := xs.filter (fun x => x != u)
  let clean := s.unitState u = 0
  let s1 : Dev := { s with
    fuller := { s.fuller with
      flushes := s.fuller.flushes.map (fun f => if clean || f.order ≤ began then { f with units := drop f.units } else f)
      catchUp := s.fuller.catchUp.map drop }
    batt := if clean || s.batt.began ≤ began then { s.batt with flushing := drop s.batt.flushing } else s.batt }
  (((((s1.endCatchUp).bpCheck).releaseStalls).endFlushes).tryCommit).sealDeferred

end Sys2Proof.Machine
end

