-- ==== Sys2Proof/Machine/Destage.lean ====
section
/-! DEFINITION. Destage (R292-R297, R310, R377, R380): the choice of the next unit, its reads, the blocks it becomes on
the cartridges, and its end; epochs becoming durable (R313). -/
namespace Sys2Proof.Machine

/-! ### Choosing a unit (R296, R335) -/

/-- Phases of a flush (FULLER.PF.STATUS.PHASE). -/
def pfIdle : Nat := 0
def pfDrain : Nat := 1
def pfStage0 : Nat := 2
def pfStage1 : Nat := 3
def pfStage2 : Nat := 4
def pfStage3 : Nat := 5
def pfClosing : Nat := 6
def pfSafe : Nat := 7

def Dev.pfPhase (s : Dev) : Nat := s.rd base.pf PF.STATUS.PHASE

/-- Cause of the flush: 1 PWRFAIL, 2 THALT, 3 MIDNIGHT. -/
def Dev.pfCause (s : Dev) : Nat := s.rd base.pf PF.STATUS.CAUSE

/-- The unit lies in an EPOCH region. -/
def Dev.epochUnit (s : Dev) (u : Nat) : Bool := !s.inShadow (64 * u) && s.unitClass u = clsEpoch

/-- The unit lies in an EPOCH region that a masked or full COMMIT of O in stage 2 names (R335, R341). -/
def Dev.stage2Unit (s : Dev) (u : Nat) : Bool :=
  s.epochUnit u && (s.pfCause = 3 || match s.regionOfUnit u with
    | some r => s.flag base.rgn (RGN.ATTR.SEAL_ON_PF.at 8 r)
    | none => false)

/-- The dirty unit belongs to the work of a stage of the flush (R335, R341). -/
def Dev.stageWork (s : Dev) (u : Nat) (st : BitVec 2) : Bool :=
  let ph := s.pfPhase
  let sealed := s.epState = epSealing && (s.inShadow (64 * u) || (s.epochUnit u && st != labelOf s.epochO))
  if ph = pfStage1 then sealed
  else if ph = pfStage2 then s.stage2Unit u
  else if ph = pfStage3 then !s.epochUnit u || s.stage2Unit u
  else false

/-- A Batt quiesce waits for the destage of a dirty unit: one dirty when a quiesce of the Hatboxes began, one with a line in
a quiesced quadrant, any unit for the device (R67). -/
def Dev.quiesceWaits (s : Dev) (u : Nat) : Bool :=
  s.batt.flushing.contains u || s.batt.quiesced.contains 0 ||
  s.batt.quiesced.any (fun c => decide (1 ≤ c ∧ c ≤ 4) && (List.range 64).any (fun i => quadOf (s.place (64 * u + i)).pc = c - 1))

/-- Destage of a unit is paused: the dirty set of a quiesce of the Hatboxes is durable in the old mode, and no other quiesce
waits for the unit (R67). -/
def Dev.destagePaused (s : Dev) (u : Nat) : Bool :=
  s.batt.quiesced.contains 11 && s.batt.flushing.isEmpty && s.pfPhase = pfIdle && !s.quiesceWaits u

/-- Class of a dirty unit in R296. -/
def Dev.destageClass (s : Dev) (u : Nat) (st : BitVec 2) : Nat :=
  if (s.heldEntries .cowStall).any (fun x => unitOf x.2.line = u) then 1
  else if s.inShadow (64 * u) then 2
  else if s.epochUnit u && ((s.epState = epSealing && st != labelOf s.epochO) ||
      (!s.fuller.deferred.isEmpty && st = labelOf (nextEpoch s.epochO))) then 3
  else if s.fuller.flushes.any (fun f => f.units.contains u) || s.quiesceWaits u then 4
  else 5

/-- The line is excluded from destage: array BIST has saved it (R481). -/
def Dev.lineHeld (s : Dev) (l : Nat) : Bool := (s.pc (s.place l).pc).bistHeld

/-- Units that may be chosen now: dirty, not under way, with a cartridge to go to, in the work of the stage when a
flush runs. -/
def Dev.destageCandidates (s : Dev) : List (Nat × BitVec 2) :=
  let idle := s.pfPhase = pfIdle || s.pfPhase = pfDrain
  s.fuller.map.filter (fun u => !s.fuller.jobs.any (fun j => j.unit = u.1) && (idle || s.stageWork u.1 u.2) && !s.destagePaused u.1 &&
    !(s.hbWriters u.1).isEmpty && (List.range 64).any (fun i => !s.lineHeld (64 * u.1 + i)) && (s.fuller.catchUp.isNone || (s.fuller.catchUp.getD []).contains u.1 || s.fuller.catchUp = some []))

/-- The next unit: the first class that has work, ascending from the rotating pointer (R296); during a flush ascending
within the stage. -/
def Dev.destageChoice (s : Dev) : Option (Nat × Nat) :=
  let cs := s.destageCandidates
  let idle := s.pfPhase = pfIdle || s.pfPhase = pfDrain
  if !idle then cs.head?.map (fun u => (4, u.1))
  else
    (List.range 5).findSome? (fun k =>
      let us := (cs.filter (fun u => s.destageClass u.1 u.2 = k + 1)).map Prod.fst
      match us.find? (fun u => s.fuller.ptr ≤ u) with
      | some u => some (k + 1, u)
      | none => us.head?.map (fun u => (k + 1, u)))

/-- The cap is lifted (R297). -/
def Dev.uncapped (s : Dev) : Bool :=
  s.budget * 7 / 8 ≤ s.dirtyUnits || s.fuller.map.any (fun u => let k := s.destageClass u.1 u.2; k = 1 || k = 2 || k = 4) ||
  s.fuller.waits.any (fun w => s.epochS != 0 && atOrAfter s.epochS w.1) || !s.fuller.deferred.isEmpty || s.pfPhase != pfIdle ||
  s.rd base.rung RUNG.STATUS.PHASE = 1 || s.fuller.catchUp.isSome ||
  (!s.flag base.fcore FULLER.CTL.TRICKLE_EN && s.dirtyUnits != 0)

/-- DESTAGE_START: all 64 lines of the unit are read at L2 order 4 (R292). -/
def Dev.destageStart (s : Dev) : Dev :=
  if s.durableSet.isEmpty || s.pf.energyShort || s.pfPhase = pfStage0 || s.pfPhase = pfClosing || s.pfPhase = pfSafe then s
  else
    match s.destageChoice with
    | none => s
    | some (_, u) =>
      let away := (List.range 64).filter (fun i => s.lineHeld (64 * u + i))
      let j : Destage := ⟨u, s.order, away.map (fun i => (i, 0)), [], s.epochO, [], false⟩
      let s1 : Dev := { s with fuller := { s.fuller with jobs := s.fuller.jobs ++ [j], ptr := (u + 1) % 2 ^ 25 } }
      s1.each ((List.range 64).filter (fun i => !away.contains i)) (fun s i => s.ownOp .destageRead (64 * u + i) 0)

/-! ### From lines to blocks (R377, R380) -/

/-- Code of a line read with D = 1 in a home unit: 1 for O, 2 for S (R303, R377). -/
def Dev.lineCode (s : Dev) (u : Nat) (c : Content) : Nat :=
  if s.epochUnit u && s.epState = epSealing && epochBitsOf c != labelOf s.epochO then 2 else 1

/-- E of a unit's block: O, or 0 when the device has no EPOCH region (R293). -/
def Dev.blockEpoch (s : Dev) : BitVec 32 := if s.epState = epNone then 0 else s.epochO

/-- The block of a unit from the lines a destage read. -/
def Dev.unitBlock (s : Dev) (j : Destage) : Block :=
  let dirty := j.got.filter (fun x => pendingOf x.2)
  ⟨kindVersion, 0, 0, 0, j.unit, s.blockEpoch, dirty.map (fun x => (x.1, s.lineCode j.unit x.2)),
    dirty.map (fun x => (x.1, withMark x.2 (epochBitsOf x.2) false)), []⟩

/-- A table built from pairs. -/
def tabOf {V : Type} [DecidableEq V] (d : Nat → V) (xs : List (Nat × V)) : Tab V := xs.foldl (fun t x => t.set d x.1 x.2) []

/-- Home line of copy i in the directory of a shadow block as it was read: VALID in bit 31 of entry i (R309). -/
def directoryEntry (got : Tab Content) (i : Nat) : Option Nat :=
  let e := (userOf (got.get (fun _ => 0) (60 + i / 16))).extractLsb' (32 * (i % 16)) 32
  if e.getLsbD 31 then some (e.toNat % 2 ^ 31) else none

/-- The copies of a shadow block as it was read: home line and content of each valid one. -/
def copiesOf (got : Tab Content) : List (Nat × Content) :=
  (List.range 60).filterMap (fun i => (directoryEntry got i).map (fun h => (h, got.get (fun _ => 0) i)))

/-- The blocks of a shadow block: one for each home unit, E = S, code 1 for each copy (R310, R377).
(DEDUCED, notes/assumptions/52.md) -/
def Dev.shadowBlocks (s : Dev) (j : Destage) : List Block :=
  let copies := copiesOf j.got
  let us := ((copies.map (fun c => unitOf c.1)).filter s.epochUnit).eraseDups
  us.map (fun u =>
    let mine := copies.filter (fun c => unitOf c.1 = u)
    ⟨kindVersion, 0, 0, 0, u, s.epochS, tabOf (fun _ => 0) (mine.map (fun c => (c.1 % 64, 1))),
      tabOf (fun _ => 0) (mine.map (fun c => (c.1 % 64, withMark c.2 (epochBitsOf c.2) false))), []⟩)

/-- A block from chosen lines, each with its code. -/
def mkBlock (u : Nat) (e : BitVec 32) (ls : List (Nat × Nat × Content)) : Block :=
  ⟨kindVersion, 0, 0, 0, u, e, tabOf (fun _ => 0) (ls.map (fun x => (x.1, x.2.1))), tabOf (fun _ => 0) (ls.map (fun x => (x.1, x.2.2))), []⟩

/-- The views that keep a block live (R379). -/
def Dev.views (s : Dev) : List (Option (BitVec 32)) :=
  [none] ++ (if s.epochD = 0 then [] else [some s.epochD]) ++ (if s.epState = epSealing then [some s.epochS] else [])

/-- The merge of a unit: at most three blocks in place of its live blocks and the new one (R380). -/
def Dev.mergeUnit (s : Dev) (all : List Block) (u : Nat) : List Block :=
  let rgn := s.regionOfUnit u
  let at_ (r : Option (BitVec 32)) (i : Nat) : Option (Nat × Content × BitVec 32) :=
    (winner s.pf.abandons rgn all r u i).map (fun b => (i, b.line i, (b.tag i).getD 0))
  let pick (r : Option (BitVec 32)) := (List.range 64).filterMap (at_ r)
  let latest := pick none
  if s.epochUnit u then
    let o := s.epochO
    let b1 := if s.epochD = 0 then [] else
      [mkBlock u (nextEpoch s.epochD) ((pick (some s.epochD)).map (fun x => (x.1, 2, x.2.1)))]
    let b2 := if s.epState = epSealing then
      [mkBlock u o (((pick (some s.epochS)).filter (fun x => latest.any (fun y => y.1 = x.1 && y.2.2 = o))).map
        (fun x => (x.1, 2, x.2.1)))] else []
    b1 ++ b2 ++ [mkBlock u o (latest.map (fun x => (x.1, (if x.2.2 = o then 1 else 2), x.2.1)))]
  else
    let e := latest.foldl (fun (a : BitVec 32) x => if atOrAfter x.2.2 a then x.2.2 else a) 0
    [mkBlock u e (latest.map (fun x => (x.1, 1, x.2.1)))]

/-- What a port's cartridge is given for a block of a unit, and whether that is a merge (R380). -/
def Dev.blocksFor (s : Dev) (n : Nat) (b : Block) : List Block × Bool :=
  let nb := { b with vsn := 2 ^ 63 }
  let all := nb :: (s.hbLog n).filter (fun x => x.kind = kindVersion && x.unit = b.unit)
  if 5 ≤ (liveBlocks s.pf.abandons (s.regionOfUnit b.unit) all s.views b.unit).length then (s.mergeUnit all b.unit, true)
  else ([b], false)

/-- The AES engine passes one data unit to a port, which writes it: class 1 on QID 7, the rest spread over QIDs 1-4
(R363). The job remembers the command. -/
def Dev.writeBlock (s : Dev) (u cls n : Nat) (b : Block) : Dev :=
  let cid := (s.hb n).nextCid
  let bs := s.blocksFor n b
  let s1 := s.nvmeIssue n (if cls = 1 then 7 else 1 + cid % 4) (.writeUnit b.unit bs.1)
  let s2 := if bs.2 then s1.count (base.hb n) HB.MERGE.COUNT else s1
  { s2 with
    aesLast := n
    fuller := { s2.fuller with jobs := s2.fuller.jobs.map (fun j => if j.unit = u then { j with cmds := j.cmds ++ [(n, cid)] } else j) } }

/-- The order in which the AES engine serves the data units that wait for each port: turn about while both wait, not the
port served last first (R13). -/
def aesOrder (last : Nat) : List Block → List Block → List (Nat × Block)
  | [], ys => ys.map (fun b => (1, b))
  | xs, [] => xs.map (fun b => (0, b))
  | x :: xs, y :: ys => if last = 0 then (1, y) :: (0, x) :: aesOrder last xs ys else (0, x) :: (1, y) :: aesOrder last xs ys

/-- All 64 lines are read: the unit is encrypted and written (R292, R310). -/
def Dev.destageWrite (s : Dev) (j : Destage) : Dev :=
  if s.pf.energyShort then s
  else
  let mark (x : Destage) : Destage := if x.unit = j.unit then { x with written := true } else x
  let s1 : Dev := { s with fuller := { s.fuller with jobs := s.fuller.jobs.map mark } }
  let bs := if s.inShadow (64 * j.unit) then s.shadowBlocks j else [s.unitBlock j]
  let waits (n : Nat) : List Block := bs.filter (fun b => (s.hbWriters b.unit).contains n)
  let cls := s.destageClass j.unit (s.unitState j.unit)
  s1.each (aesOrder s.aesLast (waits 0) (waits 1)) (fun s x => s.writeBlock j.unit cls x.1 x.2)

/-- A destage read has been decoded. The table lists every line read, also one whose content is zero. -/
def Dev.destageGot (s : Dev) (l : Nat) (c : Content) : Dev :=
  let u := unitOf l
  match s.fuller.jobs.find? (fun j => j.unit = u && !j.written) with
  | none => s
  | some j =>
    let j1 := { j with
      got := (j.got.filter (fun x => x.1 < l % 64)) ++ [(l % 64, c)] ++ (j.got.filter (fun x => l % 64 < x.1))
      clear := if pendingOf c then j.clear ++ [l] else j.clear }
    let s1 : Dev := { s with fuller := { s.fuller with jobs := s.fuller.jobs.map (fun x => if x.unit = u then j1 else x) } }
    if j1.got.length = 64 then s1.destageWrite j1 else s1

/-- A directory line or a copy of a shadow block is lost (R310): the fold, or a poisoned version. -/
def Dev.destageLost (s : Dev) (l : Nat) : Dev :=
  if !s.inShadow l then s
  else if 60 ≤ l % 64 then
    (({ s with fuller := { s.fuller with jobs := s.fuller.jobs.filter (fun j => j.unit != unitOf l) } } : Dev).fold)
  else (s.fullerEvent 8).raise srcCopyPoison

/-- A line of a unit is still dirty once the destage's clears have been issued: one that stays marked, or a write that
has not reached the Crown. -/
def Dev.stillDirty (s : Dev) (j : Destage) (l : Nat) : Bool :=
  (s.onLine l).any (fun e => e.changes && e.op != .clearD && e.op != .writeBack && e.op != .healWrite) ||
  (pendingOf (s.stored l) && !j.clear.contains l)

/-- DESTAGE_DURABLE: every cartridge of the durability set has completed the write; D is cleared (R292). -/
def Dev.destageDurable (s : Dev) (u : Nat) : Dev :=
  match s.fuller.jobs.find? (fun j => j.unit = u && j.written) with
  | none => s
  | some j =>
    if s.durableSet.isEmpty || j.cmds.any (fun c => s.durableSet.contains c.1 && (s.hb c.1).cmds.any (fun x => x.cid = c.2)) then s
    else
      let lines := (List.range 64).map (fun i => 64 * u + i)
      let left := lines.filter (fun l => s.stillDirty j l)
      let s1 : Dev := { s with fuller := { s.fuller with jobs := s.fuller.jobs.filter (fun x => x.unit != u) } }
      let s2 := s1.each j.clear (fun s l =>
        s.ownOp .clearD l (mkContent 0 0 false (epochBitsOf (j.got.get (fun _ => 0) (l % 64))) false))
      let shadow := s.inShadow (64 * u)
      let st : BitVec 2 :=
        if left.isEmpty then 0
        else if shadow then s.unitState u
        else if s.epochUnit u && left.all (fun l => epochBitsOf (s.stored l) = labelOf s.epochO ||
          (s.onLine l).any (fun e => labelOf e.epoch = labelOf s.epochO)) then labelOf s.epochO
        else s.unitState u
      let s3 := s2.setUnitState u st
      let s4 : Dev := if shadow && left.isEmpty then { s3 with fuller := { s3.fuller with shadow := s3.fuller.shadow.filter (fun b => b.1 != u) } } else s3
      ((s4.count base.fcore FULLER.DESTAGE_UNIT.COUNT).perf 11 noInst 1 1).afterDurable u j.order

/-! ### Seeds, seal points, commits -/

/-- SEED_ADMIT: the lowest seed unit, while the dirty set is below 7/8 of the budget (R300). -/
def Dev.seedAdmit (s : Dev) : Dev :=
  match s.fuller.seeds with
  | u :: _ => if s.dirtyUnits < s.budget * 7 / 8 then (s.admitSeed u).bpCheck else s
  | [] => s

def execSeedAdmit (s : State) : Host.Outcome State Fault Refusal := s.act Dev.seedAdmit

/-- SEAL_POINT: every controller switches its open epoch and the SEALs that share the point are answered (R304). -/
def Dev.sealPoint (s : Dev) : Dev :=
  if s.fuller.sealAt.isNone || s.epState != epOpen then s
  else
    let o := s.epochO
    let ws := s.fuller.sealers
    let s1 : Dev := { s with fuller := { s.fuller with sealAt := none, sealers := [] } }
    if s1.nonDurable then s1.sealFolded ws
    else
      let s2 := ((s1.setEpochs epSealing (nextEpoch o) o s.epochD).count base.fcore FULLER.SEAL.COUNT).fullerEvent 1
      (s2.each ws (fun s w => s.endWaiter w stOk (sealVal o (nextEpoch o)))).tryCommit

def execSealPoint (s : State) : Host.Outcome State Fault Refusal := s.act Dev.sealPoint

/-- COW_STALL_TIMEOUT: a stall that reaches COW_STALL_MAX folds S (R312). -/
def Dev.stallTimeout (s : Dev) : Dev := if s.stalled then s.fold.sealDeferred else s

def execCowStallTimeout (s : State) : Host.Outcome State Fault Refusal := s.act Dev.stallTimeout

/-- S is durable: d becomes S, the state becomes OPEN, the pool is empty (R313). -/
def Dev.sDurable (s : Dev) : Dev :=
  let s1 := (s.setEpochs epOpen s.epochO 0 s.epochS).fullerEvent 2
  let s2 : Dev := { s1 with fuller := { s1.fuller with commit := none, shadow := [] } }
  ((s2.completeWaits).releaseStalls).sealDeferred

/-- EPOCH_COMMIT_DONE: the COMMIT record of S is on every cartridge of the durability set. -/
def Dev.commitDone (s : Dev) : Dev :=
  match s.fuller.commit with
  | some (_, _, false) => if s.epState = epSealing && !s.recordPendingOn .commit then s.sDurable else s
  | _ => s

/-! ### Commands from CMD (R326) -/

def execFullerSeal (s : State) : Host.Outcome State Fault Refusal := s.act (fun s => s.cmdBy Dev.endWaiter 0)
def execFlushRegion (s : State) : Host.Outcome State Fault Refusal := s.act (fun s => s.cmdBy Dev.endWaiter 1)
def execFlushAll (s : State) : Host.Outcome State Fault Refusal := s.act (fun s => s.cmdBy Dev.endWaiter 2)
def execFullerFold (s : State) : Host.Outcome State Fault Refusal := s.act (fun s => s.cmdBy Dev.endWaiter 3)

/-- A GO in CMD starts the operation that OP names. -/
def Dev.fullerCmd (s : Dev) : Dev := s.cmdBy Dev.endWaiter (s.rd base.fcore FULLER.CMD.OP)

end Sys2Proof.Machine
end

