-- ==== Sys2Proof/Machine/Ecc.lean ====
section
/-! DEFINITION. The line code in use (R232-R246, R255-R261): erasure mode, lane repair, injection, retry, healing and
poison, and what becomes of a line that has been decoded. -/
namespace Sys2Proof.Machine

/-! ### Erasures (R233, R239, R257) -/

/-- A field of CHIP.ECC.TIERt. -/
def Dev.tierFld (s : Dev) (t : Nat) (f : Fld) : Nat := s.rd base.ecc (f.at 4 t)

/-- The erased die of a tier in erasure mode. -/
def Dev.erasedDie (s : Dev) (t : Nat) : Option Nat :=
  if s.tierFld t ECC.TIER0.ERASED = 1 then some (s.tierFld t ECC.TIER0.DIE) else none

/-- The erased lanes of a pseudo-channel. -/
def Dev.laneErased (s : Dev) (p lane : Nat) : Bool :=
  if lane < 32 then (s.pcr p PC.ERASED_LO.LANES).testBit lane else (s.pcr p PC.ERASED_HI.LANES).testBit (lane - 32)
def Dev.erasedLanes (s : Dev) (p : Nat) : List Nat := (List.range 40).filter (s.laneErased p)

def Dev.laneSyms (s : Dev) (p : Nat) : List Nat := ((s.erasedLanes p).map laneSymbols).flatten.eraseDups

/-- The erased symbols of a line of a pseudo-channel, with the die erased when its last beat arrived (R233, R240). -/
def Dev.erasedWith (s : Dev) (p : Nat) (die : Option Nat) : List Nat :=
  ((match die with | some j => dieSymbols j | none => []) ++ s.laneSyms p).eraseDups
def Dev.erasedSyms (s : Dev) (p : Nat) : List Nat := s.erasedWith p (s.erasedDie (tierOf p))

/-- A tier enters erasure mode, or its erasure moves (R239, R240); ECC_DIE_ERASE is raised at entry. -/
def Dev.enterErase (s : Dev) (t die source : Nat) : Dev :=
  let s1 := if s.tierFld t ECC.TIER0.ERASED = 1 then s else s.raise (srcDieErase t)
  ((s1.put base.ecc (ECC.TIER0.ERASED.at 4 t) 1).put base.ecc (ECC.TIER0.DIE.at 4 t) die).put base.ecc
    (ECC.TIER0.SOURCE.at 4 t) source

/-- TIER_FORCE (R239, R240). -/
def Dev.tierForce (s : Dev) (t : Nat) : Dev :=
  (s.put base.ecc (ECC.TIER0.FORCE.at 4 t) 0).enterErase t (s.tierFld t ECC.TIER0.FORCE_DIE) 2

def execTierForce (t : Fin 2) (s : State) : Host.Outcome State Fault Refusal := s.act (fun s => s.tierForce t)

/-- TIER_CLEAR (R240): die search resumes. -/
def Dev.tierClear (s : Dev) (t : Nat) : Dev :=
  (((s.put base.ecc (ECC.TIER0.CLEAR.at 4 t) 0).put base.ecc (ECC.TIER0.ERASED.at 4 t) 0).put base.ecc
    (ECC.TIER0.DIE.at 4 t) 0).put base.ecc (ECC.TIER0.SOURCE.at 4 t) 0

def execTierClear (t : Fin 2) (s : State) : Host.Outcome State Fault Refusal := s.act (fun s => s.tierClear t)

/-- DIE_SUPPLY_LOST: the supply monitor of a die reports it lost (R239). A tier already in erasure mode keeps its die;
a second lost die is beyond the code (R240). (DEDUCED, notes/assumptions/82.md) -/
def Dev.dieSupplyLost (s : Dev) (d q : Nat) : Dev :=
  let s1 := s.raise (srcDieSupply q d)
  if s1.tierFld (d / 8) ECC.TIER0.ERASED = 1 then s1 else s1.enterErase (d / 8) (d % 8) 3

def execDieSupplyLost (d : Fin 16) (q : Fin 4) (s : State) : Host.Outcome State Fault Refusal :=
  s.act (fun s => s.dieSupplyLost d q)

/-- Die-search strikes of a tier in the last millisecond (R239). -/
def Dev.dieStrikes (s : Dev) (t : Nat) : List (Nat × Nat × Nat) :=
  s.ecc.strikes.filter (fun x => x.1 = t && s.now < x.2.2 + 1000000)

/-- Die search has accepted a die: STRIKES shows the highest count, and DIE_STRIKES lines enter erasure mode (R239). -/
def Dev.dieStrike (s : Dev) (t die : Nat) : Dev :=
  let mine := (t, die, s.now) :: s.dieStrikes t
  let count (j : Nat) : Nat := (mine.filter (fun x => x.2.1 = j)).length
  let s1 : Dev := { s with ecc := { s.ecc with strikes := mine ++ s.ecc.strikes.filter (fun x => x.1 != t) } }
  let top := (List.range 8).foldl (fun a j => max a (count j)) 0
  let s2 := s1.put base.ecc (ECC.TIER0.STRIKES.at 4 t) (min 15 top)
  if max 1 (s.rd base.ecc ECC.CFG.DIE_STRIKES) ≤ count die then s2.enterErase t die 1 else s2

/-! ### The decoder's log -/

/-- An event in ECC_LOG with its line (R243 and the log's table). -/
def Dev.eccLog (s : Dev) (p code line : Nat) : Dev :=
  (s.put (base.pc p) PC.ECC_LOG_LINE.LINE line).post (base.pc p) PC.ECC_LOG.SEQ PC.ECC_LOG.EVENT code

/-- DIE and NSYM: the die with the most symbols in error, and how many symbols outside erasures. -/
def Dev.eccLogSyms (s : Dev) (p : Nat) (syms : List Nat) : Dev :=
  let count (j : Nat) : Nat := (syms.filter (fun x => x / 8 = j)).length
  let worst := (List.range 8).foldl (fun a j => if count a < count j then j else a) 0
  (s.put (base.pc p) PC.ECC_LOG.DIE worst).put (base.pc p) PC.ECC_LOG.NSYM (min 15 syms.length)

/-- Symbols that differ between two codewords. (DEDUCED, notes/assumptions/83.md) -/
def diffSyms (a b : Line) : List Nat :=
  let d := symbolsOf (a ^^^ b)
  (List.range 64).filter (fun i => d.getD i 0 != 0)

/-! ### TSV lane repair (R255-R257, R574) -/

/-- ASSIGNp and SOURCEp of LANE_REPAIR. -/
def assignFld (pair : Nat) : Fld := ⟨0x10c, 8 * pair, 4⟩
def assignSrc (pair : Nat) : Fld := ⟨0x10c, 8 * pair + 4, 2⟩

/-- The lane that a pair's spare carries. -/
def Dev.sparedLane (s : Dev) (p pair : Nat) : Option Nat :=
  let a := s.pcr p (assignFld pair)
  if a < 10 then some (10 * pair + a) else none

/-- A lane becomes an erased lane (R257). -/
def Dev.eraseLane (s : Dev) (p lane : Nat) : Dev :=
  let s1 := if lane < 32 then s.put (base.pc p) ⟨0x110, lane, 1⟩ 1 else s.put (base.pc p) ⟨0x114, lane - 32, 1⟩ 1
  (((s1.put (base.pc p) PC.ECC_LOG.LANE lane).post (base.pc p) PC.ECC_LOG.SEQ PC.ECC_LOG.EVENT 8)).raise
    (srcLaneErased (p / 32))

/-- A spare is marked failed: its pair has none (R257). -/
def Dev.spareFailed (s : Dev) (p pair : Nat) : Dev := (s.put (base.pc p) (assignFld pair) 0xE).raise (srcSpareFail (p / 32))

/-- A spare copies a lane of its die pair in the live round under way. -/
def Dev.shadowing (s : Dev) (p pair : Nat) : Bool :=
  let c := s.pc p
  (c.phase = .window || c.phase = .judged) && !c.skipPairs.getLsbD pair && s.pcr p (assignFld pair) = 0xF

/-- A lane of a pair is given up: its strikes are forgotten, a shadow in progress on the pair's spare is released and its
calibration window discarded (R256, R288). -/
def Dev.leaveRound (s : Dev) (p lane : Nat) : Dev :=
  (s.upPc p (fun c => { c with
    laneLog := c.laneLog.map (fun x => x.filter (fun l => l != lane)), skipPairs := c.skipPairs ||| (1 <<< (lane / 10)) })).when
    (s.shadowing p (lane / 10)) (fun s => s.count (base.pc p) PC.CAL_DISCARD.COUNT)

/-- A lane is declared failed (R255-R257, R574): its pair's spare takes it over, or it is erased. The pair's part of a
calibration window under way is discarded. -/
def Dev.failLane (s : Dev) (p lane source : Nat) : Dev :=
  let pair := lane / 10
  let s0 := s.leaveRound p lane
  if s.laneErased p lane then s
  else if s.sparedLane p pair = some lane then (s0.spareFailed p pair).eraseLane p lane
  else if s.pcr p (assignFld pair) = 0xF then
    let s1 := (s0.put (base.pc p) (assignFld pair) (lane % 10)).put (base.pc p) (assignSrc pair) source
    ((s1.put (base.pc p) PC.ECC_LOG.LANE lane).post (base.pc p) PC.ECC_LOG.SEQ PC.ECC_LOG.EVENT 7).raise (srcLaneRepair (p / 32))
  else s0.eraseLane p lane

/-- LANE_REPAIR_GO: ignored when the lane is already spared or erased, or is no data lane (R255). -/
def Dev.laneRepairGo (s : Dev) (p : Nat) : Dev :=
  let s1 := s.put (base.pc p) PC.ECC_CTL.REPAIR_GO 0
  let lane := s.pcr p PC.ECC_CTL.REPAIR_LANE
  if 39 < lane || s.sparedLane p (lane / 10) = some lane || s.laneErased p lane then s1 else s1.failLane p lane 3

def execLaneRepairGo (pc : Fin 128) (s : State) : Host.Outcome State Fault Refusal := s.act (fun s => s.laneRepairGo pc)

/-- The lane that carried every flipped bit of a symbol (R235, R255). -/
def blamedLane (sym diff : Nat) : Option Nat :=
  let lanes := ((List.range 10).filter (fun b => diff.testBit b)).map (fun b => 5 * (sym / 8) + (10 * (sym % 8) + b) / 16)
  match lanes with
  | [] => none
  | l :: t => if t.all (· = l) then some l else none

/-- A lane's beats come from its spare in the live round under way (R276, R288). -/
def Dev.spareCarries (s : Dev) (p lane : Nat) : Bool := (s.pc p).round / 2 = lane % 10 && s.shadowing p (lane / 10)

/-- A lane has collected LANE_STRIKES: the lane fails, or the spare whose beats it carries (R255, R288). -/
def Dev.strikeOut (s : Dev) (p lane : Nat) : Dev :=
  if s.spareCarries p lane then (s.leaveRound p lane).spareFailed p (lane / 10)
  else s.failLane p lane 2

/-- A line has been decoded: lanes blamed in LANE_STRIKES of 64 consecutive lines are failed (R255). -/
def Dev.laneStrikes (s : Dev) (p : Nat) (diff : Line) (syms : List Nat) : Dev :=
  let ds := symbolsOf diff
  let blamed := (syms.filterMap (fun x => blamedLane x (ds.getD x 0))).eraseDups
  let log := blamed :: (s.pc p).laneLog.take 63
  let s1 := s.upPc p (fun c => { c with laneLog := log })
  let limit := max 1 (s.pcr p PC.ECC_CFG.LANE_STRIKES)
  s1.each (blamed.filter (fun l => limit ≤ (log.filter (fun x => x.contains l)).length)) (fun s l => s.strikeOut p l)

/-! ### Decoding one line (R236-R238) -/

/-- The decoder, for a line whose tier had a die erased, or none, when its last beat arrived (R240). -/
def Dev.decodeLine (s : Dev) (p : Nat) (die : Option Nat) (raw : Line) : Option Decoded :=
  match decodeWith raw (s.erasedWith p die) with
  | some d => some d
  | none => if die.isSome then none else dieSearch raw (s.laneSyms p)

/-- Symbols changed outside erasures. -/
def Dev.corrections (s : Dev) (p : Nat) (die : Option Nat) (d : Decoded) : List Nat :=
  d.changed.filter (fun x => !(s.erasedWith p die).contains x)

/-- RVAL[0] of R237. -/
def Dev.corrected (s : Dev) (p : Nat) (die : Option Nat) (d : Decoded) : Bool :=
  !(s.corrections p die d).isEmpty || d.search.isSome

/-- Path of R236: 0 SHORT, 1 LONG. -/
def Dev.pathOf (s : Dev) (p : Nat) (d : Decoded) : Nat :=
  if (s.erasedSyms p).isEmpty && d.changed.length ≤ 2 && d.search.isNone then 0 else 1

/-! ### Injection (R260, R261) -/

/-- The mask of an armed injection of a stage on a line. -/
def Dev.injMask (s : Dev) (stage : BitVec 2) (line : Nat) : Option Line :=
  match s.ecc.inj with
  | some (st, l, m) => if st = stage ∧ l = line then some m else none
  | none => none

/-- The armed injection fires. -/
def Dev.injFire (s : Dev) (path : Nat) : Dev :=
  let s1 : Dev := { s with ecc := { s.ecc with inj := none, hit := s.ecc.inj } }
  ((((s1.put base.ecc ECC.INJ_STATUS.FIRED 1).put base.ecc ECC.INJ_STATUS.PATH path).put base.ecc
    ECC.INJ_STATUS.RETRY_OK 0).put base.ecc ECC.INJ_STATUS.RESULT 0).bump base.ecc ECC.INJ_STATUS.SEQ

/-- An armed injection ends unfired with RESULT CANCELLED. -/
def Dev.injCancel (s : Dev) : Dev :=
  if s.ecc.inj.isNone then s
  else
    let s1 : Dev := { s with ecc := { s.ecc with inj := none } }
    ((((s1.put base.ecc ECC.INJ_STATUS.FIRED 0).put base.ecc ECC.INJ_STATUS.PATH 0).put base.ecc
      ECC.INJ_STATUS.RETRY_OK 0).put base.ecc ECC.INJ_STATUS.RESULT 2).bump base.ecc ECC.INJ_STATUS.SEQ

/-- INJ_ARM (R260). -/
def Dev.injArm (s : Dev) : Dev :=
  let s0 := s.put base.ecc ECC.INJ_CTL.ARM 0
  let stage := s.rd base.ecc ECC.INJ_CTL.STAGE
  if stage = 3 then (s0.put base.ecc ECC.INJ_STATUS.RESULT 1).bump base.ecc ECC.INJ_STATUS.SEQ
  else
    let s1 := s0.injCancel
    let line := (s.rd base.ecc ECC.INJ_ADDR_LO.ADDR + s.rd base.ecc ECC.INJ_ADDR_HI.ADDR * 2 ^ 32) / 64
    { s1 with ecc := { s1.ecc with inj := some (BitVec.ofNat 2 stage, line, BitVec.ofNat 640 (s.wideOf base.ecc 1)) } }

def execInjArm (s : State) : Host.Outcome State Fault Refusal := s.act Dev.injArm

/-- The fired injection concerns a line. -/
def Dev.hitOf (s : Dev) (line : Nat) : Option (BitVec 2 × Line) :=
  match s.ecc.hit with
  | some (st, l, m) => if l = line then some (st, m) else none
  | none => none

/-- The outcome of an injected line is settled. -/
def Dev.hitDone (s : Dev) (line : Nat) : Dev :=
  if (s.hitOf line).isSome then { s with ecc := { s.ecc with hit := none } } else s

/-- The line as it was meant to be stored. -/
def Dev.meant (s : Dev) (line : Nat) : Line :=
  let w := s.lineAt (s.keyOf line)
  match s.hitOf line with
  | some (st, m) => if st = 0 then w ^^^ m else w
  | none => w

/-- FORCED and REAL of a report on a line (R261); `again`: its retry has failed too. -/
def Dev.forcedReal (s : Dev) (line : Nat) (raw : Line) (again : Bool) : Bool × Bool :=
  match s.hitOf line with
  | none => (false, true)
  | some (st, m) =>
    let touched := diffSyms m 0
    (true, (diffSyms raw (s.meant line)).any (fun x => !touched.contains x) || (again && st != 0))

/-! ### Reports (R461) -/

def Op.access (o : Op) (opc : BitVec 5) : Nat :=
  match o with
  | .read => 1
  | .fullWrite => 2
  | .merge => if opc = opcAtom then 4 else 3
  | .tagOp => 5
  | .debugRead => 15
  | .restoreWrite => 11
  | .healWrite => 12
  | .poisonWrite => 15
  | .cowRead | .cowCopy => 10
  | .mirrorWrite => 13
  | .destageRead | .clearD | .seedWrite => 9
  | .resyncRead => 13
  | .carderRead | .revisitRead | .writeBack => 8

/-- MASTER of a queued operation: a fabric node, or a device agent (1 Carder, 2 Fuller). -/
def Entry.master (e : Entry) : Nat :=
  match e.port with
  | some _ => 0x4000 + e.req.src.toNat
  | none => match e.op with
    | .carderRead | .revisitRead | .writeBack => 1
    | _ => 2

/-- Global address of a line of the device (R34). -/
def Dev.globalOf (s : Dev) (line : Nat) : BitVec 49 := BitVec.ofNat 49 (s.node * 2 ^ 37 + line * 64)

def Dev.lineInfo (s : Dev) (e : Entry) (fr : Bool × Bool) : FaultInfo :=
  ⟨fr.1, fr.2, some (s.globalOf e.line), BitVec.ofNat 4 (e.op.access e.opc), BitVec.ofNat 16 e.master⟩

/-! ### DBG line read (R556, R557) -/

/-- The unit has not been restored yet (R349). -/
def Dev.unrestored (s : Dev) (u : Nat) : Bool :=
  s.pf.restoring && !(s.pf.restored.get (fun _ => false) u) &&
    (s.pf.bulkPtr ≤ u || s.pf.faultIns.contains u || s.pf.writing.contains u)

/-- A DBG line read ends with a result. -/
def Dev.debugEnd (s : Dev) (result : Nat) : Dev :=
  ({ s with dbgBusy := false }.put base.line LINE.STATUS.RESULT result).bump base.line LINE.STATUS.SEQ

/-- A GO in DBG.LINE.CTL is taken, or held while a read is in progress (R556, R557). -/
def Dev.debugStart (s : Dev) : Dev :=
  if s.dbgBusy then s.put base.line LINE.CTL.GO 1
  else
    let s1 := s.put base.line LINE.CTL.GO 0
    let line := (s.rd base.line LINE.ADDR_LO.ADDR + s.rd base.line LINE.ADDR_HI.ADDR * 2 ^ 32) / 64
    let p := (s.place line).pc
    if s.item itDebugRead 0 = 0 then s1.debugEnd 4
    else if !s.pcServes p then s1.debugEnd 5
    else
      let n := s1.nextOrder
      { n.2 with dbgBusy := true }.placeRead p (ownEntry .debugRead line n.1 0)

/-- The line of a DBG read has come: DECODED, RAW, META, NSYM and RESULT. (DEDUCED, notes/assumptions/70.md) -/
def Dev.debugDone (s : Dev) (p line : Nat) (raw : Line) (d : Option Decoded) : Dev :=
  let c := match d with | some x => contentOf x.line | none => contentOf raw
  let n := match d with | some x => (s.corrections p (s.erasedDie (tierOf p)) x).length | none => 0
  let result := if s.unrestored (unitOf line) then 3
    else match d with
      | none => 2
      | some x => if s.corrected p (s.erasedDie (tierOf p)) x then 1 else 0
  let s1 := (s.setWide base.line 1 c.toNat).setWide base.line 2 raw.toNat
  let s2 := ((s1.put base.line LINE.STATUS.META (metaOf c).toNat).put base.line LINE.STATUS.NSYM (min 15 n)).debugEnd result
  if s2.flag base.line LINE.CTL.GO then s2.debugStart else s2

/-! ### Delivery of a decoded line -/

/-- The new line of a read-modify-write goes to the write queue, in its reserved entry (R203); what its members are told
waits for a mirror where there is one. -/
def Dev.storeMerged (s : Dev) (p : Nat) (e : Entry) (c : Content) : Dev :=
  let w : Entry := { e with op := .merge, opc := 0, data := c, hold := .none, answered := true, port := none, retryOf := none }
  s.upPc p (fun k => { k with wq := k.wq ++ [w] })

/-- A read-modify-write whose copy cannot be placed waits in the write queue (R141); its line is read again when the hold
ends (R298, R311). -/
def Dev.holdRead (s : Dev) (p : Nat) (e : Entry) (h : Hold) : Dev :=
  (s.upPc p (fun c => { c with wq := c.wq ++ [{ e with hold := h, retryOf := none }] })).when (h = .cowStall) Dev.beginStall

/-- The copy of a lost line: P = 1, user bits zero, belonging to S (R308). -/
def Dev.lostCopy (s : Dev) : Content := mkContent 0 0 true (labelOf s.epochS) true

/-- What a copy-on-write needs of a line before it changes: nothing, the copy stored, or a hold. -/
def Dev.copyFirst (s : Dev) (line : Nat) (c : Content) (lost : Bool) : CopyRes :=
  if lost && s.cowReads line then
    match s.placeCopy line s.lostCopy with
    | .placed d => .placed ((d.fullerEvent 8).raise srcCopyPoison)
    | r => r
  else if s.copyNeeded line c then s.placeCopy line c
  else .placed s

/-- A merge entry is retired with the line its read delivered (R203-R205). -/
def Dev.retireMerge (s : Dev) (p : Nat) (e : Entry) (c : Content) (lost : Bool) : Dev :=
  match (s.pc p).mergeBuf.find? (fun m => m.line = e.line && m.readIssued) with
  | none => s
  | some m =>
    match s.copyFirst e.line c lost with
    | .stall => s.holdRead p e .cowStall
    | .overBudget => s.holdRead p e .backPressure
    | .placed s1 =>
      let run := m.members.foldl (fun (a : Content × List (Entry × Rsp)) x =>
        let r := memberEffect a.1 x
        (r.1, a.2 ++ [(x, r.2)])) (c, [])
      let s2 := (s1.upPc p (fun k => { k with mergeBuf := k.mergeBuf.erase m })).count (base.pc p) PC.RMW.COUNT
      let last := m.members.getLast?.getD e
      let s3 :=
        if poisonOf c then s2
        else if m.superseded then s2.wasted p
        else s2.storeMerged p { e with epoch := last.epoch } run.1
      (s3.finishAll e.line run.2).drainMergeWait p

/-- A tag operation executes on its line (R126). -/
def Dev.runTag (s : Dev) (p : Nat) (e : Entry) (c : Content) (lost : Bool) : Dev :=
  let r := tagEffect c e
  if !e.changes then s.respondEntry e r.2
  else
    match s.copyFirst e.line c lost with
    | .stall => s.holdRead p e .cowStall
    | .overBudget => s.holdRead p e .backPressure
    | .placed s1 => (s1.storeMerged p e r.1).finish e r.2

/-- The copy-on-write read of a held host write (R307, R308, R311). -/
def Dev.cowArrives (s : Dev) (p : Nat) (e : Entry) (c : Content) (lost : Bool) : Dev :=
  match (s.pc p).wq.find? (fun w => w.line = e.line && w.order = e.order && w.hold = .copyRead) with
  | none => s
  | some w =>
    match s.copyFirst e.line c lost with
    | .stall => (s.setHold p w .cowStall).beginStall
    | .overBudget => s.setHold p w .backPressure
    | .placed s0 =>
      let s1 := if lost || s.copyNeeded e.line c then s0 else s0.wasted p
      if w.op = .mirrorWrite then (s1.dropEntry p w).storeMirror w
      else
        let s2 := s1.setHold p w .none
        let n := s2.projectedTo w.line w.order
        s2.finish w (Rsp.tags (tagsOf n) 0)

/-- A decoded line reaches the operation that read it. `fixed` is RVAL[0] of R237; `lost`: the line was uncorrectable
and stands poisoned. -/
def Dev.deliver (s : Dev) (p : Nat) (e : Entry) (c : Content) (fixed lost : Bool) : Dev :=
  match e.op with
  | .read =>
    if poisonOf c then s.respondEntry e (Rsp.code stPoisoned)
    else s.respondEntry e ⟨stOk, tagsOf c, 0,
      BitVec.ofNat 64 (fixed.toNat + 2 * (s.erasedDie (tierOf p)).isSome.toNat), some (userOf c)⟩
  | .merge => s.retireMerge p e c lost
  | .tagOp => s.runTag p e c lost
  | .cowRead => s.cowArrives p e c lost
  | .destageRead => (s.when lost (fun s => s.destageLost e.line)).destageGot e.line c
  | .seedWrite => s.enterL2 p (ownEntry .clearD e.line e.order e.data)
  | .resyncRead => s.resyncRead e c
  | _ => s

/-! ### Poison and heal (R243-R246) -/

/-- A change of the line has been accepted after the operation. -/
def Dev.changedSince (s : Dev) (line order : Nat) : Bool :=
  (s.doings (s.place line).pc).any (fun o => o.line = line && order < o.order && o.changes)

/-- A full-line write of the line has been accepted after the operation (R245). -/
def Dev.overwrittenSince (s : Dev) (line order : Nat) : Bool :=
  (s.doings (s.place line).pc).any (fun o => o.line = line && order < o.order && (o.op = .fullWrite || o.op = .mirrorWrite))

/-- The content of a poisoned line (R246). -/
def Dev.poisoned (s : Dev) (line : Nat) : Content :=
  let m := s.markOf line s.epochO
  mkContent 0 0 true m.1 m.2

/-- A line is poisoned (R246); `skip`: a write to it has been accepted, so no poison write is issued. -/
def Dev.poison (s : Dev) (p : Nat) (e : Entry) (line order : Nat) (skip : Bool) : Dev :=
  let s1 := ((s.count (base.pc p) PC.POISONED.COUNT).eccLog p 5 line).signal (srcEccPoison (p / 32)) (s.lineInfo e (false, true))
  let s2 := (s1.dirtyUnit line s1.epochO).keepDirty line
  if skip then s2 else s2.feedL2 { ownEntry .poisonWrite line order (s2.poisoned line) with epoch := s2.epochO }

/-- A line counts as dirty for R243: its unit is, or the retry's raw symbol 51 says so or is unreadable. -/
def Dev.lineDirty (s : Dev) (p line : Nat) (raw : Line) (first51 : BitVec 10) : Bool :=
  if s.unitState (unitOf line) = 0 then false
  else (s.erasedSyms p).contains 51 || raw.extractLsb' 510 10 != first51 || raw.getLsbD 519

/-- The Fuller holds the line's durable value on a Hatbox that is reachable (R243, R323). -/
def Dev.healCopy (s : Dev) (line : Nat) : Option Content :=
  if s.nonDurable then none
  else match s.hbReaders (unitOf line) with
    | n :: _ => s.hbView n none (unitOf line) (line % 64)
    | [] => none

/-- A heal takes its entry and asks the Fuller for the copy (R244, R323). -/
def Dev.openHeal (s : Dev) (h : Heal) : Dev :=
  let u := unitOf h.line
  let s1 : Dev := { s with ecc := { s.ecc with heals := s.ecc.heals ++ [{ h with startedAt := s.now }] } }
  match s.hbReaders u with
  | n :: _ => (s1.nvmeIssue n 6 (.read u (some h.line))).count base.fcore FULLER.HEAL_READ.COUNT
  | [] => s1

/-- Reads by the Carder: nobody waits for their line. -/
def Op.carder (o : Op) : Bool := o = .carderRead || o = .revisitRead

/-- A line is to be healed: it takes an entry, or waits for one, and a line of the Carder's then holds its walk (R244).
Retries of the line wait for the heal as well (R245). -/
def Dev.heal (s : Dev) (p : Nat) (e : Entry) : Dev :=
  let again := (s.pc p).retryQ.filter (fun x => x.line = e.line)
  let w := ((e :: again).filter (fun x => !x.op.carder)).map (fun x => { x with retryOf := none })
  let h : Heal := ⟨e.line, w, e.order, s.overwrittenSince e.line e.order, s.now⟩
  let s0 := s.upPc p (fun c => { c with retryQ := c.retryQ.filter (fun x => x.line != e.line) })
  if s.ecc.heals.length < 64 then s0.openHeal h
  else
    let s1 : Dev := { s0 with ecc := { s0.ecc with healWait := s0.ecc.healWait ++ [h] } }
    if e.op.carder then s1.upPc p (fun c => { c with healHold := c.healHold ++ [e.line] }) else s1

/-- A line is still uncorrectable after its retry (R243). -/
def Dev.uncorrectable (s : Dev) (p : Nat) (e : Entry) (raw : Line) (first51 : BitVec 10) : Dev :=
  let fr := s.forcedReal e.line raw true
  let syms := (diffSyms raw (s.meant e.line)).filter (fun x => !(s.erasedSyms p).contains x)
  let s1 := (((s.count (base.pc p) PC.UE_LINE.COUNT).eccLogSyms p syms).eccLog p 3 e.line).signal (srcEccUe (p / 32))
    (s.lineInfo e fr)
  let s2 := s1.hitDone e.line
  let cls := s2.lineClass e.line
  if !s2.lineDirty p e.line raw first51 && cls != clsVolatile && !s2.inShadow e.line && (s2.healCopy e.line).isSome then
    s2.heal p e
  else
    let own := e.op = .tagOp && e.changes
    let s3 := s2.poison p e e.line e.order (own || s2.changedSince e.line e.order)
    s3.deliver p e (s2.poisoned e.line) false true

/-- The next line that waits for an entry of the heal table takes it. -/
def Dev.nextHeal (s : Dev) : Dev :=
  match s.ecc.healWait with
  | [] => s
  | h :: t =>
    let s1 := ({ s with ecc := { s.ecc with healWait := t } } : Dev).openHeal h
    s1.upPc (s.place h.line).pc (fun c => { c with healHold := c.healHold.filter (fun l => l != h.line) })

/-- Reads of a healing line that arrived before a newer full write: they are answered from the healed copy (R245). -/
def Dev.healReads (s : Dev) (p line : Nat) : List Entry :=
  let c := s.pc p
  let first := (c.wq.filter (fun e => e.line = line && e.op = .fullWrite)).map Entry.order
  (c.l0 ++ c.l1 ++ c.l2).filter (fun e => e.line = line && e.op.takesRead && first.any (fun n => e.order < n))

/-- A heal ends with its copy, or fails (R244, R245). -/
def Dev.healEnd (s : Dev) (line : Nat) (copy : Option Content) : Dev :=
  match s.ecc.heals.find? (fun h => h.line = line) with
  | none => s
  | some h =>
    let p := (s.place line).pc
    let s1 : Dev := { s with ecc := { s.ecc with heals := s.ecc.heals.erase h } }
    let late := if h.overwritten then s1.healReads p line else []
    let s2 := s1.upPc p (fun c =>
      let keep (e : Entry) : Bool := !late.contains e
      { c with l0 := c.l0.filter keep, l1 := c.l1.filter keep, l2 := c.l2.filter keep })
    let who := sortBy (fun a b => a.order ≤ b.order) (h.waiters ++ late)
    let done :=
      match copy with
      | some c =>
        let c0 := withMark c (epochBitsOf c) false
        let s3 := ((s2.count (base.pc p) PC.HEALED.COUNT).eccLog p 4 line)
        let s4 := if h.overwritten then s3 else s3.feedL2 (ownEntry .healWrite line h.order c0)
        s4.each who (fun s e => s.deliver p e c0 false false)
      | none =>
        let s3 := s2.eccLog p 6 line
        let lead := (h.waiters.head?).getD (ownEntry .carderRead line h.order 0)
        let s4 := s3.poison p lead line h.order h.overwritten
        s4.each who (fun s e => s.deliver p e (s3.poisoned line) false true)
    done.nextHeal

/-- HEAL_COPY_DELIVERED: the Fuller delivers the Hatbox copy. (DEDUCED, notes/assumptions/71.md) -/
def Dev.healDelivered (s : Dev) (line : Nat) : Dev :=
  let drop (c : NvmeCmd) : Bool := match c.op with | .read _ (some l) => l != line | _ => true
  if (s.ecc.heals.find? (fun h => h.line = line)).isNone then s
  else
    let s1 := s.each [0, 1] (fun s n => s.upHb n (fun h => { h with cmds := h.cmds.filter drop }))
    s1.healEnd line (s.healCopy line)

def execHealCopyDelivered (line : BitVec 31) (s : State) : Host.Outcome State Fault Refusal :=
  s.act (fun s => s.healDelivered line.toNat)

def execHealTimeout (line : BitVec 31) (s : State) : Host.Outcome State Fault Refusal :=
  s.act (fun s => s.healEnd line.toNat none)

/-! ### Retry and the inline decoder (R241, R242) -/

/-- A line found uncorrectable is read once more, as the next command to its bank, at the class of its read (R242). -/
def Dev.retry (s : Dev) (p : Nat) (e : Entry) (raw : Line) : Dev :=
  s.upPc p (fun c => { c with retryQ := c.retryQ ++ [{ e with retryOf := some (raw.extractLsb' 510 10) }] })

/-- A line that any read but the Carder's needed correcting enters the revisit queue (R250). -/
def Dev.revisit (s : Dev) (p line : Nat) : Dev :=
  if !s.flag (base.pc p) PC.ECC_CFG.REVISIT_EN || (s.pc p).revisitQ.contains line then s
  else if (s.pc p).revisitQ.length < 8 then s.upPc p (fun c => { c with revisitQ := c.revisitQ ++ [line] })
  else s.count (base.pc p) PC.REVISIT_DROP.COUNT

/-- What a good decode counts: CE_LINE, DIE_SYMERRj, die-search and lane strikes. -/
def Dev.countDecode (s : Dev) (p : Nat) (die : Option Nat) (raw : Line) (d : Decoded) : Dev :=
  let syms := s.corrections p die d
  let s1 := if s.corrected p die d then s.count (base.pc p) PC.CE_LINE.COUNT else s
  let s2 := s1.each syms (fun s x => s.count (base.pc p) (PC.DIE_SYMERR.COUNT.at 4 (x / 8)))
  let s3 := match d.search with | some j => s2.dieStrike (tierOf p) j | none => s2
  s3.laneStrikes p (raw ^^^ d.line) syms

/-- A line passes the inline decoder for an operation; `out` is the mask of an OUTPUT injection. -/
def Dev.decodeInline (s : Dev) (p : Nat) (e : Entry) (raw : Line) (injected : Bool) : Dev :=
  let die := s.erasedDie (tierOf p)
  let d := s.decodeLine p die raw
  let (s0, out, bad) :=
    match d, s.injMask 2 e.line with
    | some x, some m =>
      let y := x.line ^^^ m
      let bad := decide (encodeLine (contentOf y) ≠ y)
      (s.injFire (if bad then 3 else s.pathOf p x), some { x with line := y }, bad)
    | _, _ => (if injected then s.injFire (match d with | some x => s.pathOf p x | none => 2) else s, d, false)
  let s1 := if bad && e.op != .debugRead then
      s0.signal (srcEccChecker (p / 32)) (s0.lineInfo e (s0.forcedReal e.line raw false)) else s0
  let good := if bad then none else out
  if e.op = .debugRead then s1.debugDone p e.line raw good
  else
    match good, e.retryOf with
    | some x, first =>
      let s2 := s1.countDecode p die raw x
      let s3 := match first with
        | none => s2
        | some _ =>
          let s3 := (((s2.count (base.pc p) PC.RETRY_OK.COUNT).eccLog p 2 e.line)).wasted p
          if (s3.hitOf e.line).isSome then s3.put base.ecc ECC.INJ_STATUS.RETRY_OK 1 else s3
      let s4 := match s3.hitOf e.line with
        | some (st, _) => if st = 0 then s3 else s3.hitDone e.line
        | none => s3
      let s5 := if s.corrected p die x && !e.op.carder then s4.revisit p e.line else s4
      s5.deliver p { e with retryOf := none } (contentOf x.line) (s.corrected p die x) false
    | none, none => s1.retry p e raw
    | none, some f => s1.uncorrectable p e raw f

/-! ### Carder decode (R248, R249, R253) -/

/-- A candidate enters the FIFO (R253). -/
def Dev.candidate (s : Dev) (k : Candidate) : Dev :=
  if s.ecc.cands.contains k then s
  else if s.ecc.cands.length < 64 then { s with ecc := { s.ecc with cands := s.ecc.cands ++ [k] } }
  else s.count base.ecc ECC.CAND_DROP.COUNT

/-- The value listed for a candidate. -/
def strikesOf (xs : List (Candidate × List Nat)) (k : Candidate) : List Nat :=
  match xs.find? (fun x => x.1 = k) with | some x => x.2 | none => []
def setStrikes (xs : List (Candidate × List Nat)) (k : Candidate) (v : List Nat) : List (Candidate × List Nat) :=
  (xs.filter (fun x => x.1 != k)) ++ [(k, v)]

/-- Symbol errors on a die in a line that the Carder or a revisit read (R253). -/
def Dev.dieErrors (s : Dev) (p line visit die : Nat) : Dev :=
  let pl := s.place line
  let d := 8 * tierOf p + die
  let row : Candidate := ⟨d, p, pl.bank, false, pl.row⟩
  let col : Candidate := ⟨d, p, pl.bank, true, pl.col⟩
  let rs := (strikesOf s.ecc.rowStrikes row)
  let rs1 := if rs.contains visit then rs else rs ++ [visit]
  let cs := (strikesOf s.ecc.colStrikes col)
  let cs1 := if cs.contains pl.row then cs else cs ++ [pl.row]
  let s1 : Dev := { s with ecc := { s.ecc with
    rowStrikes := setStrikes s.ecc.rowStrikes row rs1, colStrikes := setStrikes s.ecc.colStrikes col cs1 } }
  let s2 := if max 1 (s.rd base.ecc ECC.CFG.ROW_STRIKES) ≤ rs1.length then s1.candidate row else s1
  if max 1 (s.rd base.ecc ECC.CFG.COL_STRIKES) ≤ cs1.length then s2.candidate col else s2

/-- Attribution of the symbol errors of a Carder line to rows and columns. -/
def Dev.attribute (s : Dev) (p : Nat) (e : Entry) (syms : List Nat) : Dev :=
  s.each ((syms.map (· / 8)).eraseDups) (fun s j => s.dieErrors p e.line e.epoch.toNat j)

/-- The QME decodes one line of the Carder decode queue (R248, R249), with the erasure that was in force when it came
(R240). -/
def Dev.carderDecode (s : Dev) (p : Nat) (f : InFlight) : Dev :=
  let e := f.entry
  match s.decodeLine p f.die f.raw with
  | none =>
    let syms := (diffSyms f.raw (s.meant e.line)).filter (fun x => !(s.erasedWith p f.die).contains x)
    (s.attribute p e syms).retry p e f.raw
  | some d =>
    let syms := s.corrections p f.die d
    let s1 := ((s.countDecode p f.die f.raw d).attribute p e syms)
    let s2 := if s.corrected p f.die d then (s1.eccLogSyms p syms).eccLog p 1 e.line else s1
    let s3 := match s2.hitOf e.line with
      | some (st, _) => if st = 0 then s2 else s2.hitDone e.line
      | none => s2
    if !s.corrected p f.die d || !s.flag (base.pc p) PC.ECC_CFG.WB_EN then s3
    else if !e.answered then (s3.count (base.pc p) PC.WB_DROP.COUNT).wasted p
    else s3.ownOp .writeBack e.line (contentOf d.line)

/-- A page of the walk has been read when all its lines have (R247, R248): the pointer moves. -/
def Dev.pageDone (s : Dev) (p : Nat) : Dev :=
  let c := s.pc p
  if c.pageRead = 32 && !(c.l2 ++ c.feed ++ c.inFlight.map InFlight.entry).any (fun e => e.op = .carderRead && e.retryOf.isNone) then
    let n := s.pcr p PC.CARDER.WALK_PTR + 1
    let s1 := s.setPc p { c with pageRead := 0, pagesDue := c.pagesDue - 1 }
    let s2 := s1.put (base.pc p) PC.CARDER.WALK_PTR (n % 524288)
    let s3 := if n = 524288 then s2.count (base.pc p) PC.CARDER_WALKS.COUNT else s2
    if c.pagesDue ≤ 1 then s3.put (base.pc p) PC.CARDER.LAG 0 else s3
  else s

/-- A Carder read has come: only its syndrome is looked at (R248). -/
def Dev.carderArrives (s : Dev) (p : Nat) (e : Entry) (raw : Line) (injected : Bool) : Dev :=
  let die := s.erasedDie (tierOf p)
  let clean := (rsSyndromes 12 (symbolsOf raw)).all (· = 0)
  let s0 := if injected then s.injFire (match s.decodeLine p die raw with | some x => s.pathOf p x | none => 2) else s
  if clean then s0.pageDone p else (s0.upPc p (fun c => { c with decodeQ := c.decodeQ ++ [⟨e, raw, die⟩] })).pageDone p

/-- LINE_DECODE: the oldest line in flight, with what happened to it on the way, is decoded.
(DESIGN CHOICE, notes/assumptions/6.md) -/
def Dev.lineDecode (s : Dev) (p : Nat) (noise : Line) : Dev :=
  match (s.pc p).inFlight with
  | [] => s
  | f :: rest =>
    let s1 := s.upPc p (fun c => { c with inFlight := rest })
    let m := s1.injMask 1 f.entry.line
    let raw := f.raw ^^^ noise ^^^ m.getD 0
    let carder := f.entry.op.carder && f.entry.retryOf.isNone
    if carder then s1.carderArrives p f.entry raw m.isSome else s1.decodeInline p f.entry raw m.isSome

def execLineDecode (pc : Fin 128) (noise : BitVec 640) (s : State) : Host.Outcome State Fault Refusal :=
  s.act (fun s => s.lineDecode pc noise)

end Sys2Proof.Machine
end

