-- ==== Sys2Proof/Machine/Refresh.lean ====
section
/-! DEFINITION. Refresh (R213-R231): debt, due points, the refresh decisions of a controller, the bands and the forced
make-up. -/
namespace Sys2Proof.Machine

/-! ### Debt (R215, R216) -/

/-- Bank at a position of the due order (R215): bank group k mod 4, bank k / 4. -/
def dueBank (k : Nat) : Nat := 8 * (k % 4) + k / 4 % 8

/-- A bank's debt changes; MAXDEBT keeps the highest. -/
def Dev.setDebt (s : Dev) (p b v : Nat) : Dev :=
  let s1 := s.put (base.pc p) (debtFld b) (min v 31)
  if s.pcr p PC.REF_STATUS.MAXDEBT < v then s1.put (base.pc p) PC.REF_STATUS.MAXDEBT (min v 31) else s1

def Dev.refEvent (s : Dev) (p code : Nat) : Dev := s.post (base.pc p) PC.REF_STATUS.SEQ PC.REF_STATUS.EVENT code

/-! ### Rungs -/

/-- Rungs (PWR.RUNG.STATUS.RUNG). -/
def rungNoon : Nat := 0
def rungDusk : Nat := 1
def rungNight : Nat := 2
def rungMidnight : Nat := 3

def Dev.rung (s : Dev) : Nat := s.rd base.rung RUNG.STATUS.RUNG

/-- The core dies are in self-refresh, or without their supplies: the controllers refresh nothing (R229, R230). -/
def Dev.selfRefresh (s : Dev) : Bool := s.rung = rungNight || !s.power.crownOn

/-! ### Refresh commands -/

/-- Banks being refreshed. -/
def Pc.refreshing (c : Pc) : Nat := ((List.range 32).filter (fun b => (c.bank b).st = .refreshing)).length

/-- A REFpb (groups 1, not a make-up) or a REFmu goes to a bank at a moment. -/
def Dev.issueRef (s : Dev) (p b groups : Nat) (mu : Bool) (t : Nat) : Dev :=
  let s1 := s.upPc p (fun c => { c.upBank b (fun k => { k with
      st := .refreshing, closedBy := if mu then .refmu else .refpb, closedAt := t, actNext := s.l0Waits p b, l0Row := false }) with
    muInFlight := if mu then some b else c.muInFlight, patOwed := 16 })
  let s2 := (s1.setDebt p b (s.debt p b - groups)).qperf p 0x0D
  let s3 := if mu then s2.count (base.pc p) PC.REF_MU_CMD.COUNT else s2
  s3.each ((s.pc p).l0.filter (fun e => s.bankOf e = b)) (fun s _ => s.count (base.pc p) PC.REF_L0_WAIT.COUNT)

/-- A refresh command may go to a bank at a moment (R214); a retry that waits is its next command (R242). -/
def Dev.refOk (s : Dev) (p b : Nat) (mu : Bool) (t : Nat) : Bool :=
  let k := (s.pc p).bank b
  k.st = .idle && s.freeFrom p k ≤ t && (s.pc p).refreshing < 4 && (!mu || (s.pc p).muInFlight.isNone) && !s.retryDue p b

/-- First moment at which fewer than four other banks are being refreshed (R214). -/
def Dev.refPlace (s : Dev) (p b : Nat) : Nat :=
  let ends := ((List.range 32).filter (fun x => x != b && ((s.pc p).bank x).st = .refreshing)).map (fun x => s.freeFrom p ((s.pc p).bank x))
  (sortBy (fun (x y : Nat) => decide (y ≤ x)) ends)[3]?.getD 0

/-- A refresh of a bank outside the ticks of a line slot, closing an open row first: the controller's clock moves to it
(R182, R214). -/
def Dev.refresh1 (s : Dev) (p b groups : Nat) (mu : Bool) : Dev :=
  let s1 := if ((s.pc p).bank b).openRow.isSome then s.precharge1 p b 0 else s
  let t := s1.rowFrom p (max (s1.freeFrom p ((s1.pc p).bank b)) (s1.refPlace p b))
  ((s1.settle p t).issueRef p b groups mu t).upPc p (fun c => { c with clock := t })

/-! ### Forced make-up (R225) -/

/-- A bank that owes a make-up gives way: to an admitted L0 read that waits to open it, and to the row that one opened. -/
def Dev.forcedYields (s : Dev) (p b : Nat) : Bool :=
  let k := (s.pc p).bank b
  (s.l0Waits p b && !k.l0Row) || (k.l0Row && k.openRow.isSome)

/-- The bank whose make-up is next: largest excess, ties by due order; banks that give way follow later.
(DEDUCED, notes/assumptions/188.md) -/
def Dev.nextForced (s : Dev) (p : Nat) : Option Nat :=
  ((List.range 32).map dueBank).foldl (fun (a : Option Nat) b =>
    if !(s.pc p).forced.contains b || s.forcedYields p b then a
    else match a with
      | none => some b
      | some x => if s.debt p x < s.debt p b then some b else a) none

/-- One step of the forced make-up at a moment: the REFmu, or the precharge of an open row. -/
def Dev.forcedStep (s : Dev) (p t : Nat) : Option Dev :=
  if (s.pc p).muInFlight.isSome then none
  else
    match s.nextForced p with
    | none => none
    | some b =>
      if s.refOk p b true t then
        let n := s.debt p b - 8
        some ((s.issueRef p b (min 8 n) true t).upPc p (fun c => { c with forced := if n ≤ 8 then c.forced.filter (fun x => x != b) else c.forced }))
      else if s.preOk p ((s.pc p).bank b) t && !s.retryDue p b then some (s.precharge p b t)
      else none

/-- A step of the forced make-up at the next command tick. -/
def Dev.forcedNow (s : Dev) (p t : Nat) : Dev :=
  let t1 := s.rowFrom p t
  match (s.settle p t1).forcedStep p t1 with
  | some d => d.upPc p (fun c => { c with clock := t1 })
  | none => s

/-- REFMU_COMPLETE: the bank is IDLE again; the next REFmu is issued, or the make-up is complete (R225). -/
def Dev.refmuComplete (s : Dev) (p : Nat) : Dev :=
  match (s.pc p).muInFlight with
  | none => s
  | some b =>
    let t := max (s.pc p).clock (s.freeFrom p ((s.pc p).bank b))
    let s1 := (s.settle p t).upPc p (fun c => { c with muInFlight := none, clock := t })
    if (s1.pc p).forced.isEmpty then
      if s1.flag (base.pc p) PC.REF_STATUS.FORCED then (s1.put (base.pc p) PC.REF_STATUS.FORCED 0).refEvent p 3 else s1
    else s1.forcedNow p t

def execRefmuComplete (pc : Fin 128) (s : State) : Host.Outcome State Fault Refusal := s.act (fun s => s.refmuComplete pc)

/-- A pseudo-channel enters the Hot band (R222, R224, R225): every debt doubles, and what exceeds 8 is owed at once.
(DEDUCED, notes/assumptions/74.md) -/
def Dev.enterHot (s : Dev) (p : Nat) : Dev :=
  let s1 := (s.put (base.pc p) PC.REF_STATUS.BAND 1).refEvent p 1
  let s2 := s1.each (List.range 32) (fun s b => s.setDebt p b (2 * s.debt p b))
  let owed := (List.range 32).filter (fun b => 8 < s2.debt p b)
  let s3 := s2.upPc p (fun c => { c with forced := owed })
  if owed.isEmpty then s3
  else ((s3.put (base.pc p) PC.REF_STATUS.FORCED 1).count (base.pc p) PC.REF_FORCED_EVT.COUNT).forcedNow p (s3.pc p).clock

/-- It returns to the Normal band: debts stay (R227). -/
def Dev.leaveHot (s : Dev) (p : Nat) : Dev :=
  (s.put (base.pc p) PC.REF_STATUS.BAND 0).refEvent p 2

/-- REF_CFG_WRITE (R222, R224): TRFCPB takes the nearest value in 0x50-0x58 at the next line-slot boundary (R213); setting
FORCE_HOT enters the Hot band. -/
def Dev.refCfgWrite (s : Dev) (p : Nat) (v : BitVec 32) : Dev :=
  let t := max 0x50 (min 0x58 (bitsOf v.toNat 0 8))
  let s1 := ((s.upPc p (fun c => { c with timingDue := c.timingDue.set (fun _ => 0) 4 t })).put (base.pc p) PC.REF_CFG.URGENT
    (bitsOf v.toNat 16 4)).put (base.pc p) PC.REF_CFG.FORCE_HOT (bitsOf v.toNat 20 1)
  if bitsOf v.toNat 20 1 = 1 && !s.flag (base.pc p) PC.REF_CFG.FORCE_HOT && !s.flag (base.pc p) PC.REF_STATUS.BAND
  then s1.enterHot p else s1

def execRefCfgWrite (pc : Fin 128) (v : BitVec 32) (s : State) : Host.Outcome State Fault Refusal :=
  s.act (fun s => s.refCfgWrite pc v)

/-! ### Due points (R215-R219, R228) -/

/-- A REFpb that must go before the next due point of its bank: ahead of everything (R217, R219).
(DEDUCED, notes/assumptions/75.md) -/
def Dev.mustRefresh (s : Dev) (p b : Nat) : Dev := (s.refresh1 p b 1 false).count (base.pc p) PC.REF_CAP.COUNT

/-- tXP and tXS (R213), in sixths of a nanosecond. -/
def tXP : Nat := 36
def tXS : Nat := 300

/-- The dies of a pseudo-channel leave power-down: no command for tXP (R213, R228). -/
def Dev.pdExit (s : Dev) (p : Nat) : Dev :=
  if (s.pc p).powerDown then s.upPc p (fun c => { c with powerDown := false, clock := c.clock + tXP }) else s

/-- They enter power-down again once what was issued has ended (R228). -/
def Dev.pdEnter (s : Dev) (p : Nat) : Dev :=
  let t := (List.range 32).foldl (fun t b => max t (s.freeFrom p ((s.pc p).bank b))) (s.pc p).clock
  (s.settle p t).upPc p (fun c => { c with powerDown := true, clock := t })

/-- REFRESH_DUE: the next bank in due order owes one more refresh. At the cap the owed refresh goes first (R217, R219); in
Dusk the refresh is paid as it falls due (R228). -/
def Dev.refreshDue (s : Dev) (p : Nat) : Dev :=
  if s.selfRefresh then s
  else
    let b := dueBank ((s.pc p).duePos)
    let s0 := s.upPc p (fun c => { c with duePos := (c.duePos + 1) % 32 })
    let capped := if (s0.pc p).forced.contains b then 16 else 8
    let s1 := if capped ≤ s0.debt p b then s0.mustRefresh p b else s0
    let n := s1.debt p b + 1
    let s2 := s1.setDebt p b n
    let s3 := if n = 8 then s2.refEvent p 4 else s2
    if s.rung = rungDusk then (((s3.pdExit p).refresh1 p b 1 false).pdEnter p) else s3

def execRefreshDue (pc : Fin 128) (s : State) : Host.Outcome State Fault Refusal := s.act (fun s => s.refreshDue pc)

/-! ### Refresh decisions of a command tick (R217, R231) -/

/-- Something is queued for the bank. -/
def Dev.bankWanted (s : Dev) (p b : Nat) : Bool := (s.pc p).queued.any (fun e => s.bankOf e = b)

/-- Banks in the order in which refreshes are considered: the make-up order first, for Postponed banks. -/
def Pc.refreshOrder (c : Pc) : List Nat := c.makeUp ++ (((List.range 32).map dueBank).filter (fun b => !c.makeUp.contains b))

/-- A refresh at the cap, or the precharge for it (R217): ahead of everything but the ACT of a read that has waited for a
refresh already (R218), and the RD of an L0 read whose row is open. (DEDUCED, notes/assumptions/188.md) -/
def Dev.capStep (s : Dev) (p t : Nat) : Option Dev :=
  ((List.range 32).map dueBank).findSome? (fun b =>
    let k := (s.pc p).bank b
    if 8 ≤ s.debt p b && !(s.pc p).forced.contains b && !(k.actNext && s.l0Waits p b) then
      if s.refOk p b false t then some ((s.issueRef p b 1 false t).count (base.pc p) PC.REF_CAP.COUNT)
      else if s.preOk p k t && !s.retryDue p b && !(s.pc p).l0.any (fun e => s.bankOf e = b && k.openRow = some (s.rowOf e)) then
        some (s.precharge p b t)
      else none
    else none)

/-- A refresh at the Urgent level, or the precharge for it; not while an admitted L0 read waits to open the bank. -/
def Dev.urgentStep (s : Dev) (p t : Nat) : Option Dev :=
  ((List.range 32).map dueBank).findSome? (fun b =>
    if s.urgentLevel p ≤ s.debt p b && s.debt p b < 8 && !s.l0Waits p b then
      if s.refOk p b false t then some ((s.issueRef p b 1 false t).count (base.pc p) PC.REF_URGENT.COUNT)
      else if s.preOk p ((s.pc p).bank b) t && !s.retryDue p b && !(s.pc p).l0.any (fun e => s.bankOf e = b) then some (s.precharge p b t)
      else none
    else none)

/-- A refresh at the Postponed level: the bank is IDLE and nothing is queued for it. -/
def Dev.postponedStep (s : Dev) (p t : Nat) : Option Dev :=
  (s.pc p).refreshOrder.findSome? (fun b =>
    if 0 < s.debt p b && s.debt p b < s.urgentLevel p && s.refOk p b false t && !s.bankWanted p b then
      some (s.issueRef p b 1 false t) else none)

end Sys2Proof.Machine
end

