-- ==== Sys2Proof/Machine/Tsv.lean ====
section
/-! DEFINITION. The TSV lanes (R235, R265-R268, R276, R277): what they carry in a line slot, the calibration commands in
force, and the write checkers of the dies. -/
namespace Sys2Proof.Machine

/-! ### Live and pattern calibration run (R274, R286) -/

/-- Calibration runs: Noon, SERVING or REJOINING. -/
def Dev.calRuns (s : Dev) (p : Nat) : Bool := s.pcServes p && s.rung = rungNoon && s.pfPhase = pfIdle

/-- A die pair is live (R274). -/
def Dev.pairLive (s : Dev) (p pair : Nat) : Bool :=
  s.flag (base.qme (p / 32)) QME.CAL_CFG.SCRAMBLE && s.flag (base.qme (p / 32)) QME.CAL_CFG.SPARE_CAL &&
  s.flag (base.pc p) PC.CAL_CTL.LIVE_EN && s.pcr p (assignFld pair) = 0xF
def Dev.livePairs (s : Dev) (p : Nat) : List Nat := (List.range 4).filter (s.pairLive p)
def Dev.patternPairs (s : Dev) (p : Nat) : List Nat := (List.range 4).filter (fun x => !s.pairLive p x)

/-- Pattern calibration runs for some pair (R286). -/
def Dev.patternRuns (s : Dev) (p : Nat) : Bool :=
  s.calRuns p && s.flag (base.pc p) PC.CAL_CTL.PATTERN_EN && !(s.patternPairs p).isEmpty

/-- The live pairs that take part in the round under way. (DEDUCED, notes/assumptions/73.md) -/
def Dev.roundPairs (s : Dev) (p : Nat) : List Nat := (s.livePairs p).filter (fun x => !(s.pc p).skipPairs.getLsbD x)

/-! ### CALSEL (R264, R267, R275, R276) -/

/-- Lane number of a pair lane of a die pair (R264). -/
def targetLane (group pair : Nat) : Nat := if group < 10 then 10 * pair + group else 40 + pair

/-- Die pair of a lane number. -/
def pairOf (lane : Nat) : Nat := if lane < 40 then lane / 10 else lane - 40

/-- What the CALSEL in force selects: MODE, DIR (true: write), PAIRS, the target pair lane Q, the pair lane C that the spare
copies, SUB. -/
inductive CalMode where
  | off
  | train
  | live
  | pattern
deriving DecidableEq, Repr

structure CalSel where
  mode : CalMode
  write : Bool
  pairs : List Nat
  q : Nat
  c : Nat
  sub : Bool
deriving DecidableEq, Repr

/-- The CALSEL in force on a pseudo-channel. In a live round of group 10 every spare copies pair lane C, the number of
completed passes modulo 10 (R275). -/
def Dev.calsel (s : Dev) (p : Nat) : CalSel :=
  let c := s.pc p
  match c.training with
  | some t => ⟨.train, false, [0, 1, 2, 3], if t.step = 0 then 10 else t.step - 1, 0, false⟩
  | none =>
    if c.phase = .paused then ⟨.off, false, [], 0, 0, false⟩
    else
      let q := c.round / 2
      ⟨.live, c.round % 2 = 1, s.roundPairs p, q, if q = 10 then c.passes % 10 else q, c.phase = .window || c.phase = .judged⟩

/-- The CALSEL PATTERN of the pairs that are not live, beside the one of the live round. -/
def Dev.patsel (s : Dev) (p : Nat) : CalSel :=
  if s.patternRuns p then ⟨.pattern, (s.pc p).patWrite, s.patternPairs p, 0, 0, false⟩ else ⟨.off, false, [], 0, 0, false⟩

/-! ### Beats (R235, R265, R266) -/

/-- The sixteen beats of a data lane in a line slot that moves a line: bit b is beat b. -/
def laneBeats (w : Line) (lane : Nat) : BitVec 16 := w.extractLsb' (16 * lane) 16

/-- The keystream of a line and a lane as beats (R265). -/
def keyBeats (l lane : Nat) : BitVec 16 := BitVec.ofNat 16 ((keystream l lane).foldr (fun b a => b + 2 * a) 0)

/-- What a lane carries in a pattern slot with a seed index (R266). -/
def patternBeats (k lane : Nat) : BitVec 16 := keyBeats (k * 2 ^ 23) lane

/-- The data lane whose beats a spare carries: the one that it replaces, or in a live round of the direction the one that it
copies. -/
def Dev.spareCopies (s : Dev) (p pair : Nat) (write : Bool) : Option Nat :=
  let cs := s.calsel p
  match s.sparedLane p pair with
  | some l => some l
  | none => if cs.mode = .live && cs.write = write && cs.pairs.contains pair then some (10 * pair + cs.c) else none

/-- The beats of all lanes that carry a line: scrambled with SCRAMBLE (R265), spares as they copy. -/
def Dev.lineOnLanes (s : Dev) (p line : Nat) (w : Line) (write : Bool) : List (Nat × BitVec 16) :=
  let scr := s.flag (base.qme (p / 32)) QME.CAL_CFG.SCRAMBLE
  let on (l : Nat) : BitVec 16 := laneBeats w l ^^^ (if scr then keyBeats line l else 0)
  (List.range 40).map (fun l => (l, on l)) ++
  (List.range 4).filterMap (fun x => (s.spareCopies p x write).map (fun l => (40 + x, on l)))

/-- Lanes of the pattern calibration (R286, R287). -/
def Dev.patternLanes (s : Dev) (p : Nat) : List Nat :=
  ((s.patternPairs p).map (fun x => ((List.range 10).map (fun k => 10 * x + k)) ++ [40 + x])).flatten.filter (fun n =>
    if n < 40 then !s.laneErased p n && s.sparedLane p (n / 10) != some n else (s.sparedLane p (n - 40)).isSome)

/-- The beats of a pattern slot of pattern calibration, with the seed index in force. -/
def Dev.patternOnLanes (s : Dev) (p : Nat) : List (Nat × BitVec 16) :=
  ((s.patternLanes p).filter (fun l => (s.patsel p).pairs.contains (pairOf l))).map
    (fun l => (l, patternBeats (s.pc p).seedIdx.toNat l))

/-- The beats of a pattern slot of an assist burst: the target lanes, and the spares as copies of them (R266, R280). -/
def Dev.burstOnLanes (s : Dev) (p : Nat) : List (Nat × BitVec 16) :=
  let cs := s.calsel p
  (cs.pairs.map (fun x => let b := patternBeats (s.pc p).seedIdx.toNat (10 * x + cs.c); [(10 * x + cs.c, b), (40 + x, b)])).flatten

/-- A line slot on the data bus: what the lanes carry; in a live window its direction moves the probe index on (R277). -/
def Dev.onLanes (s : Dev) (p : Nat) (write : Bool) (beats : List (Nat × BitVec 16)) : Dev :=
  let counts := decide ((s.pc p).phase = .window) && (s.calsel p).write = write
  s.upPc p (fun c => { c with lanes := beats, winSlots := c.winSlots + counts.toNat })

/-- A pattern slot: its beats, and the next seed index, which wraps from 255 to 0 (R266). -/
def Dev.patternOut (s : Dev) (p : Nat) (write : Bool) : Dev :=
  (s.onLanes p write (s.patternOnLanes p)).upPc p (fun c => { c with seedIdx := c.seedIdx + 1, patSlots := c.patSlots + 1 })

/-- A pattern slot of an assist burst (R280). -/
def Dev.burstOut (s : Dev) (p : Nat) (write : Bool) : Dev :=
  (s.onLanes p write (s.burstOnLanes p)).upPc p (fun c => { c with seedIdx := c.seedIdx + 1, burstLeft := c.burstLeft - 1 })

/-! ### The write checkers (R267, R268, R277) -/

/-- A die's record in TRAIN mode: errors on its five lanes and on the spare of its pair, saturating at 0xFF. -/
def trainRecord (errs : List Nat) (spare : Nat) : BitVec 80 :=
  BitVec.ofNat 80 ((List.range 5).foldl (fun a k => a + min 255 (errs.getD k 0) * 2 ^ (8 * k)) (min 255 spare * 2 ^ 40))

/-- In LIVE mode: PASS of the target lane, T of its reference saturating at 0xFFFF, slots counted. -/
def liveRecord (pass : BitVec 16) (t slots : Nat) : BitVec 80 :=
  BitVec.ofNat 80 (pass.toNat + min 65535 t * 2 ^ 16 + slots % 65536 * 2 ^ 32)

/-- In PATTERN mode: PASS of each of its five lanes. -/
def patternRecord (pass : List (BitVec 16)) : BitVec 80 :=
  BitVec.ofNat 80 ((List.range 5).foldl (fun a k => a + (pass.getD k 0).toNat * 2 ^ (16 * k)) 0)

/-- Errors of TRAIN mode on lane k of the die, k = 5 for the spare. -/
def trainErrors (r : BitVec 80) (k : Nat) : Nat := bitsOf r.toNat (8 * k) 8

def Pc.record (c : Pc) (die : Nat) : BitVec 80 := c.checker.get (fun _ => 0) die
def Pc.setRecord (c : Pc) (die : Nat) (r : BitVec 80) : Pc := { c with checker := c.checker.set (fun _ => 0) die r }

/-- A record in its line slot, unscrambled: bit i on the die's lane i / 16 in beat i mod 16. -/
def recordOnLanes (die : Nat) (r : BitVec 80) : List (Nat × BitVec 16) :=
  (List.range 5).map (fun k => (5 * die + k, r.extractLsb' (16 * k) 16))

/-- The record that a line slot brought from a die. -/
def recordFromLanes (die : Nat) (beats : List (Nat × BitVec 16)) : BitVec 80 :=
  BitVec.ofNat 80 ((List.range 5).foldl (fun a k =>
    a + (((beats.find? (fun x => x.1 = 5 * die + k)).map Prod.snd).getD 0).toNat * 2 ^ (16 * k)) 0)

/-- CALRD: the die returns its checker record in a line slot, then clears it if CLR = 1. The slot is the next that R281
allows (Dev.calrdSlot). -/
def Dev.calrd (s : Dev) (p die : Nat) (clr : Bool) : BitVec 80 × Dev :=
  let beats := recordOnLanes die ((s.pc p).record die)
  (recordFromLanes die beats, s.upPc p (fun c =>
    let c1 := if clr then c.setRecord die 0 else c
    { c1 with calrdQ := c1.calrdQ ++ [(die, c.record die)] }))

/-- The probes of a lane that pass (R278): at most ⌊T/1024⌋ errors. -/
def passBits (w : LaneWindow) : BitVec 16 :=
  BitVec.ofNat 16 ((List.range 16).foldl (fun a i => if w.errs.getD i 0 ≤ w.trans / 1024 then a + 2 ^ i else a) 0)

/-- What was counted for a lane; a lane that no count names had no transition. -/
def windowOf (ws : List LaneWindow) (lane : Nat) : LaneWindow := (ws.find? (fun w => w.lane = lane)).getD ⟨lane, 0, []⟩

/-- What the Brim counted for a lane in a read window. -/
def readCount (ws : List LaneWindow) (lane : Nat) : LaneCount := let w := windowOf ws lane; ⟨lane, passBits w, w.trans⟩

/-- The die that receives the beats of a lane on the device's side of a live write round: that of the lane which a spare
copies (R277). -/
def Dev.dieOfTarget (s : Dev) (p lane : Nat) : Nat :=
  if lane < 40 then lane / 5 else (10 * (lane - 40) + (s.calsel p).c) / 5

/-- What a live window counted for a target lane. In a write round the die has counted, and the controller collects its
record with a CALRD that clears it for the next window (DEDUCED, notes/assumptions/193.md). -/
def Dev.liveCount (s : Dev) (p : Nat) (ws : List LaneWindow) (lane : Nat) : LaneCount × Dev :=
  if !(s.calsel p).write then (readCount ws lane, s)
  else
    let w := windowOf ws lane
    let d := s.dieOfTarget p lane
    let r := (s.upPc p (fun c => c.setRecord d (liveRecord (passBits w) w.trans c.winSlots))).calrd p d true
    (⟨lane, r.1.extractLsb' 0 16, bitsOf r.1.toNat 16 16⟩, r.2)

/-- What a live window counted for all its target lanes. -/
def Dev.liveCounts (s : Dev) (p : Nat) (ws : List LaneWindow) (lanes : List Nat) : List LaneCount × Dev :=
  lanes.foldl (fun a l => let r := a.2.liveCount p ws l; (a.1 ++ [r.1], r.2)) ([], s)

/-- The lane whose bitmap a die's PATTERN record holds in the place of its lane k: that of the spare which replaces it. -/
def Dev.recordLane (s : Dev) (p die k : Nat) : Nat :=
  let l := 5 * die + k
  if s.sparedLane p (l / 10) = some l then 40 + l / 10 else l

/-- What a pattern window counted for its lanes. In a write window each die that takes part returns its record. -/
def Dev.patternCounts (s : Dev) (p : Nat) (ws : List LaneWindow) : List LaneCount × Dev :=
  let lanes := s.patternLanes p
  if !(s.pc p).patWrite then (lanes.map (readCount ws), s)
  else
    ((s.patternPairs p).map (fun x => [2 * x, 2 * x + 1])).flatten.foldl (fun a d =>
      let rec_ := patternRecord ((List.range 5).map (fun k => passBits (windowOf ws (s.recordLane p d k))))
      let r := (a.2.upPc p (fun c => c.setRecord d rec_)).calrd p d true
      let mine := (List.range 5).filterMap (fun k =>
        let l := s.recordLane p d k
        if lanes.contains l then some (⟨l, r.1.extractLsb' (16 * k) 16, (windowOf ws l).trans⟩ : LaneCount) else none)
      (a.1 ++ mine, r.2)) ([], s)

/-- The WDLY settings of a lane at which its die's record shows no error (R268, R269): one CALRD follows the 64 pattern
slots of each setting. -/
def writePasses (sweeps : List LaneSweep) (lane : Nat) : BitVec 128 :=
  let errs (l v : Nat) : Nat := match sweeps.find? (fun w => w.lane = l) with
    | some w => w.werrs.getD v 1
    | none => 1
  let die := if lane < 40 then lane / 5 else 2 * (lane - 40)
  let k := if lane < 40 then lane % 5 else 5
  BitVec.ofNat 128 ((List.range 128).foldl (fun a v =>
    let r := trainRecord ((List.range 5).map (fun j => errs (5 * die + j) v)) (errs (40 + die / 2) v)
    if trainErrors r k = 0 then a + 2 ^ v else a) 0)

/-- The RDLY settings of a lane that passed its sweep. -/
def readPasses (sweeps : List LaneSweep) (lane : Nat) : BitVec 128 := ((sweeps.find? (fun w => w.lane = lane)).map LaneSweep.rdly).getD 0

end Sys2Proof.Machine
end

