-- ==== Sys2Proof/Machine/Slot.lean ====
section
/-! DEFINITION. Line slots (R182-R200, R408, R532): the Carder's reads, the row commands of a slot's ticks, the request
that takes the slot, and service states of a pseudo-channel (R210, R211). -/
namespace Sys2Proof.Machine

/-! ### The Carder's reads (R247, R248, R250, R251) -/

/-- Entries of the Carder decode queue that are in use or held by reads in flight (R248). -/
def Pc.carderUsed (c : Pc) : Nat :=
  c.decodeQ.length + ((c.l2 ++ c.feed ++ c.inFlight.map InFlight.entry).filter (fun e =>
    (e.op = .carderRead || e.op = .revisitRead) && e.retryOf.isNone)).length

/-- A Carder read of a line; the entry keeps the number of the visit. -/
def Dev.carderRead (s : Dev) (op : Op) (line visit : Nat) : Dev :=
  let n := s.nextOrder
  n.2.feedL2 { ownEntry op line n.1 0 with epoch := BitVec.ofNat 32 visit }

/-- The line at a position of the page at WALK_PTR (R247): the row is PTR / 32, the bank its position in due order. -/
def Dev.pageLine (s : Dev) (p i : Nat) : Nat :=
  let ptr := s.pcr p PC.CARDER.WALK_PTR
  s.lineAtPlace ⟨p, dueBank (ptr % 32), ptr / 32, i⟩

/-- One read of the Carder, where it may issue one: the revisit queue goes ahead of the walk. -/
def Dev.carderOne (s : Dev) (p : Nat) : Dev :=
  let c := s.pc p
  if !s.carderRuns p || 32 ≤ c.carderUsed then s
  else
    match c.revisitQ with
    | l :: t => (s.setPc p { c with revisitQ := t }).carderRead .revisitRead l s.order
    | [] =>
      if c.pagesDue = 0 || 32 ≤ c.pageRead || !c.healHold.isEmpty then s
      else if c.pageRead = 0 && (List.range 32).any (fun i => s.unrestored (unitOf (s.pageLine p i))) then
        (s.setPc p { c with pageRead := 32 }).pageDone p
      else
        let visit := if c.pageRead = 0 then s.order else c.visit
        let line := s.pageLine p c.pageRead
        (s.setPc p { c with pageRead := c.pageRead + 1, visit := visit }).carderRead .carderRead line visit

/-- The Carder issues what it can. -/
def Dev.carderFeed (s : Dev) (p : Nat) : Dev := s.each (List.range 40) (fun s _ => s.carderOne p)

/-- CARDER_PAGE_INTERVAL: one more page is due; the walk lags when the one before has not been read (R247). -/
def Dev.pageInterval (s : Dev) (p : Nat) : Dev :=
  let c := s.pc p
  let s1 := if c.restartWalk then
      (s.setPc p { c with restartWalk := false, pageRead := 0, pagesDue := 1 }).put (base.pc p) PC.CARDER.WALK_PTR 0
    else s.setPc p { c with pagesDue := c.pagesDue + 1 }
  let s2 := if !c.restartWalk && 0 < c.pagesDue then s1.put (base.pc p) PC.CARDER.LAG 1 else s1
  if s.carderRuns p then s2.carderFeed p
  else s2.upPc p (fun k => { k with pagesDue := c.pagesDue })

def execCarderPageInterval (pc : Fin 128) (s : State) : Host.Outcome State Fault Refusal := s.act (fun s => s.pageInterval pc)

/-- WALK_RESTART (R247). -/
def Dev.walkRestart (s : Dev) (p : Nat) : Dev :=
  (s.put (base.pc p) PC.ECC_CTL.WALK_RESTART 0).upPc p (fun c => { c with restartWalk := true })

def execWalkRestart (pc : Fin 128) (s : State) : Host.Outcome State Fault Refusal := s.act (fun s => s.walkRestart pc)

/-! ### Row commands (R182, R185, R186, R198, R217) -/

/-- The moment from which PAGE_HOLD lets an idle row be closed (R186). -/
def Dev.holdUntil (s : Dev) (p : Nat) (k : Bank) : Nat :=
  let wr := if k.lastWriteEnd = 0 then 0 else k.lastWriteEnd - s.slotLen p - s.tim p PC.TIMING2.TCWL
  max k.lastRead wr + s.tim p PC.CFG.PAGE_HOLD

/-- The requests of L1 and L2 in the order in which row commands are planned for them. -/
def Pc.planned (c : Pc) : List Entry :=
  c.retryQ.filter (fun e => !e.l0) ++ (if c.draining then c.wq ++ c.l1 else c.l1 ++ c.wq) ++ c.l2

/-- L0 reads, a retry first. -/
def Pc.l0Reads (c : Pc) : List Entry := c.retryQ.filter Entry.l0 ++ c.l0

/-- An ACT or PRE for an admitted L0 read, oldest first (R186, R198). -/
def Dev.l0Step (s : Dev) (p t : Nat) : Option Dev :=
  (s.pc p).l0Reads.findSome? (fun e =>
    let b := s.bankOf e
    let k := (s.pc p).bank b
    if !s.eligible p e || k.openRow = some (s.rowOf e) then none
    else if s.actOk p b t then
      some ((s.activate p b (s.rowOf e) t).upPc p (fun c => c.upBank b (fun k => { k with l0Row := c.forced.contains b })))
    else if s.preOk p k t && !(s.pc p).l0.any (fun o => s.bankOf o = b && k.openRow = some (s.rowOf o)) then some (s.precharge p b t)
    else none)

/-- An ACT for a request of L1 or L2; none to a bank for which an admitted L0 read waits (R198). Another row of the bank
closes under R186 first, at once for a retry (R242). -/
def Dev.l12Step (s : Dev) (p t : Nat) : Option Dev :=
  (s.pc p).planned.findSome? (fun e =>
    let b := s.bankOf e
    let k := (s.pc p).bank b
    if !s.eligible p e || k.openRow = some (s.rowOf e) || s.l0Next p b then none
    else if s.actOk p b t then some (s.activate p b (s.rowOf e) t)
    else if e.retryOf.isSome && s.preOk p k t then some (s.precharge p b t)
    else none)

/-- A row that no queued request targets is closed (R186). -/
def Dev.closeStep (s : Dev) (p t : Nat) : Option Dev :=
  (List.range 32).findSome? (fun b =>
    let k := (s.pc p).bank b
    if s.preOk p k t && !s.rowWanted p b && s.holdUntil p k ≤ t then some (s.precharge p b t) else none)

/-- The row command of one command tick. -/
def Dev.rowTick (s : Dev) (p t : Nat) : Dev :=
  let s0 := s.settle p t
  ((s0.forcedStep p t).orElse fun _ => (s0.capStep p t).orElse fun _ => (s0.l0Step p t).orElse fun _ =>
    (s0.urgentStep p t).orElse fun _ => (s0.l12Step p t).orElse fun _ => (s0.closeStep p t).orElse fun _ =>
    s0.postponedStep p t).getD s0

/-- The row command of a command tick while the TSV point changes: refresh goes on (R230), and rows close (R188). -/
def Dev.stoppedTick (s : Dev) (p t : Nat) : Dev :=
  let s0 := s.settle p t
  ((s0.forcedStep p t).orElse fun _ => (s0.capStep p t).orElse fun _ => (s0.urgentStep p t).orElse fun _ =>
    (s0.closeStep p t).orElse fun _ => s0.postponedStep p t).getD s0

/-! ### The request that takes the slot (R195-R199, R408) -/

/-- Watermarks in force (R196). -/
def Dev.drainHi (s : Dev) (p : Nat) : Nat := min 64 (s.pcr p PC.CFG.WDRAIN_HI)
def Dev.drainLo (s : Dev) (p : Nat) : Nat := min (s.pcr p PC.CFG.WDRAIN_LO) (s.drainHi p - 1)

/-- Write priority within L1 follows the watermarks. -/
def Dev.drainCheck (s : Dev) (p : Nat) : Dev :=
  let n := (s.pc p).wqUsed
  if s.drainHi p ≤ n then s.upPc p (fun c => { c with draining := true })
  else if n ≤ s.drainLo p then s.upPc p (fun c => { c with draining := false })
  else s

/-- The request's column command can go at the moment; none to a bank that an admitted L0 read waits to open, and no WR to
a bank group that one waits for (R198). -/
def Dev.ready (s : Dev) (p t : Nat) (e : Entry) : Bool :=
  let wr := !e.op.takesRead || (e.op = .merge && e.opc = 0)
  s.eligible p e && s.columnOk p e wr t && !s.l0Next p (s.bankOf e) &&
  !(wr && (s.pc p).l0.any (fun o => s.bankOf o / 8 = s.bankOf e / 8 && s.mayGo p o))

/-- The L0 read that takes the slot: the oldest whose data can. -/
def Dev.pickL0 (s : Dev) (p t : Nat) : Option Entry := (s.pc p).l0Reads.find? (fun e => s.eligible p e && s.columnOk p e false t)

/-- The bank is in in-order mode and waits for the write: for one that it entered the mode for, or one that must go before
it (R196, R200). -/
def Dev.waitedFor (s : Dev) (p : Nat) (e : Entry) : Bool :=
  ((s.pc p).bank (s.bankOf e)).waitsFor.any (fun n => e.order ≤ n)

/-- The request of L1 that goes next (R196). -/
def Dev.pickL1 (s : Dev) (p t : Nat) : Option Entry :=
  let c := s.pc p
  let waited := c.wq.find? (fun e => s.waitedFor p e && s.ready p t e)
  let rd := (c.retryQ.filter (fun e => !e.l0 && 6 ≤ e.op.l2Order) ++ c.l1).find? (s.ready p t)
  let wr := c.wq.find? (s.ready p t)
  waited.orElse fun _ => if c.draining then wr.orElse fun _ => rd else rd.orElse fun _ => wr

/-- The operation of L2 that goes next (R197): a source that has waited 1,024 slots, then the fixed order. -/
def Dev.pickL2 (s : Dev) (p t : Nat) : Option Entry :=
  let c := s.pc p
  c.sources.findSome? (fun k => (c.retryQ ++ c.l2).find? (fun e => e.op.l2Order = k && s.ready p t e))

/-- Slots of 16 that L1 and L2 may take at an effective level (R408). -/
def capOf (level : Nat) : Nat := if level = 0 then 16 else if level ≤ 12 then 16 - level else 4

/-- The class that takes the slot and what is left of the weights (R195): 1 or 2, with the request.
(DEDUCED, notes/assumptions/63.md) -/
def robin (w1 w2 l1 l2 : Nat) (r1 r2 : Option Entry) : Option (Nat × Entry × Nat × Nat) :=
  let full := decide (w1 = 0 ∧ w2 = 0)
  let a := if full then l1 else w1
  let b := if full then l2 else w2
  match r1, r2 with
  | none, none => none
  | some x, none => if 0 < a then some (1, x, a - 1, b) else if 0 < l1 then some (1, x, l1 - 1, l2) else none
  | none, some y => if 0 < b then some (2, y, a, b - 1) else if 0 < l2 then some (2, y, l1, l2 - 1) else none
  | some x, some y => if 0 < a then some (1, x, a - 1, b) else if 0 < b then some (2, y, a, b - 1) else none

/-- The choice of R195 among L1 and L2 under the governor's cap; L2 keeps one slot of 16 while it has work. -/
def Dev.pickL12 (s : Dev) (p t : Nat) : Option (Nat × Entry × Nat × Nat) :=
  let c := s.pc p
  let cap := capOf (s.effLevel (p / 32))
  if cap ≤ c.capUsed then none
  else
    let keepL2 := c.capL2 = 0 && !c.l2.isEmpty && c.capUsed + 1 = cap
    robin c.w1 c.w2 (s.pcr p PC.ARB.L1_WEIGHT) (s.pcr p PC.ARB.L2_WEIGHT)
      (if keepL2 then none else s.pickL1 p t) (s.pickL2 p t)

/-! ### Column commands -/

/-- The entry leaves its queue. -/
def Pc.remove (c : Pc) (e : Entry) : Pc :=
  { c with l0 := c.l0.erase e, l1 := c.l1.erase e, l2 := c.l2.erase e, wq := c.wq.erase e, retryQ := c.retryQ.erase e }

/-- ROW_HIT: the row was open before the request arrived (R523). (DEDUCED, notes/assumptions/84.md) -/
def Dev.rowHit (s : Dev) (p : Nat) (e : Entry) (t : Nat) : Dev :=
  if ((s.pc p).bank (s.bankOf e)).actAt + e.waited * s.slotLen p ≤ t then s.qperf p 0x0E else s

/-- The new content of a line that a write stores, with the marks of its epoch (R289, R302). -/
def Dev.storedBy (s : Dev) (e : Entry) : Content :=
  let c := e.effect (s.stored e.line)
  match e.op with
  | .fullWrite | .merge | .mirrorWrite => let m := s.markOf e.line e.epoch; withMark c m.1 m.2
  | _ => c

/-- A write reaches the Crown; a STORE injection flips bits of its codeword (R260). -/
def Dev.storeLine (s : Dev) (e : Entry) : Dev :=
  let w := encodeLine (s.storedBy e)
  let s0 := match s.hitOf e.line with
    | some (st, _) => if st = 0 then s.hitDone e.line else s
    | none => s
  match s0.injMask 0 e.line with
  | some m => (s0.injFire 0).setLine (s.keyOf e.line) (w ^^^ m)
  | none => s0.setLine (s.keyOf e.line) w

/-- The column command of an entry at a moment: RD takes the raw line from the Crown, WR stores it. -/
def Dev.column (s : Dev) (p : Nat) (e : Entry) (t : Nat) : Dev :=
  let b := s.bankOf e
  let wr := !e.op.takesRead || (e.op = .merge && e.opc = 0)
  let endAt := s.dataFrom p wr t + s.slotLen p
  let mark (k : Bank) : Bank := if wr then { k with touched := true, lastWriteEnd := endAt } else { k with touched := true, lastRead := t }
  let s1 := ((s.rowHit p e t).upPc p (fun c => (c.remove e).upBank b mark)).takeBus p (b / 8) wr t
  let s2 := if wr then s1.storeLine e
    else s1.upPc p (fun c => { c with inFlight := c.inFlight ++ [⟨e, s.lineAt (s.keyOf e.line), none⟩] })
  let s3 := s2.onLanes p wr (s2.lineOnLanes p e.line (s2.lineAt (s2.keyOf e.line)) wr)
  (if e.op = .writeBack then s3.count (base.pc p) PC.CARDER_WB.COUNT else s3).slotClass p 0

/-- A bank leaves in-order mode when the writes it waits for are gone (R200). -/
def Pc.prune (c : Pc) : Pc :=
  let here := (c.wq ++ (c.mergeBuf.map MergeEntry.members).flatten).map Entry.order
  (List.range 32).foldl (fun (c : Pc) b => c.upBank b (fun k => { k with waitsFor := k.waitsFor.filter (fun n => here.contains n) })) c

/-- A slot passes: everything queued has waited one slot longer, merge entries age. -/
def Pc.age (c : Pc) : Pc :=
  let up (e : Entry) : Entry := { e with waited := e.waited + 1 }
  { c with l0 := c.l0.map up, l1 := c.l1.map up, l2 := c.l2.map up, wq := c.wq.map up, retryQ := c.retryQ.map up
           feed := c.feed.map up, slotNo := c.slotNo + 1, patOwed := c.patOwed - 1
           mergeBuf := c.mergeBuf.map (fun m => { m with age := m.age + 1 }) }

/-- A request that nothing but the Crown holds up is queued (R532). -/
def Pc.wanting (c : Pc) : Bool := c.queued.any (fun e => e.hold != .backPressure && e.hold != .cowStall)

/-- A free slot counts in the window of R408. -/
def Pc.capStep (c : Pc) (cls : Nat) : Pc :=
  let n := (c.capPos + 1) % 16
  if n = 0 then { c with capPos := 0, capUsed := 0, capL2 := 0 }
  else { c with capPos := n, capUsed := c.capUsed + (if cls = 0 then 0 else 1), capL2 := c.capL2 + (if cls = 2 then 1 else 0) }

/-- A pattern slot of the window's direction is due after a refresh, and the data bus takes it (R281, R287). -/
def Dev.patternDue (s : Dev) (p t : Nat) : Bool :=
  0 < (s.pc p).patOwed && s.patternRuns p && s.busOk p 4 (s.pc p).patWrite t

/-- A CALRD has a record to fetch, and the data bus takes it (R267, R281). -/
def Dev.calrdDue (s : Dev) (p t : Nat) : Bool := !(s.pc p).calrdQ.isEmpty && s.busOk p 4 false t

/-- The line slot of the oldest CALRD. -/
def Dev.calrdSlot (s : Dev) (p t : Nat) : Dev :=
  match (s.pc p).calrdQ with
  | [] => s
  | (die, r) :: rest =>
    ((s.upPc p (fun c => { c.capStep 0 with calrdQ := rest, lanes := recordOnLanes die r })).takeBus p 4 false t).slotClass p 1

/-- The line slot of pattern calibration (R287). -/
def Dev.patternSlot (s : Dev) (p t : Nat) : Dev :=
  let wr := (s.pc p).patWrite
  let s1 := (s.upPc p (fun c => { c.capStep 0 with patOwed := 0 })).takeBus p 4 wr t
  ((s1.patternOut p wr).count (base.pc p) PC.CAL_PATTERN_SLOT.COUNT).slotClass p 1

/-- Calibration takes the slot. -/
def Dev.calDue (s : Dev) (p t : Nat) : Bool := s.calrdDue p t || s.patternDue p t

/-- A pattern slot of an assist burst takes the slot (R280). -/
def Dev.burstSlot (s : Dev) (p t : Nat) : Dev :=
  let wr := (s.calsel p).write
  let s1 := ((s.upPc p (fun c => c.capStep 0)).takeBus p 4 wr t).burstOut p wr
  (s1.count (base.pc p) PC.CAL_PATTERN_SLOT.COUNT).slotClass p 1

/-- No request takes the slot. -/
def Dev.freeSlot (s : Dev) (p : Nat) : Dev :=
  (s.upPc p (fun c => c.capStep 0)).slotClass p (if (s.pc p).wanting then 3 else 2)

/-- An idle slot; in an assisted window it may carry a pattern slot of a burst (R280). Whether the lowest T lags, so that a
burst begins, is a free value (DESIGN CHOICE, notes/assumptions/72.md). -/
def Dev.idleSlot (s : Dev) (p t : Nat) : Dev :=
  let c := s.pc p
  if s.flag (base.pc p) PC.CAL_STATUS.ASSIST && c.phase = .window && s.calRuns p && s.busOk p 4 (s.calsel p).write t then
    if 0 < c.burstLeft then s.burstSlot p t
    else
      let f := s.freeValue
      if f.1.getLsbD 0 then
        ((f.2.upPc p (fun c => { c with bursts := c.bursts + 1, burstLeft := 8 })).count (base.pc p) PC.CAL_BURST.COUNT).burstSlot p t
      else f.2.freeSlot p
  else s.freeSlot p

/-- The slot is given away at its moment (R195). -/
def Dev.giveSlot (s : Dev) (p t : Nat) : Dev :=
  match s.pickL0 p t with
  | some e => s.column p e t
  | none =>
    if s.calrdDue p t then s.calrdSlot p t
    else if s.patternDue p t then s.patternSlot p t
    else
      match s.pickL12 p t with
      | some (k, e, w1, w2) =>
        let s1 := (s.column p e t).upPc p (fun c => { c.capStep k with w1 := w1, w2 := w2 })
        if k = 2 then s1.qperf p 0x0F else s1
      | none => s.idleSlot p t

/-- The boundary of a line slot: timing values written since the last one, and L0_SHARE, come into force (R194, R212,
R213). -/
def Dev.slotBoundary (s : Dev) (p : Nat) : Dev :=
  let s1 := s.each (s.pc p).timingDue (fun s x =>
    if x.1 < 4 then s.setReg (base.pc p + 0x10 + 4 * x.1) (BitVec.ofNat 32 x.2) else s.put (base.pc p) PC.REF_CFG.TRFCPB x.2)
  s1.upPc p (fun c => { c with timingDue := [], share := s.pcr p PC.ARB.L0_SHARE })

/-- The row commands of the ticks of a slot that starts at a moment. -/
def Dev.rowTicks (s : Dev) (p t0 len : Nat) (tick : Dev → Nat → Nat → Dev) : Dev :=
  (s.each (List.range (len / 3)) (fun s k => tick s p (t0 + 3 * (k + 1)))).upPc p (fun c => { c with clock := t0 + len })

/-- LINE_SLOT: the row commands of its ticks, then the request that takes it. No slot passes while the TSV point changes
(R533), but the ticks do, or while the controller's clock is stopped. (DESIGN CHOICE, notes/assumptions/62.md) -/
def Dev.lineSlot (s : Dev) (p : Nat) : Dev :=
  if s.selfRefresh || s.rung != rungNoon then s
  else
    let t0 := (s.pc p).clock
    let len := s.slotLen p
    let s0 := s.slotBoundary p
    if (s.pc p).stopped then s0.rowTicks p t0 len Dev.stoppedTick
    else
      let s1 := ((s0.carderFeed p).fillQueues p).drainCheck p
      ((s1.rowTicks p t0 len Dev.rowTick).giveSlot p (t0 + len)).upPc p (fun c => c.age.prune)

/-- PAGE_HOLD_EXPIRE: an open row that no queued request targets is precharged, as soon as R185 permits (R186). -/
def Dev.pageHoldExpire (s : Dev) (p b : Nat) : Dev :=
  let k := (s.pc p).bank b
  if k.openRow.isSome && !s.rowWanted p b then s.precharge1 p b (s.holdUntil p k) else s

def execPageHoldExpire (pc : Fin 128) (bank : Fin 32) (s : State) : Host.Outcome State Fault Refusal :=
  s.act (fun s => s.pageHoldExpire pc bank)

/-- BANK_TIMING_EXPIRE: tRP or tRFC has passed (R185). -/
def Dev.bankExpire (s : Dev) (p b : Nat) : Dev :=
  let k := (s.pc p).bank b
  match k.st with
  | .precharging | .refreshing =>
    let t := max (s.pc p).clock (s.freeFrom p k)
    s.upPc p (fun c => { c.upBank b (s.settleBank p t) with clock := t })
  | _ => s

def execBankTimingExpire (pc : Fin 128) (bank : Fin 32) (s : State) : Host.Outcome State Fault Refusal :=
  s.act (fun s => s.bankExpire pc bank)

/-- MERGE_RETIRE: a merge entry that has been open for 32 line slots is read (R203). -/
def Dev.mergeRetire (s : Dev) (p line : Nat) : Dev :=
  if (s.pc p).mergeBuf.any (fun m => m.line = line && !m.readIssued && 32 ≤ m.age) then s.issueMergeRead p line else s

def execMergeRetire (pc : Fin 128) (line : BitVec 31) (s : State) : Host.Outcome State Fault Refusal :=
  s.act (fun s => s.mergeRetire pc line.toNat)

/-! ### Service states (R210, R211) -/

/-- TAKE_OUT: SERVING or REJOINING goes to DRAINING; INIT_DONE is cleared. -/
def Dev.takeOut (s : Dev) (p : Nat) : Dev :=
  let s1 := s.put (base.pc p) PC.SVC.TAKE_OUT 0
  if s.pcServes p then ((s1.put (base.pc p) PC.SVC.INIT_DONE 0).calPause p).setPcState p pcDraining else s1

def execTakeOut (pc : Fin 128) (s : State) : Host.Outcome State Fault Refusal := s.act (fun s => s.takeOut pc)

/-- REJOIN: OUT with INIT_DONE goes to REJOINING; otherwise it is ignored, with event 4. -/
def Dev.rejoin (s : Dev) (p : Nat) : Dev :=
  let s1 := s.put (base.pc p) PC.SVC.REJOIN 0
  if s.pcState p = pcOut && s.flag (base.pc p) PC.SVC.INIT_DONE then
    (s1.upPc p (fun c => { c with rejoinSlot := false, outSince := none, retrained := false })).setPcState p pcRejoining
  else s1.pcEvent p 4

def execRejoin (pc : Fin 128) (s : State) : Host.Outcome State Fault Refusal := s.act (fun s => s.rejoin pc)

/-- Nothing is left in a controller; the Carder keeps what it has not issued (R251). -/
def Pc.empty (c : Pc) : Bool :=
  c.queued.isEmpty && c.mergeBuf.isEmpty && c.inFlight.isEmpty && c.xbarQ.isEmpty && c.feed.all (fun e => e.op.l2Order = 5)

/-- DRAIN_COMPLETE: DRAINING goes OUT once all is empty. -/
def Dev.drainComplete (s : Dev) (p : Nat) : Dev :=
  if s.pcState p = pcDraining && (s.pc p).empty then
    (s.upPc p (fun c => { c with outSince := some s.now, retrained := false })).setPcState p pcOut
  else s

def execDrainComplete (pc : Fin 128) (s : State) : Host.Outcome State Fault Refusal := s.act (fun s => s.drainComplete pc)

/-! ### Timing registers (R212) -/

/-- Minimum of each byte of TIMING0-3 (R184). -/
def timingMin (reg byte : Nat) : Nat :=
  match reg, byte with
  | 0, 0 => 0x20 | 0, 1 => 0x20 | 0, 2 => 0x1C | 0, _ => 0x3C
  | 1, 0 => 0x58 | 1, 1 => 0x04 | 1, 2 => 0x05 | 1, _ => 0x14
  | 2, 0 => 0x0F | 2, 1 => 0x1E | 2, 2 => 0x10 | 2, _ => 0x06
  | _, 0 => 0x04 | _, 1 => 0x0F | _, 2 => 0x05 | _, _ => 0x05

/-- TIMING_WRITE: a field below its minimum loads the minimum; the controller takes the value at the next line-slot
boundary (R212). (DEDUCED, notes/assumptions/76.md) -/
def Dev.timingWrite (s : Dev) (p reg : Nat) (v : BitVec 32) : Dev :=
  let w := (List.range 4).foldl (fun a i => a + max (timingMin reg i) (bitsOf v.toNat (8 * i) 8) * 2 ^ (8 * i)) 0
  s.upPc p (fun c => { c with timingDue := c.timingDue.set (fun _ => 0) reg w })

def execTimingWrite (pc : Fin 128) (reg : Fin 4) (v : BitVec 32) (s : State) : Host.Outcome State Fault Refusal :=
  s.act (fun s => s.timingWrite pc reg v)

end Sys2Proof.Machine
end

