-- ==== Sys2Proof/Machine/Cal.lean ====
section
/-! DEFINITION. Training, live and pattern calibration (R262-R288), frequency points (R188, R412), the QME slot
(R10-R12), and core-die fuse burns (R252-R254). -/
namespace Sys2Proof.Machine

/-! ### Lane settings (R262, R263) -/

/-- A field of LANEDLYnn. -/
def Dev.lane (s : Dev) (p n : Nat) (f : Fld) : Nat := s.pcr p (f.at 4 n)
def Dev.setLane (s : Dev) (p n : Nat) (f : Fld) (v : Nat) : Dev := s.put (base.pc p) (f.at 4 n) v

/-- RDLY or WDLY of a lane. -/
def dlyFld (write : Bool) : Fld := if write then PC.LANEDLY.WDLY else PC.LANEDLY.RDLY
def rejFld (write : Bool) : Fld := if write then PC.LANEDLY.WREJ else PC.LANEDLY.RREJ

/-- The TSV point in force of a quadrant, and the point that a change under way is bringing in. -/
def Dev.point (s : Dev) (q : Nat) : Nat := s.rd (base.qme q) QME.TRAIN.POINT
def Dev.targetPoint (s : Dev) (p : Nat) : Nat :=
  match (s.qme (p / 32)).changing with
  | some r => if (s.pc p).stopped then r.toNat else s.point (p / 32)
  | none => s.point (p / 32)

/-- The store of a point: lane nn has RDLY at bit 14 nn and WDLY at 14 nn + 7; bit 616 is VALID. -/
def Dev.storeOf (s : Dev) (p point : Nat) : Nat := s.wideOf (base.pc p) (1 + point)
def Dev.storeValid (s : Dev) (p point : Nat) : Bool := (s.storeOf p point).testBit 616

/-- Settings in force, as the store of a point holds them. -/
def Dev.packLanes (s : Dev) (p : Nat) : Nat :=
  (List.range 44).foldl (fun a n => a + s.lane p n PC.LANEDLY.RDLY * 2 ^ (14 * n) + s.lane p n PC.LANEDLY.WDLY * 2 ^ (14 * n + 7)) 0

/-- The settings in force are written to the store of the point, which becomes VALID (R263). -/
def Dev.saveStore (s : Dev) (p point : Nat) : Dev := s.setWide (base.pc p) (1 + point) (s.packLanes p + 2 ^ 616)

/-- The settings of a store come into force. -/
def Dev.loadStore (s : Dev) (p point : Nat) : Dev :=
  let w := s.storeOf p point
  s.each (List.range 44) (fun s n => (s.setLane p n PC.LANEDLY.RDLY (bitsOf w (14 * n) 7)).setLane p n PC.LANEDLY.WDLY
    (bitsOf w (14 * n + 7) 7))

/-- An event in CAL_STATUS, with its lane. -/
def Dev.calEvent (s : Dev) (p code lane : Nat) : Dev :=
  (s.put (base.pc p) PC.CAL_STATUS.LANE lane).post (base.pc p) PC.CAL_STATUS.SEQ PC.CAL_STATUS.EVENT code

/-- A lane is in use: neither replaced by a spare nor erased; a spare is in use when it carries a lane.
(DEDUCED, notes/assumptions/79.md) -/
def Dev.laneUsed (s : Dev) (p n : Nat) : Bool :=
  if n < 40 then !s.laneErased p n && s.sparedLane p (n / 10) != some n else (s.sparedLane p (n - 40)).isSome

/-- STATE of LANEDLYnn. -/
def Dev.laneState (s : Dev) (p n : Nat) : Nat :=
  if n < 40 then if s.laneErased p n then 3 else if s.sparedLane p (n / 10) = some n then 2 else 0
  else match s.pcr p (assignFld (n - 40)) with
    | 0xF => 1
    | 0xE => 3
    | _ => 2

/-! ### Windows (R277-R279) -/

/-- What a window says of a lane (R278): W and J. -/
structure Judged where
  width : Nat
  jump : Int
deriving DecidableEq, Repr

/-- Maximal runs of set bits among 16, as first and last index. -/
def runsOf (bits : Nat) : List (Nat × Nat) :=
  (List.range 16).filterMap (fun i =>
    if bits.testBit i && (i = 0 || !bits.testBit (i - 1)) then
      some (i, i + ((List.range (16 - i)).takeWhile (fun k => bits.testBit (i + k))).length - 1)
    else none)

/-- Twice the distance of a run's midpoint from 0. -/
def runOffset (r : Nat × Nat) : Nat := ((r.1 : Int) + r.2 - 15).natAbs

/-- R278: the longest run, ties to the midpoint closest to 0, then to the lower run. -/
def judgeWindow (pass : BitVec 16) : Judged :=
  let best := (runsOf pass.toNat).foldl (fun (b : Option (Nat × Nat)) r =>
    match b with
    | none => some r
    | some x =>
      let lx := x.2 - x.1
      let lr := r.2 - r.1
      if lx < lr || (lx = lr && runOffset r < runOffset x) then some r else b) none
  match best with
  | none => ⟨0, 0⟩
  | some r => ⟨2 * (r.2 - r.1) + 2, (r.1 : Int) + r.2 - 15⟩

/-- The drift test of R282. -/
def Dev.drifts (s : Dev) (p : Nat) (j : Judged) : Bool :=
  s.rd (base.qme (p / 32)) QME.CAL_CFG.DRIFT_STEPS ≤ j.jump.natAbs || j.width < 8

/-- The pseudo-channel waits to pre-empt a QME slot, since now (R11, R282): first the one that has waited longest, then the
lower number. -/
def Dev.driftFlag (s : Dev) (p : Nat) : Dev :=
  s.upQme (p / 32) (fun m => { m with
    waiting := if m.waiting.any (fun w => w.2 = p % 32) then m.waiting
      else sortBy (fun a b => decide (a.1 < b.1 ∨ (a.1 = b.1 ∧ a.2 ≤ b.2))) (m.waiting ++ [(s.now, p % 32)]) })

/-- The next round in the cyclic order of 22 (R275). -/
def Pc.nextRound (c : Pc) : Pc :=
  { c with round := (c.round + 1) % 22, passes := if c.round = 21 then c.passes + 1 else c.passes }

/-- The next round, or the same one again, starts. -/
def Pc.startRound (c : Pc) : Pc :=
  { c with phase := .comparing, skipPairs := 0, window := [], windowReady := false, winSlots := 0, bursts := 0, burstLeft := 0 }

/-- One pair's comparison in CAL_COMPARE_DONE (R276). -/
def Dev.comparePair (s : Dev) (p pair : Nat) (differs blamed : Bool) : Dev :=
  let n := 40 + pair
  if !differs then s.setLane p n PC.LANEDLY.ABANDON 0
  else
    let s1 := s.upPc p (fun c => { c with skipPairs := c.skipPairs ||| (1 <<< pair) })
    if blamed then s1
    else
      let s2 := (s1.count (base.pc p) PC.CAL_ABANDON.COUNT).put (base.pc p) ⟨0x190 + 4 * pair, 27, 2⟩ 3
      let k := s.lane p n PC.LANEDLY.ABANDON + 1
      if k < 3 then s2.setLane p n PC.LANEDLY.ABANDON k
      else ((s2.setLane p n PC.LANEDLY.ABANDON 0).spareFailed p pair).calEvent p 7 n

/-- CAL_COMPARE_DONE: pairs whose spare differs are left out; the window starts with the others (R276). A round in which
no pair is left gives way to the next. -/
def Dev.compareDone (s : Dev) (p : Nat) (differs blamed : BitVec 4) : Dev :=
  let c := s.pc p
  if !s.calRuns p || (s.livePairs p).isEmpty || !(c.phase = .paused || c.phase = .comparing) then s
  else
    let s1 := s.each (s.livePairs p) (fun s x => s.comparePair p x (differs.getLsbD x) (blamed.getLsbD x))
    if (s1.roundPairs p).isEmpty then s1.upPc p (fun c => c.nextRound.startRound)
    else s1.upPc p (fun c => { c with phase := .window, winSlots := 0, bursts := 0, burstLeft := 0 })

def execCalCompareDone (pc : Fin 128) (differs blamed : BitVec 4) (s : State) : Host.Outcome State Fault Refusal :=
  s.act (fun s => s.compareDone pc differs blamed)

/-- CAL_WINDOW_END (R278-R280, R282). Assisted mode ends when a window becomes valid with no burst inserted. -/
def Dev.windowEnd (s : Dev) (p : Nat) (ws : List LaneWindow) : Dev :=
  let c := s.pc p
  if c.phase != .window then s
  else if !s.calRuns p then s.calPause p
  else
    let counted := s.liveCounts p ws ((s.roundPairs p).map (targetLane (c.round / 2)))
    let mine := counted.1
    let s := counted.2
    let low := mine.foldl (fun a w => min a w.trans) 65535
    let assist := s.flag (base.pc p) PC.CAL_STATUS.ASSIST
    if low < 2 ^ 14 then
      let n := min 255 (s.pcr p PC.CAL_WINDOW.STARVED + 1)
      let s1 := ((s.put (base.pc p) PC.CAL_WINDOW.STARVED n).count (base.pc p) PC.CAL_STARVED.COUNT).upPc p (fun c =>
        { c with winSlots := 0, bursts := 0, burstLeft := 0 })
      if 64 ≤ n && !assist then (s1.put (base.pc p) PC.CAL_STATUS.ASSIST 1).calEvent p 4 0 else s1
    else
      let bursts := min 255 c.bursts
      let s1 := ((s.put (base.pc p) PC.CAL_WINDOW.STARVED 0).put (base.pc p) PC.CAL_WINDOW.TRANS low).put (base.pc p)
        PC.CAL_WINDOW.BURSTS bursts
      let s2 := s1.when (bursts = 0) (fun s => s.put (base.pc p) PC.CAL_STATUS.ASSIST 0)
      let s3 := s2.upPc p (fun c => { c with phase := .judged, window := mine, windowReady := true, burstLeft := 0 })
      if mine.any (fun w => s.drifts p (judgeWindow w.pass)) then s3.driftFlag p else s3

def execCalWindowEnd (pc : Fin 128) (ws : List LaneWindow) (s : State) : Host.Outcome State Fault Refusal :=
  s.act (fun s => s.windowEnd pc ws)

/-- PATTERN_WINDOW_END: every lane's T has reached 2^14 (R287). -/
def Dev.patternEnd (s : Dev) (p : Nat) (ws : List LaneWindow) : Dev :=
  if !s.patternRuns p || (s.pc p).patReady || (s.patternLanes p).any (fun l => (windowOf ws l).trans < 2 ^ 14) then s
  else
    let counted := s.patternCounts p ws
    let s1 := counted.2.upPc p (fun c => { c with patWindow := counted.1, patReady := true, patSlots := 0 })
    if counted.1.any (fun w => s.drifts p (judgeWindow w.pass)) then s1.driftFlag p else s1

def execPatternWindowEnd (pc : Fin 128) (ws : List LaneWindow) (s : State) : Host.Outcome State Fault Refusal :=
  s.act (fun s => s.patternEnd pc ws)

/-! ### The QME's judgement (R283-R285) -/

/-- A lane whose result is rejected a third time in a row is declared failed (R284). -/
def Dev.retireLane (s : Dev) (p lane : Nat) : Dev :=
  let s1 := if lane < 40 then s.failLane p lane 2
    else match s.sparedLane p (lane - 40) with
      | some l => s.failLane p l 2
      | none => s.spareFailed p (lane - 40)
  s1.calEvent p 3 lane

/-- The QME judges one lane: whether it was accepted, and what follows. -/
def Dev.judgeLane (s : Dev) (p : Nat) (write live : Bool) (w : LaneCount) : Bool × Dev :=
  let j := judgeWindow w.pass
  let pair := pairOf w.lane
  let old : Int := s.lane p w.lane (dlyFld write)
  let new := old + j.jump
  let code := if j.width < 8 then 1 else if 8 < j.jump.natAbs || new < 0 || 127 < new then 2 else 0
  let jump := (if 0 ≤ j.jump then j.jump else 32 + j.jump).toNat
  let word := w.pass.toNat + j.width % 64 * 2 ^ 16 + jump % 32 * 2 ^ 22 + code * 2 ^ 27 + (s.drifts p j).toNat * 2 ^ 29
  let s1 := if live then s.put (base.pc p) ⟨0x190 + 4 * pair, 0, 32⟩ word else s
  if code = 0 then
    let s2 := (s1.setLane p w.lane (dlyFld write) new.toNat).setLane p w.lane (rejFld write) 0
    (true, (s2.saveStore p (s.point (p / 32))).count (base.pc p) PC.CAL_ACCEPT.COUNT)
  else
    let s2 := (s1.count (base.pc p) PC.CAL_REJECT.COUNT).calEvent p 2 w.lane
    let n := s.lane p w.lane (rejFld write) + 1
    (false, if n < 3 then s2.setLane p w.lane (rejFld write) n else (s2.setLane p w.lane (rejFld write) 0).retireLane p w.lane)

/-- Every lane of a window is judged; true when none was rejected. -/
def Dev.judgeAll (s : Dev) (p : Nat) (write live : Bool) (ws : List LaneCount) : Bool × Dev :=
  ws.foldl (fun a w => let r := a.2.judgeLane p write live w; (a.1 && r.1, r.2)) (true, s)

/-- The judgement of a live window and the start of the next round (R283-R285). -/
def Dev.judgeLive (s : Dev) (p : Nat) : Dev :=
  let c := s.pc p
  if !c.windowReady then s
  else
    let r := s.judgeAll p (c.round % 2 = 1) true (c.window.filter (fun w => !c.skipPairs.getLsbD (pairOf w.lane)))
    if r.1 then (r.2.upPc p (fun c => c.nextRound.startRound)).calEvent p 1 (targetLane (c.round / 2) 0)
    else r.2.upPc p Pc.startRound

/-- The judgement of a pattern window; the next one takes the other direction (R287). -/
def Dev.judgePattern (s : Dev) (p : Nat) : Dev :=
  let c := s.pc p
  if !c.patReady then s
  else
    let r := s.judgeAll p c.patWrite false c.patWindow
    r.2.upPc p (fun c => { c with patWindow := [], patReady := false, patSlots := 0, patWrite := !c.patWrite })

/-! ### The QME slot (R10-R12, R210, R231) -/

/-- Owner of a slot of the rotation. -/
def Qme.owner (m : Qme) (k : Nat) : Nat := m.swapped.get (fun k => k) k

/-- Next slot of the rotation that a pseudo-channel owns after position k. -/
def Qme.nextSlotOf (m : Qme) (k x : Nat) : Nat :=
  (((List.range 32).map (fun i => (k + 1 + i) % 32)).find? (fun j => m.owner j = x)).getD x

/-- The rotation moves to its next slot (R10, R11): the state after it, and whether the slot was pre-empted. The
pseudo-channel that has waited longest has the slot, unless it gave up a slot of its own that has not come round. -/
def Qme.advance (m : Qme) : Qme × Bool :=
  let k := m.pos
  let o := m.owner k
  let gave := m.gaveUp.filter (fun g => g.2 != k)
  let m1 := { m with pos := (k + 1) % 32, swapped := m.swapped.set (fun k => k) k k, gaveUp := gave }
  let own := ({ m1 with waiting := m.waiting.filter (fun y => y.2 != o), current := o }, false)
  match m.waiting.find? (fun x => !gave.any (fun g => g.1 = x.2)) with
  | some (_, x) =>
    if x = o then own
    else
      let j := m1.nextSlotOf k x
      ({ m1 with swapped := m1.swapped.set (fun k => k) j o, gaveUp := gave ++ [(x, j)], waiting := m.waiting.filter (fun y => y.2 != x)
                 current := x }, true)
  | none => own

/-- The make-up order of R231: one Postponed bank of each bank group in turn, the group with the fewest column commands since
the last slot first (DESIGN CHOICE, notes/assumptions/27.md). -/
def Dev.planRefresh (s : Dev) (p : Nat) : Dev :=
  let used (g : Nat) : Nat := (s.pc p).groupUse.get (fun _ => 0) g
  let groups := sortBy (fun a b => decide (used a ≤ used b)) (List.range 4)
  let banks (g : Nat) : List Nat := ((List.range 32).map dueBank).filter (fun b =>
    b / 8 = g && 0 < s.debt p b && s.debt p b < s.urgentLevel p)
  s.upPc p (fun c => { c with
    makeUp := ((List.range 8).map (fun i => groups.filterMap (fun g => (banks g)[i]?))).flatten, groupUse := [] })

/-- Carder decode in what is left of the slot (R12, R248): how many lines fit is a free value, and the others wait for the
next slot (notes/assumptions/78.md). Outside service the queue is kept (R251). -/
def Dev.drainDecode (s : Dev) (p : Nat) : Dev :=
  if !s.carderRuns p then s
  else
    let f := s.freeValue
    let n := f.1.toNat % 33
    let q := (s.pc p).decodeQ
    (f.2.upPc p (fun c => { c with decodeQ := q.drop n })).each (q.take n) (fun s f => s.carderDecode p f)

/-- REJOINING ends with the slot that began after it (R210). -/
def Dev.endRejoin (s : Dev) (p : Nat) : Dev :=
  if s.pcState p = pcRejoining && (s.pc p).rejoinSlot then s.setPcState p pcServing else s

/-- QME_SLOT: the slot under way ends and the next one begins (R10-R12). -/
def Dev.qmeSlot (s : Dev) (q : Nat) : Dev :=
  if s.rung != rungNoon then s
  else
    let s0 := s.endRejoin (32 * q + (s.qme q).current)
    let r := (s0.qme q).advance
    let m := r.1
    let p := 32 * q + m.current
    let s1 := (((s0.setQme q m).put (base.qme q) QME.SLOT.PC m.current).putFlag (base.qme q) QME.SLOT.PREEMPTED r.2).put
      (base.qme q) QME.SLOT.WAITING m.waiting.length
    let s2 := s1.when r.2 (fun s => s.count (base.qme q) QME.PREEMPT.COUNT)
    let s3 := s2.upPc p (fun c => { c with rejoinSlot := true })
    (((s3.planRefresh p).judgeLive p).judgePattern p).drainDecode p

def execQmeSlot (q : Fin 4) (s : State) : Host.Outcome State Fault Refusal := s.act (fun s => s.qmeSlot q)

/-! ### Training (R269-R273) -/

/-- Lane group of a training step: 10, 0, 1, ..., 9. -/
def groupOfStep (k : Nat) : Nat := if k = 0 then 10 else k - 1

/-- Pseudo-channels of a quadrant in training. -/
def Dev.trainingPcs (s : Dev) (q : Nat) : List Nat := ((List.range 32).map (fun k => 32 * q + k)).filter (fun p => (s.pc p).training.isSome)

/-- A training starts: windows are discarded. -/
def Dev.startTraining (s : Dev) (p : Nat) (seeded : Bool) : Dev :=
  (s.calPause p).upPc p (fun c => { c with training := some ⟨seeded, 0, false⟩ })

/-- A training command from CAL_CTL: taken in INIT or OUT only, held while a training runs, else ignored with event 10.
(DEDUCED, notes/assumptions/80.md) -/
def Dev.calTrain (s : Dev) (p : Nat) (seeded : Bool) : Dev :=
  let f := if seeded then PC.CAL_CTL.RETRAIN else PC.CAL_CTL.FULL_TRAIN
  if s.pcState p != pcInit && s.pcState p != pcOut then (s.put (base.pc p) f 0).calEvent p 10 0
  else if (s.pc p).training.isSome then s.put (base.pc p) f 1
  else (s.put (base.pc p) f 0).startTraining p seeded

def execCalRetrain (pc : Fin 128) (s : State) : Host.Outcome State Fault Refusal := s.act (fun s => s.calTrain pc true)
def execCalFullTrain (pc : Fin 128) (s : State) : Host.Outcome State Fault Refusal := s.act (fun s => s.calTrain pc false)

/-- OUT_RETRAIN: OUT for more than 10 ms, once before the re-initialisation (R272). -/
def Dev.outRetrain (s : Dev) (p : Nat) : Dev :=
  match (s.pc p).outSince with
  | some t =>
    if s.pcState p = pcOut && t + 10000000 < s.now && !(s.pc p).retrained && (s.pc p).training.isNone then s.startTraining p true
    else s
  | none => s

def execOutRetrain (pc : Fin 128) (s : State) : Host.Outcome State Fault Refusal := s.act (fun s => s.outRetrain pc)

/-- The longest run of passing settings within bounds, the lower on equal length (R270): first setting and length. -/
def eyeOf (mask : BitVec 128) (lo hi : Nat) : Nat × Nat :=
  let step (a : (Nat × Nat) × Nat × Nat) (v : Nat) : (Nat × Nat) × Nat × Nat :=
    let best := a.1
    let start := a.2.1
    let len := a.2.2
    if mask.getLsbD v then
      let st := if len = 0 then v else start
      let b := if best.2 < len + 1 then (st, len + 1) else best
      (b, st, len + 1)
    else (best, 0, 0)
  ((((List.range 128).filter (fun v => lo ≤ v && v ≤ hi)).foldl step ((0, 0), 0, 0))).1

/-- The eye of a lane in one direction; a seeded sweep whose eye touches an end of its range is swept in full (R272). -/
def Dev.sweep (s : Dev) (p lane : Nat) (write seeded : Bool) (mask : BitVec 128) : Nat × Nat :=
  let w := s.storeOf p (s.targetPoint p)
  let c := bitsOf w (14 * lane + (if write then 7 else 0)) 7
  let lo := c - 16
  let hi := min 127 (c + 16)
  if seeded && w.testBit 616 then
    let e := eyeOf mask lo hi
    if e.2 = 0 || e.1 = lo || e.1 + e.2 - 1 = hi then eyeOf mask 0 127 else e
  else eyeOf mask 0 127

/-- One lane of a group has been swept (R270, R271). -/
def Dev.trainLane (s : Dev) (p lane : Nat) (seeded : Bool) (rdly wdly : BitVec 128) : Dev :=
  let r := s.sweep p lane false seeded rdly
  let w := s.sweep p lane true seeded wdly
  if 8 ≤ r.2 && 8 ≤ w.2 then
    (s.setLane p lane PC.LANEDLY.RDLY (r.1 + (r.2 - 1) / 2)).setLane p lane PC.LANEDLY.WDLY (w.1 + (w.2 - 1) / 2)
  else if lane < 40 then (s.failLane p lane (if s.pcState p = pcInit then 1 else 2)).calEvent p 6 lane
  else
    match s.sparedLane p (lane - 40) with
    | some l => (s.failLane p l 2).calEvent p 7 lane
    | none => (s.spareFailed p (lane - 40)).calEvent p 7 lane

/-- A training ends: the set of its point is stored, and a training command that was held is taken. -/
def Dev.trainingDone (s : Dev) (p : Nat) : Dev :=
  let s1 := ((s.saveStore p (s.targetPoint p)).upPc p (fun c => { c with training := none, retrained := true })).calEvent p 5 0
  if s1.flag (base.pc p) PC.CAL_CTL.RETRAIN then s1.calTrain p true
  else if s1.flag (base.pc p) PC.CAL_CTL.FULL_TRAIN then s1.calTrain p false
  else s1

/-- A held change goes ahead once every training pseudo-channel has completed its lane group (R288). -/
def Dev.pendingPoint (s : Dev) (q : Nat) : Dev :=
  if s.flag (base.qme q) QME.TRAIN.PENDING && (s.trainingPcs q).all (fun p => match (s.pc p).training with | some t => t.parked | none => true) then
    (s.put (base.qme q) QME.TRAIN.PENDING 0).upQme q (fun m => { m with changing := some (BitVec.ofNat 2 (s.rd (base.qme q) QME.TRAIN.PENDING_POINT)) })
  else s

/-- TRAIN_GROUP_DONE: the lanes of the group that are in use take their new centres; the next group, or the end.
(DEDUCED, notes/assumptions/77.md) -/
def Dev.groupDone (s : Dev) (p : Nat) (sweeps : List LaneSweep) : Dev :=
  match (s.pc p).training with
  | none => s
  | some t =>
    if t.parked then s
    else
      let lanes := ((List.range 4).map (targetLane (groupOfStep t.step))).filter
        (fun l => if l < 40 then s.laneUsed p l else s.pcr p (assignFld (l - 40)) != 0xE)
      let s1 := s.each lanes (fun s l => s.trainLane p l t.seeded (readPasses sweeps l) (writePasses sweeps l))
      if t.step = 10 then (s1.trainingDone p).pendingPoint (p / 32)
      else
        let hold := s.flag (base.qme (p / 32)) QME.TRAIN.PENDING
        (s1.upPc p (fun c => { c with training := some { t with step := t.step + 1, parked := hold } })).pendingPoint (p / 32)

def execTrainGroupDone (pc : Fin 128) (sweeps : List LaneSweep) (s : State) : Host.Outcome State Fault Refusal :=
  s.act (fun s => s.groupDone pc sweeps)

/-- CAL_OVR_GO: loads a lane setting and stores it, while both kinds of calibration are off. -/
def Dev.ovrGo (s : Dev) (p : Nat) : Dev :=
  let s1 := s.put (base.pc p) PC.CAL_OVR.GO 0
  let lane := s.pcr p PC.CAL_OVR.LANE
  if s.flag (base.pc p) PC.CAL_CTL.LIVE_EN || s.flag (base.pc p) PC.CAL_CTL.PATTERN_EN || 43 < lane then s1.calEvent p 10 lane
  else (s1.setLane p lane (dlyFld (s.flag (base.pc p) PC.CAL_OVR.DIR)) (s.pcr p PC.CAL_OVR.VALUE)).saveStore p (s.point (p / 32))

def execCalOvrGo (pc : Fin 128) (s : State) : Host.Outcome State Fault Refusal := s.act (fun s => s.ovrGo pc)

/-! ### Frequency points (R188, R288, R412) -/

def Dev.qmeEvent (s : Dev) (q code : Nat) : Dev := s.post (base.qme q) QME.TRAIN.SEQ QME.TRAIN.EVENT code

/-- A change of a quadrant's point is requested (R288). -/
def Dev.requestPoint (s : Dev) (q r : Nat) : Dev :=
  if s.flag (base.qme q) QME.TRAIN.PENDING then
    if r = s.point q then
      let s1 := (s.put (base.qme q) QME.TRAIN.PENDING 0).qmeEvent q 4
      s1.each (s.trainingPcs q) (fun s p => s.upPc p (fun c => { c with training := c.training.map (fun t => { t with parked := false }) }))
    else (s.put (base.qme q) QME.TRAIN.PENDING_POINT r).qmeEvent q 3
  else if r = s.point q then s
  else if !(s.trainingPcs q).isEmpty then
    let s1 := ((s.put (base.qme q) QME.TRAIN.PENDING 1).put (base.qme q) QME.TRAIN.PENDING_POINT r).qmeEvent q 1
    s1.each (s.trainingPcs q) (fun s p => s.calEvent p 8 0)
  else s.upQme q (fun m => { m with changing := some (BitVec.ofNat 2 r) })

/-- TSV_POINT_REQ: GO in PWR.CLK.TSV_REQ (R412). -/
def Dev.tsvReq (s : Dev) : Dev :=
  let s1 := s.put base.clk CLK.TSV_REQ.GO 0
  let q := s.rd base.clk CLK.TSV_REQ.QUAD
  let r := s.rd base.clk CLK.TSV_REQ.POINT
  if r = 3 then s1.put base.clk CLK.TSV_REQ.RESULT 3
  else if (s.qme q).changing.isSome then s1.put base.clk CLK.TSV_REQ.RESULT 2
  else
    let s2 := s1.requestPoint q r
    s2.put base.clk CLK.TSV_REQ.RESULT (if s2.flag (base.qme q) QME.TRAIN.PENDING then 1 else 0)

def execTsvPointReq (s : State) : Host.Outcome State Fault Refusal := s.act Dev.tsvReq

/-- Every open row of a pseudo-channel is closed as soon as R185 permits. -/
def Dev.closeRows (s : Dev) (p : Nat) : Dev :=
  s.each ((List.range 32).filter (fun b => ((s.pc p).bank b).openRow.isSome)) (fun s b => s.precharge1 p b 0)

/-- TSV_POINT_CHANGE: the controllers stop, rows are closed, windows discarded; a pseudo-channel without a VALID store of
the new point trains in full (R188, R288). -/
def Dev.pointChange (s : Dev) (q : Nat) : Dev :=
  match (s.qme q).changing with
  | none => s
  | some r =>
    s.each ((List.range 32).map (fun k => 32 * q + k)) (fun s p =>
      if (s.pc p).stopped then s
      else
        let s1 := ((s.calPause p).closeRows p).upPc p (fun c => { c with stopped := true })
        if (s1.pc p).training.isNone && !s1.storeValid p r.toNat then s1.startTraining p false else s1)

def execTsvPointChange (q : Fin 4) (s : State) : Host.Outcome State Fault Refusal := s.act (fun s => s.pointChange q)

/-- TSV_POINT_READY: bursts are done and the PHY reports the new point; its settings and the L0 queue depth come into
force (R187, R188). A training that was held starts again at group 10, seeded. -/
def Dev.pointReady (s : Dev) (q : Nat) : Dev :=
  let ps := (List.range 32).map (fun k => 32 * q + k)
  match (s.qme q).changing with
  | none => s
  | some r =>
    let busy (p : Nat) : Bool := !(s.pc p).stopped || !(s.pc p).inFlight.isEmpty ||
      (match (s.pc p).training with | some t => !t.parked | none => false)
    if ps.any busy then s
    else
      let s1 := (s.put (base.qme q) QME.TRAIN.POINT r.toNat).upQme q (fun m => { m with changing := none })
      let s2 := s1.each ps (fun s p =>
        let s1 := if s.storeValid p r.toNat then s.loadStore p r.toNat else s
        let s2 := (s1.put (base.pc p) PC.ARB.RATE r.toNat).put (base.pc p) PC.ARB.L0_DEPTH (l0DepthAt r.toNat)
        let s3 := s2.upPc p (fun c => { c with stopped := false, training := c.training.map (fun _ => ⟨true, 0, false⟩) })
        (s3.pcEvent p 5).calEvent p 9 0)
      s2.qmeEvent q 2

def execTsvPointReady (q : Fin 4) (s : State) : Host.Outcome State Fault Refusal := s.act (fun s => s.pointReady q)

/-! ### Repair candidates and fuse burns (R252-R254) -/

/-- CAND_POP: ignored when the FIFO is empty. -/
def Dev.candPop (s : Dev) : Dev :=
  let s1 := s.put base.ecc ECC.CAND_CTL.POP 0
  { s1 with ecc := { s1.ecc with cands := s1.ecc.cands.drop 1 } }

def execCandPop (s : State) : Host.Outcome State Fault Refusal := s.act Dev.candPop

/-- Spares of a type left in a bank on a die (R252). -/
def Dev.sparesLeft (s : Dev) (f : Fuse) : Nat :=
  (if f.column then 2 else 8) - (s.ecc.fuses.filter (fun x => x.die = f.die && x.pc = f.pc && x.bank = f.bank && x.column = f.column)).length

/-- A burn ends with a result. (DEDUCED, notes/assumptions/81.md) -/
def Dev.fuseEnd (s : Dev) (result : Nat) (f : Fuse) : Dev :=
  ((s.put base.ecc ECC.FUSE_STATUS.RESULT result).put base.ecc ECC.FUSE_STATUS.SPARES_LEFT (s.sparesLeft f)).bump base.ecc
    ECC.FUSE_STATUS.SEQ

/-- FUSE_BURN: GO in FUSE_CMD starts a burn or ends at once (R254). TEST, PROVISIONED and DEPLOYED
may burn. -/
def Dev.fuseBurn (s : Dev) : Dev :=
  let s1 := s.put base.ecc ECC.FUSE_CMD.GO 0
  let col := s.flag base.ecc ECC.FUSE_CMD.TYPE
  let idx := s.rd base.ecc ECC.FUSE_ARG.INDEX
  let f : Fuse := ⟨s.rd base.ecc ECC.FUSE_CMD.DIE, s.rd base.ecc ECC.FUSE_CMD.PC, s.rd base.ecc ECC.FUSE_CMD.BANK, col,
    if col then idx % 32 else idx⟩
  if s.ecc.burning.isSome then s1.fuseEnd 4 f
  else if s.otp.lifecycle = 0 || 3 < s.otp.lifecycle then s1.fuseEnd 2 f
  else if s.sparesLeft f = 0 then s1.fuseEnd 1 f
  else ({ s1 with ecc := { s1.ecc with burning := some f } } : Dev).put base.ecc ECC.FUSE_STATUS.STATE 1

def execFuseBurn (s : State) : Host.Outcome State Fault Refusal := s.act Dev.fuseBurn

/-- FUSE_BURN_DONE: the entry is good when its valid bit was programmed and verified (R254). -/
def Dev.fuseDone (s : Dev) (verified cutOff : Bool) : Dev :=
  match s.ecc.burning with
  | none => s
  | some f =>
    let fs := if verified && !cutOff then s.ecc.fuses ++ [f] else s.ecc.fuses
    let s1 : Dev := { s with ecc := { s.ecc with burning := none, fuses := fs } }
    (s1.put base.ecc ECC.FUSE_STATUS.STATE 0).fuseEnd (if cutOff then 3 else if verified then 0 else 5) f

def execFuseBurnDone (verified cutOff : Bool) (s : State) : Host.Outcome State Fault Refusal :=
  s.act (fun s => s.fuseDone verified cutOff)

end Sys2Proof.Machine
end

