-- ==== Sys2Proof/Machine/Txn.lean ====
section
/-! DEFINITION. Requests (R112-R154): arrival, the checks of R139, acceptance into the queues, demand fault-in (R350,
R351), epoch and region commands (R127-R130, R326), outcome queries (R151, R152), and what a mirror node does (R135,
R136, R319). -/
namespace Sys2Proof.Machine

/-! ### Arrival (R34, R114, R152, R156) -/

/-- A request that has arrived since then waits in a crossbar queue. -/
def Dev.waitsSince (d s : Dev) (r : Req) : Bool :=
  s.fuller.xbarCmds.length < d.fuller.xbarCmds.length ||
  (d.pc (s.place (Req.localAddr r / 64)).pc).xbarQ.any (fun e => s.order ≤ e.order)

/-- A request for the device goes on; one for another node is forwarded, one for nobody answered (R34). A device without
a node ID discards it (R156). A request that waits in a crossbar queue keeps its place in the receive buffer of its port
(R190). -/
def Dev.arrive (s : Dev) (port : Nat) (vc : BitVec 2) (slots : List Slot) (r : Req) (here : Dev → Dev) : Dev :=
  let s1 := s.takeIn port ⟨vc, slots, none⟩
  if s1.node = 0 then s1.count base.tbl TBL.UNREACH_TX.COUNT
  else if vc = vcReq && (Req.node r = 0 || Req.node r = 0xFFF) then s1.answer r (Rsp.code stAddrErr)
  else if Req.node r != s1.node then s1.forward (some port) vc slots
  else
    let d := here s1
    if d.waitsSince s r then d.upFp port (fun f => { f with rxq := (s.fp port).rxq, rxUsed := (s.fp port).rxUsed, freed := (s.fp port).freed })
    else d

/-- A request whose tag is fenced is discarded unless it is a re-issue, which ends the fence (R152).
(DEDUCED, notes/assumptions/47.md) -/
def Dev.fence (s : Dev) (opc : BitVec 5) (r : Req) (go : Dev → Dev) : Dev :=
  match s.recordOf r.src r.tag with
  | .fenced _ =>
    if !r.ri then ((s.count base.txn TXN.STALE_DROP.COUNT).txnEvent 2 r.src).raise srcStale
    else if modifying opc r.sub then go s
    else go (s.setRecord r.src r.tag .none)
  | _ => go s

/-- A REQ request addressed to the device: the fence, then the source's claim of an outcome entry (R147). -/
def Dev.reqHere (s : Dev) (opc : BitVec 5) (r : Req) (go : Dev → Dev) : Dev :=
  s.fence opc r (fun s => go (if modifying opc r.sub then s.claimOutcome r.src else s))

/-- A request that is refused by a check: its answer, and for a modifying one its record (R139, R148).
(DEDUCED, notes/assumptions/48.md) -/
def Dev.refuse (s : Dev) (opc : BitVec 5) (r : Req) (line : Nat) (a : Rsp) : Dev := s.respond opc r line none a

/-! ### Acceptance -/

/-- Tag operations that will need an entry of the write queue. -/
def Dev.pendingTags (s : Dev) (p : Nat) : Nat :=
  let c := s.pc p
  ((c.l1 ++ c.xbarQ ++ c.retryQ ++ c.inFlight.map InFlight.entry ++ s.healWaiters.filter (fun e => (s.place e.line).pc = p)).filter
    (fun e => e.op = .tagOp && e.changes)).length

/-- The write queue has no entry for the request (R141); a partial write that joins its line's merge entry needs none
(R202). -/
def Dev.wqFull (s : Dev) (p : Nat) (e : Entry) : Bool :=
  let full := decide (64 ≤ (s.pc p).wqUsed + s.pendingTags p)
  match e.op with
  | .fullWrite | .mirrorWrite => full
  | .merge => full && !((s.pc p).mergeBuf.any (fun m => m.line = e.line) && s.mergeRoom p e)
  | .tagOp => e.changes && full
  | _ => false

/-- A full write that comes after its line's merge read supersedes the merged line, where no other request of the line
stands between them (R204). (DEDUCED, notes/assumptions/25.md) -/
def Dev.supersede (s : Dev) (p line order : Nat) : Dev :=
  s.upPc p (fun c => { c with mergeBuf := c.mergeBuf.map (fun m =>
    if m.line = line && m.readIssued && !s.mergeClosed p m order then { m with superseded := true } else m) })

/-- A tag operation takes its place: its read is an L1 read (R126). One that back-pressure holds waits in the write queue
(R141, R298). (DEDUCED, notes/assumptions/64.md) -/
def Dev.acceptTag (s : Dev) (p : Nat) (e : Entry) : Dev :=
  if !e.changes then s.placeRead p e
  else
    let s1 := s.writeAccepted e.line false
    if s1.bpHolds e.line then
      ((s1.upPc p (fun c => { c with wq := c.wq ++ [{ e with hold := .backPressure }] })).count base.fcore FULLER.BP_HOLD.COUNT).recordPending
        e.opc e.req e.line e.order
    else ((s1.admitSeedOf e.line).dirtyUnit e.line e.epoch).placeRead p e

/-- A MIR_WR takes its place (R135, R298, R319): held it waits in the write queue, else it is an L2 operation and is
answered. (DEDUCED, notes/assumptions/69.md) -/
def Dev.acceptMirror (s : Dev) (p : Nat) (e : Entry) : Dev :=
  let s1 := s.writeAccepted e.line true
  if s1.bpHolds e.line then
    (s1.upPc p (fun c => { c with wq := c.wq ++ [{ e with hold := .backPressure }] })).count base.fcore FULLER.BP_HOLD.COUNT
  else s1.startMirror p e

/-- A request that passed every check but the room for it is accepted (R148, R190, R191), or finds the write queue full
(R141). A tag operation is accepted once it leaves the crossbar's queue. -/
def Dev.accept (s : Dev) (e0 : Entry) : Dev :=
  let p := (s.place e0.line).pc
  let e := { e0 with epoch := s.epochO }
  if s.wqFull p e then
    ((s.count (base.pc p) PC.BACKPRESSURE_RETRY.COUNT).pcEvent p 2).refuse e.opc e.req e.line (s.retryRsp rsnBackpressure)
  else
    match e.op with
    | .fullWrite => ((s.recordPending e.opc e.req e.line e.order).supersede p e.line e.order).acceptWrite e
    | .merge => (s.recordPending e.opc e.req e.line e.order).acceptPartial e
    | .tagOp => s.acceptTag p e
    | .mirrorWrite => s.acceptMirror p e
    | _ => s.placeRead p e

/-! ### Demand fault-in (R350-R352) -/

/-- A fault-in of a unit starts, while fewer than 256 run: a read on QID 6. -/
def Dev.startFaultIn (s : Dev) (u : Nat) : Dev :=
  if s.pf.faultIns.contains u || s.pf.writing.contains u || 256 ≤ s.pf.faultIns.length then s
  else
    let s1 : Dev := { s with pf := { s.pf with faultIns := s.pf.faultIns ++ [u] } }
    match s1.hbReaders u with
    | n :: _ => s1.nvmeIssue n 6 (.read u none)
    | [] => s1

/-- A request to a line of an unrestored unit waits for its fault-in (R350); a full list refuses it (R351). -/
def Dev.waitFaultIn (s : Dev) (e : Entry) : Dev :=
  if s.pf.waitList.length < 4096 then
    ({ s with pf := { s.pf with waitList := s.pf.waitList ++ [(unitOf e.line, e)] } } : Dev).startFaultIn (unitOf e.line)
  else
    ((s.count base.pf PF.FAULTIN_FULL.COUNT).post base.pf PF.RST_STATUS.SEQ PF.RST_STATUS.EVENT 5).refuse e.opc e.req e.line
      (s.retryRsp (if s.flag base.pf PF.RST_STATUS.MIDNIGHT then rsnRung else rsnStarting))

/-- A request enters its pseudo-channel, or waits for its unit. -/
def Dev.enter (s : Dev) (e : Entry) : Dev := if s.unrestored (unitOf e.line) then s.waitFaultIn e else s.accept e

/-! ### Data requests (R120-R126, R139) -/

/-- Reasons for RETRY_LATER of a data request (R139, R140): those of its line, a full write queue, and for a modifying
request an unmatched or withheld mirror (R41, R321). -/
def Dev.dataReasons (s : Dev) (e : Entry) : List Nat :=
  let p := (s.place e.line).pc
  let mirror := match s.mirrorRegion e.line with
    | some r => modifying e.opc e.req.sub && (!s.fuller.matched.contains r ||
        (s.mirState r = mirBroken && s.flag base.fcore FULLER.CTL.MIR_POLICY))
    | none => false
  s.reasons (some e.line) ++ (if s.wqFull p e then [rsnBackpressure] else []) ++ (if mirror then [rsnMirror] else [])

/-- The checks of R139 that R34, R35, R112, R123 and R138 give a data request. -/
def Dev.dataError (s : Dev) (opc : BitVec 5) (r : Req) : Option Nat :=
  let o := r.addr.toNat % 64
  let line := Req.localAddr r / 64
  let badSub :=
    if opc = opcAtom then decide (9 < r.sub.toNat) else if opc = opcTag then decide (4 < r.sub.toNat) else r.sub != 0
  let badAddr :=
    if opc = opcRd || opc = opcWr then o != 0
    else if opc = opcAtom then o % 8 != 0
    else if opc = opcWrm then decide (64 < o + wrmLen r)
    else false
  if badSub || 2 ≤ r.cls.toNat then some stUnsupported
  else if badAddr || s.inShadow line then some stAddrErr
  else none

/-- A data request addressed to the device. -/
def Dev.dataHere (s : Dev) (port : Nat) (opc : BitVec 5) (r : Req) (op : Op) (data : Content) (aux : BitVec 128) : Dev :=
  s.reqHere opc r (fun s =>
    let line := Req.localAddr r / 64
    match s.dataError opc r with
    | some st => s.refuse opc r line (Rsp.code st)
    | none =>
      let n := s.nextOrder
      let e : Entry := ⟨op, line, n.1, some port, opc, r, data, aux, s.epochO, opc = opcRd && r.cls = 0, none, .none, false, 0⟩
      match lowest (s.dataReasons e) with
      | some rsn =>
        let p := (s.place line).pc
        let s1 := if rsn = rsnBackpressure then (s.count (base.pc p) PC.BACKPRESSURE_RETRY.COUNT).pcEvent p 2 else s
        s1.refuse opc r line (s.retryRsp rsn)
      | none => n.2.enter e)

/-- RD (R120). -/
def Dev.rdIn (s : Dev) (port : Nat) (r : Req) : Dev :=
  s.arrive port vcReq [reqSlot opcRd r] r (fun s => s.dataHere port opcRd r .read 0 0)

def execRd (port : Fin 6) (r : Req) (s : State) : Host.Outcome State Fault Refusal := s.act (fun s => s.rdIn port r)

/-- WR (R121). -/
def Dev.wrIn (s : Dev) (port : Nat) (r : Req) (data : BitVec 512) : Dev :=
  s.arrive port vcReq (reqSlot opcWr r :: dataSlots data) r (fun s => s.dataHere port opcWr r .fullWrite (data.zeroExtend 520) 0)

def execWr (port : Fin 6) (r : Req) (data : BitVec 512) (s : State) : Host.Outcome State Fault Refusal :=
  s.act (fun s => s.wrIn port r data)

/-- Slots of a WRM: header, mask, and the data slots it carries (R122). -/
def wrmSlots (r : Req) (mask : BitVec 128) (data : BitVec 512) : List Slot :=
  [reqSlot opcWrm r, mask] ++ ((dataSlots data).drop (wrmFirst r)).take (wrmLast r + 1 - wrmFirst r)

/-- WRM (R122, R123): with all 64 bytes enabled it runs as a WR. -/
def Dev.wrmIn (s : Dev) (port : Nat) (r : Req) (mask : BitVec 128) (data : BitVec 512) : Dev :=
  let full := decide (r.addr.toNat % 64 + wrmLen r ≤ 64) && wrmEnabled r mask = BitVec.allOnes 64
  s.arrive port vcReq (wrmSlots r mask data) r (fun s =>
    s.dataHere port opcWrm r (if full then .fullWrite else .merge) (data.zeroExtend 520) mask)

def execWrm (port : Fin 6) (r : Req) (mask : BitVec 128) (data : BitVec 512) (s : State) : Host.Outcome State Fault Refusal :=
  s.act (fun s => s.wrmIn port r mask data)

/-- ATOM (R124). -/
def Dev.atomIn (s : Dev) (port : Nat) (r : Req) (slot1 : BitVec 128) : Dev :=
  s.arrive port vcReq [reqSlot opcAtom r, slot1] r (fun s => s.dataHere port opcAtom r .merge 0 slot1)

def execAtom (port : Fin 6) (r : Req) (slot1 : BitVec 128) (s : State) : Host.Outcome State Fault Refusal :=
  s.act (fun s => s.atomIn port r slot1)

/-- TAG (R126). -/
def Dev.tagIn (s : Dev) (port : Nat) (r : Req) : Dev :=
  s.arrive port vcReq [reqSlot opcTag r] r (fun s => s.dataHere port opcTag r .tagOp 0 0)

def execTag (port : Fin 6) (r : Req) (s : State) : Host.Outcome State Fault Refusal := s.act (fun s => s.tagIn port r)

/-! ### Epoch and region commands (R127-R130, R306) -/

/-- The device holds a valid EPOCH region (R128). -/
def Dev.hasEpoch (s : Dev) : Bool := (List.range 64).any (fun r => s.rgnValid r && s.classOf r = clsEpoch)

/-- The Fuller takes a command, which begins execution (R148), or it waits in the crossbar while 256 are deferred
(R306). -/
def Dev.takeCommand (s : Dev) (opc : BitVec 5) (port : Nat) (r : Req) : Dev :=
  let n := s.nextOrder
  let s1 := n.2.recordPending opc r 0 n.1
  let who : Waiter := .fabric port r opc n.1
  if opc = opcEpoch && r.sub = 1 then s1.takeSeal who
  else if opc = opcEpoch then s1.waitDurable who r.arg
  else s1.startFlush who (some (bitsOf r.arg.toNat 0 6))

def Dev.fullerTakes (s : Dev) (opc : BitVec 5) (port : Nat) (r : Req) : Dev :=
  if s.deferredCount < 256 && s.fuller.xbarCmds.isEmpty then s.takeCommand opc port r
  else { s with fuller := { s.fuller with xbarCmds := s.fuller.xbarCmds ++ [(opc, port, r)] } }

/-- Commands that waited in the crossbar are taken as entries free (R190, R306). -/
def Dev.pullCommands (s : Dev) : Dev :=
  match s.fuller.xbarCmds with
  | c :: t =>
    if s.deferredCount < 256 then
      (({ s with fuller := { s.fuller with xbarCmds := t } } : Dev).movesOn (some c.2.1) c.1 c.2.2).takeCommand c.1 c.2.1 c.2.2
    else s
  | [] => s

/-- An EPOCH command for the device: the checks of R139, then the command. -/
def Dev.epochHere (s : Dev) (port : Nat) (r : Req) : Dev :=
  s.reqHere opcEpoch r (fun s =>
    if 2 < r.sub.toNat || 2 ≤ r.cls.toNat then s.refuse opcEpoch r 0 (Rsp.code stUnsupported)
    else
      match lowest (s.reasons none) with
      | some rsn => s.refuse opcEpoch r 0 (s.retryRsp rsn)
      | none =>
        if !s.hasEpoch || (r.sub = 2 && (r.arg = 0 || !atOrAfter s.epochO r.arg)) then s.refuse opcEpoch r 0 (Rsp.code stStateErr)
        else if r.sub = 0 then s.respond opcEpoch r 0 none (Rsp.val s.queryVal)
        else s.fullerTakes opcEpoch port r)

def Dev.epochIn (s : Dev) (port : Nat) (r : Req) : Dev :=
  s.arrive port vcReq [reqSlot opcEpoch r] r (fun s => s.epochHere port r)

/-- EPOCH_QUERY: an EPOCH packet with SUB 0 (R127). (DEDUCED, notes/assumptions/49.md) -/
def execEpochQuery (port : Fin 6) (r : Req) (s : State) : Host.Outcome State Fault Refusal :=
  s.act (fun s => s.epochIn port { r with sub := 0 })

/-- EPOCH_SEAL: an EPOCH packet with SUB 1 (R127, R304, R305). -/
def execEpochSeal (port : Fin 6) (r : Req) (s : State) : Host.Outcome State Fault Refusal :=
  s.act (fun s => s.epochIn port { r with sub := 1 })

/-- EPOCH_WAIT_DURABLE: an EPOCH packet with SUB 2; an EPOCH packet with a reserved SUB is this row's as well and is
answered UNSUPPORTED (R112, R127, R314). -/
def execEpochWaitDurable (port : Fin 6) (r : Req) (s : State) : Host.Outcome State Fault Refusal :=
  s.act (fun s => s.epochIn port (if r.sub.toNat ≤ 2 then { r with sub := 2 } else r))

/-- A REGION command for the device (R130). -/
def Dev.regionHere (s : Dev) (port : Nat) (r : Req) : Dev :=
  s.reqHere opcRegion r (fun s =>
    let n := bitsOf r.arg.toNat 0 6
    if 1 < r.sub.toNat || 2 ≤ r.cls.toNat then s.refuse opcRegion r 0 (Rsp.code stUnsupported)
    else if !s.rgnValid n then s.refuse opcRegion r 0 (Rsp.code stAddrErr)
    else
      match lowest (s.reasons none ++ (if s.quiescedScope (12 + n) then [rsnQuiesce] else [])) with
      | some rsn => s.refuse opcRegion r 0 (s.retryRsp rsn)
      | none =>
        if r.sub = 0 then s.respond opcRegion r 0 none (Rsp.val (s.regionVal n))
        else s.fullerTakes opcRegion port r)

def Dev.regionIn (s : Dev) (port : Nat) (r : Req) : Dev :=
  s.arrive port vcReq [reqSlot opcRegion r] r (fun s => s.regionHere port r)

/-- REGION_QUERY: a REGION packet with SUB 0 (R130). -/
def execRegionQuery (port : Fin 6) (r : Req) (s : State) : Host.Outcome State Fault Refusal :=
  s.act (fun s => s.regionIn port { r with sub := 0 })

/-- REGION_FLUSH: a REGION packet with SUB 1 (R130); one with a reserved SUB is this row's as well. -/
def execRegionFlush (port : Fin 6) (r : Req) (s : State) : Host.Outcome State Fault Refusal :=
  s.act (fun s => s.regionIn port (if r.sub.toNat ≤ 1 then { r with sub := 1 } else r))

/-! ### Outcome queries (R151, R152) -/

/-- The record of a queried tag becomes FENCED unless it is PENDING. -/
def Dev.fenceTag (s : Dev) (src tag : BitVec 12) : Dev :=
  match s.recordOf src tag with
  | .none => s.setRecord src tag (.fenced none)
  | .done o st l => s.setRecord src tag (.fenced (some (o, st, l)))
  | _ => s

/-- An OUTCOME for the device. With OUTCOME_EN = 0 it answers UNTRACKED and leaves the records that there are as they stand
(DESIGN CHOICE, notes/assumptions/190.md). -/
def Dev.outcomeHere (s : Dev) (r : Req) : Dev :=
  s.reqHere opcOutcome r (fun s =>
    if r.sub != 0 || 2 ≤ r.cls.toNat then s.answer r (Rsp.code stUnsupported)
    else
      let s1 := s.answer r (Rsp.val (s.outcomeVal r))
      if s.flag base.txn TXN.CFG.OUTCOME_EN then s1.fenceTag r.src (r.arg.extractLsb' 0 12) else s1)

def Dev.outcomeIn (s : Dev) (port : Nat) (r : Req) : Dev :=
  s.arrive port vcReq [reqSlot opcOutcome r] r (fun s => s.outcomeHere r)

def execOutcome (port : Fin 6) (r : Req) (s : State) : Host.Outcome State Fault Refusal := s.act (fun s => s.outcomeIn port r)

/-! ### Mirror packets received (R135, R136, R319) -/

/-- MIR_WR for the device. A sender always sets TU (R134); without it the line's T3:T0 become 0 (DESIGN CHOICE,
notes/assumptions/191.md). -/
def Dev.mirWrHere (s : Dev) (port : Nat) (r : Req) (data : BitVec 512) : Dev :=
  let line := Req.localAddr r / 64
  if 1 < r.sub.toNat || r.cls = 3 then s.answer r (Rsp.code stUnsupported)
  else if r.addr.toNat % 64 != 0 || s.inShadow line then s.answer r (Rsp.code stAddrErr)
  else
    let n := s.nextOrder
    let c := mkContent data (if r.tu then r.tv else 0) (r.sub.getLsbD 0) 0 false
    let e : Entry := ⟨.mirrorWrite, line, n.1, some port, opcMirWr, r, c, 0, s.epochO, false, none, .none, false, 0⟩
    match lowest (s.reasons (some line) ++ (if s.wqFull (s.place line).pc e then [rsnBackpressure] else [])) with
    | some rsn => s.answer r (s.retryRsp rsn)
    | none => n.2.enter e

def Dev.mirWrIn (s : Dev) (port : Nat) (r : Req) (data : BitVec 512) : Dev :=
  s.arrive port vcPer (reqSlot opcMirWr r :: dataSlots data) r (fun s => s.fence opcMirWr r (fun s => s.mirWrHere port r data))

def execMirWr (port : Fin 6) (r : Req) (data : BitVec 512) (s : State) : Host.Outcome State Fault Refusal :=
  s.act (fun s => s.mirWrIn port r data)

/-- MIR_XCHG for the device (R136): OK for the same span, MIRRORED, naming the sender. -/
def Dev.xchgHere (s : Dev) (r : Req) (slot1 : BitVec 128) : Dev :=
  let span := slot1.toNat % 2 ^ 32
  let same (n : Nat) : Bool := s.rgnValid n && s.classOf n = clsMirrored &&
    s.rd base.rgn (RGN.SPAN.BASE.at 8 n) = RGN.SPAN.BASE.get (BitVec.ofNat 32 span) &&
    s.rd base.rgn (RGN.SPAN.LAST.at 8 n) = RGN.SPAN.LAST.get (BitVec.ofNat 32 span) &&
    s.rd base.rgn (RGN.ATTR.MIRROR_NODE.at 8 n) = r.src.toNat
  if r.sub != 0 || r.cls = 3 then s.answer r (Rsp.code stUnsupported)
  else
    match lowest (s.reasons none) with
    | some rsn => s.answer r (s.retryRsp rsn)
    | none => s.answer r (Rsp.code (if (List.range 64).any same then stOk else stStateErr))

def Dev.mirXchgIn (s : Dev) (port : Nat) (r : Req) (slot1 : BitVec 128) : Dev :=
  s.arrive port vcPer [reqSlot opcMirXchg r, slot1] r (fun s => s.fence opcMirXchg r (fun s => s.xchgHere r slot1))

def execMirXchg (port : Fin 6) (r : Req) (slot1 : BitVec 128) (s : State) : Host.Outcome State Fault Refusal :=
  s.act (fun s => s.mirXchgIn port r slot1)

/-! ### Held packets (R149, R171) -/

/-- A request goes from the queues in which it waited at the crossbar. -/
def Dev.dropWaiting (s : Dev) (port : Nat) (w : Slot) : Dev :=
  let r := reqOfSlot w
  let p := (s.place (Req.localAddr r / 64)).pc
  let s1 := s.upPc p (fun c => { c with xbarQ := c.xbarQ.eraseP (fun e => e.port = some port && e.opc = slotOpc w && e.req = r) })
  { s1 with fuller := { s1.fuller with xbarCmds := s1.fuller.xbarCmds.erase (slotOpc w, port, r) } }

/-- Requests that wait at the crossbar after they arrived on a port, in the order in which they are looked for. -/
def Dev.xbarWaiting (s : Dev) (port : Nat) : List Slot :=
  ((List.range 128).map (fun p => ((s.pc p).xbarQ.filter (fun e => e.port = some port)).map (fun e => reqSlot e.opc e.req))).flatten ++
  (s.fuller.xbarCmds.filter (fun c => c.2.1 = port)).map (fun c => reqSlot c.1 c.2.2)

/-- A forwarded packet of a virtual channel that arrived on a port and still waits to be sent: the port that sends it, and
the packet. -/
def Dev.txWaiting (s : Dev) (port : Nat) (vc : BitVec 2) : Option (Nat × Packet) :=
  (List.range 6).findSome? (fun n => ((s.fp n).txq.find? (fun k => k.vc = vc && k.inp = some port)).map (fun k => (n, k)))

/-- The oldest packet of a virtual channel that a port holds goes without response: one in the receive buffer, be it on its
way or at the crossbar, or one that waits to be forwarded. Packets whose first slot has been sent go on (DESIGN CHOICE,
notes/assumptions/192.md). -/
def Dev.discardHeld (s : Dev) (port : Nat) (vc : BitVec 2) : Dev :=
  let done (s : Dev) (w : Slot) : Dev :=
    ((s.count base.txn TXN.HOLD_DISCARD.COUNT).txnEvent 3 (reqOfSlot w).src).raise srcHoldDiscard
  match (s.fp port).rxq.find? (fun k => k.vc = vc) with
  | some k => done ((s.takeIn port k).dropWaiting port (k.slots.headD 0)) (k.slots.headD 0)
  | none =>
    match if vc = vcReq then (s.xbarWaiting port).head? else none with
    | some w => done (s.dropWaiting port w) w
    | none =>
      match s.txWaiting port vc with
      | some (n, k) => done (s.upFp n (fun f => { f with txq := f.txq.erase k })) (k.slots.headD 0)
      | none => s

/-- HOLD_DISCARD: the oldest REQ packet of a port that has been held for more than 100 us (R149). -/
def execHoldDiscard (port : Fin 6) (s : State) : Host.Outcome State Fault Refusal := s.act (fun s => s.discardHeld port vcReq)

/-- MGT_HOLD_DISCARD (R171). -/
def execMgtHoldDiscard (port : Fin 6) (s : State) : Host.Outcome State Fault Refusal := s.act (fun s => s.discardHeld port vcMgt)

end Sys2Proof.Machine
end

