-- ==== Sys2Proof/Machine/Fabric.lean ====
section
/-! DEFINITION. Discovery, broadcasts, routing commands and time (R155-R181), and the translation assist (R46, R47). -/
namespace Sys2Proof.Machine

/-! ### Broadcasts (R163) -/

/-- A packet of a kind that is always a broadcast arrives (R163): the duplicate filter, the act, the forwarding. One
with another destination is routed like any packet, and at its destination its address is invalid (DESIGN CHOICE,
notes/assumptions/28.md). -/
def Dev.bcastIn (s : Dev) (port : Nat) (slots : List Slot) (r : Req) (act : Dev → Dev) : Dev :=
  if Req.node r = 0xFFF then
    let b := (s.takeIn port ⟨vcMgt, slots, none⟩).bcastPass port r
    if b.1 then (act b.2).bcastForward (some port) slots else b.2
  else s.arrive port vcMgt slots r (fun s => s.answer r (Rsp.code stAddrErr))

/-- Node policy in force: 0 FIXED, 1 ASSIGNED. -/
def Dev.nodePolicy (s : Dev) : Nat := s.rd base.rnode NODE.ID.POLICY

/-- A new node ID takes effect, with a HELLO on every port (R158, R160). -/
def Dev.takeNode (s : Dev) (id : Nat) : Dev :=
  let s1 := (s.put base.rnode NODE.ID.NODE id).helloAll
  s1.each (List.range 6) (fun s n => s.evalPort n)

/-- The condition of R157 that refuses a NODE_ASSIGN. -/
def Dev.assignRefused (s : Dev) (r : Req) : Bool :=
  let id := bitsOf r.arg.toNat 0 12
  id = 0 || id = 0xFFF || s.nodePolicy = 0 || (s.node != 0 && !r.arg.getLsbD 12) ||
  (List.range 6).any (fun n => s.routable n && s.nbr n RPORT.NBR.NODE = id) ||
  (List.range 64).any (fun g => s.rgnValid g && s.classOf g = clsMirrored && s.rd base.rgn (RGN.ATTR.MIRROR_NODE.at 8 g) = id)

/-- NODE_ASSIGN at the device (R157). -/
def Dev.assignHere (s : Dev) (r : Req) (slot1 : Slot) : Dev :=
  if bitsOf slot1.toNat 0 64 != s.uid then s
  else
    let refused := s.assignRefused r
    let s1 := if refused then s else
      (s.takeNode (bitsOf r.arg.toNat 0 12)).post base.rnode NODE.STATUS.SEQ NODE.STATUS.EVENT 1
    s1.answer r ⟨if refused then stStateErr else stOk, 0, 0, BitVec.ofNat 64 s.uid, none⟩

def Dev.nodeAssign (s : Dev) (port : Nat) (r : Req) (slot1 : Slot) : Dev :=
  s.bcastIn port [reqSlot opcNodeAssign r, slot1] r (fun s => s.fence opcNodeAssign r (fun s => s.assignHere r slot1))

def execNodeAssign (port : Fin 6) (r : Req) (slot1 : BitVec 128) (s : State) : Host.Outcome State Fault Refusal :=
  s.act (fun s => s.nodeAssign port r slot1)

/-- ALERT: forwarded, and delivered to the host ports in any case (R181). -/
def Dev.alertIn (s : Dev) (port : Nat) (r : Req) : Dev :=
  let slots := [reqSlot opcAlert r]
  s.bcastIn port slots r (fun s =>
    if r.hops != 0 then s
    else s.each ((s.bcastPorts (some port)).filter (fun n => s.nbr n RPORT.NBR.KIND = 1)) (fun s n => s.emitFrom (some port) n vcMgt slots))

def execAlert (port : Fin 6) (r : Req) (s : State) : Host.Outcome State Fault Refusal := s.act (fun s => s.alertIn port r)

def execDupFilterExpire (s : State) : Host.Outcome State Fault Refusal := s.act (fun s => { s with dups := s.dups.drop 1 })

/-! ### HELLO (R159-R162, R177) -/

/-- A received HELLO is recorded, and its port evaluated (R161, R162). -/
def Dev.helloIn (s : Dev) (n : Nat) (w : Slot) : Dev :=
  let b := base.rport n
  let s1 := s.takeIn n ⟨vcMgt, [w], none⟩
  let f (lo len : Nat) : Nat := bitsOf w.toNat lo len
  let s2 := (((s1.put b RPORT.NBR.NODE (f 12 12)).put b RPORT.NBR.PORT (f 24 3)).put b RPORT.NBR.KIND (f 27 2)).put b
    RPORT.NBR.DIR (f 29 2)
  (((s2.put b RPORT.NBR_GEN.GEN (f 32 16)).setWide b 1 (f 64 64)).put b RPORT.NBR.HEARD 1).evalPort n

def execHello (port : Fin 6) (hdr : BitVec 128) (s : State) : Host.Outcome State Fault Refusal :=
  s.act (fun s => s.helloIn port hdr)

def execHelloTimer (s : State) : Host.Outcome State Fault Refusal := s.act Dev.helloAll

def execHelloLost (port : Fin 6) (s : State) : Host.Outcome State Fault Refusal := s.act (fun s => s.raise (srcHelloLost port))

/-- ACCEPT records the present neighbour (R177). -/
def Dev.portAccept (s : Dev) (n : Nat) : Dev :=
  if s.nbr n RPORT.NBR.HEARD = 1 then
    (s.upFp n (fun p => { p with
      recorded := some (BitVec.ofNat 12 (s.nbr n RPORT.NBR.NODE), BitVec.ofNat 64 (s.wideOf (base.rport n) 1)) })).evalPort n
  else s.put (base.rport n) RPORT.NBR.MISMATCH 0

def execPortAccept (port : Fin 6) (s : State) : Host.Outcome State Fault Refusal := s.act (fun s => s.portAccept port)

/-! ### Time (R179, R180) -/

/-- Header of a SYNC of the device; it travels one hop and names no destination (DESIGN CHOICE: its TAG is the one it
answers, notes/assumptions/29.md). -/
def Dev.syncSlot (s : Dev) (sub : BitVec 6) (tag : BitVec 12) : Slot :=
  reqSlot opcSync ⟨0, 0, false, tag, BitVec.ofNat 12 s.node, 0, false, 0, sub, 0⟩

/-- A received DELAY_REQ is answered at once on its port: T2 is the timestamp at its arrival, T3 the one at which the
answer's flit leaves (R179). -/
def Dev.syncReq (s : Dev) (n : Nat) (cls : BitVec 2) (hops : BitVec 4) (tag src : BitVec 12) (t1 : BitVec 64) : Dev :=
  let w := reqSlot opcSync ⟨cls, hops, false, tag, src, 0, false, 0, 1, 0⟩
  let s1 := s.takeIn n ⟨vcMgt, [w, BitVec.zeroExtend 128 t1, 0], none⟩
  s1.emit n vcMgt [s1.syncSlot 2 tag, BitVec.ofNat 64 s.stamp ++ t1, 0]

def execSyncDelayReq (port : Fin 6) (cls : BitVec 2) (hops : BitVec 4) (tag src : BitVec 12) (t1 : BitVec 64) (s : State) :
    Host.Outcome State Fault Refusal := s.act (fun s => s.syncReq port cls hops tag src t1)

/-- Time synchronisation runs: the device is not the root and has one. -/
def Dev.syncs (s : Dev) : Bool := !s.flag base.sync SYNC.CFG.ROOT && s.rd base.sync SYNC.CFG.ROOT_NODE != 0

/-- The offset of an exchange, in ns (R180); an odd sum is rounded towards minus infinity (DESIGN CHOICE,
notes/assumptions/30.md). -/
def syncOffset (t1 t2 t3 t4 : BitVec 64) : Int := ((t2 - t1).toInt - (t4 - t3).toInt) / 2

/-- An offset as the 16-bit OFFSET field shows it: two's complement, saturating. -/
def offsetField (o : Int) : Nat := ((max (-32768) (min 32767 o)) % 65536).toNat

/-- A DELAY_RSP yields an offset, with T4 the timestamp at its arrival: the timestamp is slewed, or stepped when it exceeds
1 us; LOCKED follows the last four (R180). -/
def Dev.syncRsp (s : Dev) (n : Nat) (tag : BitVec 12) (t1 t2 t3 : BitVec 64) : Dev :=
  let s0 := match (s.fp n).rxq.find? (fun p => p.vc = vcMgt && (p.slots.headD 0).extractLsb' 0 5 = opcSync &&
      (reqOfSlot (p.slots.headD 0)).tag = tag &&
      p.slots.drop 1 = [t2 ++ t1, BitVec.zeroExtend 128 t3]) with
    | some p => s.takeIn n p
    | none => s
  if !s0.syncs then s0
  else
    let o := syncOffset t1 t2 t3 (BitVec.ofNat 64 s.stamp)
    let offs := (o :: s0.offsets).take 4
    let locked := offs.length = 4 && offs.all (fun x => decide (x.natAbs ≤ 10))
    let s1 : Dev := { s0 with offsets := offs }
    let s2 : Dev := if o.natAbs ≤ 1000 then { s1 with slew := o }
      else ({ s1 with skew := s1.skew + o, slew := 0 } : Dev).raise srcTimeStep
    let s3 := s2.when (s0.flag base.sync SYNC.STATUS.LOCKED && !locked) (fun s => s.raise srcSyncLost)
    (s3.put base.sync SYNC.STATUS.OFFSET (offsetField o)).putFlag base.sync SYNC.STATUS.LOCKED locked

def execSyncDelayRsp (port : Fin 6) (tag : BitVec 12) (t1 t2 t3 : BitVec 64) (s : State) : Host.Outcome State Fault Refusal :=
  s.act (fun s => s.syncRsp port tag t1 t2 t3)

/-- Every 1 ms a DELAY_REQ leaves by the PRI port of the root's entry (R180); T1 is stamped as its flit leaves (R179). An
entry with LIMIT = 0, or a port that is not ACTIVE, sends none (DESIGN CHOICE, notes/assumptions/185.md). -/
def Dev.syncTick (s : Dev) : Dev :=
  if !s.syncs then s
  else
    let e := (s.route (s.rd base.tbl TBL.GEN.ACTIVE_BANK) (s.rd base.sync SYNC.CFG.ROOT_NODE)).toNat
    let o := bitsOf e 0 3
    if bitsOf e 6 4 != 0 && o ≤ 5 && s.fpState o = fpActive then
      s.emit o vcMgt [s.syncSlot 1 0, 0, 0]
    else s

def execSyncTimer (s : State) : Host.Outcome State Fault Refusal := s.act Dev.syncTick

/-- The timestamp slews by at most 1 ns per us (R180): one step, at each microsecond of device time. -/
def Dev.slewStep (s : Dev) : Dev :=
  if 0 < s.slew then { s with skew := s.skew + 1, slew := s.slew - 1 }
  else if s.slew < 0 then { s with skew := s.skew - 1, slew := s.slew + 1 }
  else s

/-! ### Forwarding and the routing table (R156, R166-R168, R175) -/

/-- A packet for another node that the crossbar looks up (R167); a REQ for node 0x000 or 0xFFF is answered ADDR_ERR
(R34). HELLO, SYNC and broadcasts are not routed, and a packet for the device itself is another command's. A response that goes on teaches the way back to its sender (R168). -/
def Dev.forwardPacket (s : Dev) (inp : Option Nat) (vc : BitVec 2) (slots : List Slot) : Dev :=
  match slots with
  | [] => s
  | w :: _ =>
    let rsp := vc = vcRsp
    let dst := if rsp then bitsOf w.toNat 24 12 else bitsOf w.toNat 73 12
    let nobody := vc = vcReq && (dst = 0 || dst = 0xFFF)
    if !rsp && !nobody && (slotOpc w = opcHello || slotOpc w = opcSync || dst = 0xFFF) then s
    else if dst = s.node && s.node != 0 then s
    else
      let s1 := match inp with | some n => s.takeIn n ⟨vc, slots, none⟩ | none => s
      if s1.node = 0 && inp.isSome then s1.count base.tbl TBL.UNREACH_TX.COUNT
      else if nobody then s1.answer (reqOfSlot w) (Rsp.code stAddrErr)
      else
        let s2 := s1.forward inp vc slots
        match inp, s1.lookup inp dst (bitsOf w.toNat 7 4) vc with
        | some n, .out _ _ => if rsp then s2.learn (bitsOf w.toNat 36 12) n else s2
        | _, _ => s2

def execForwardPacket (port : Option (Fin 6)) (vc : BitVec 2) (slots : List (BitVec 128)) (s : State) :
    Host.Outcome State Fault Refusal := s.act (fun s => s.forwardPacket (port.map Fin.val) vc slots)

/-- GO in ROUTE.TBL.SWITCH (R175). -/
def Dev.routeSwitch (s : Dev) : Dev :=
  let s1 := (s.put base.tbl TBL.GEN.ACTIVE_BANK (1 - s.rd base.tbl TBL.GEN.ACTIVE_BANK)).put base.tbl TBL.GEN.GEN
    (s.rd base.tbl TBL.SWITCH.NEW_GEN)
  s1.helloAll.post base.rnode NODE.STATUS.SEQ NODE.STATUS.EVENT 2

def execRouteSwitch (s : State) : Host.Outcome State Fault Refusal := s.act Dev.routeSwitch

/-- CLEAR_LEARNED in ROUTE.TBL.SWITCH (R168). -/
def Dev.clearLearned (s : Dev) : Dev := s.clearLearnedBy (fun _ => true)

def execClearLearned (s : State) : Host.Outcome State Fault Refusal := s.act Dev.clearLearned

/-- A write of ROUTE.TBL.ENTRY stores PRI, ALT and LIMIT with LEARNED = 0, and INDEX may advance (R166). -/
def Dev.entryWrite (s : Dev) (v : Word) : Dev :=
  let i := s.rd base.tbl TBL.SEL.INDEX
  let s1 := s.setRoute (s.rd base.tbl TBL.SEL.BANK) i (BitVec.ofNat 16 (v.toNat % 1024))
  if s.flag base.tbl TBL.SEL.AUTOINC then s1.put base.tbl TBL.SEL.INDEX (i + 1) else s1

def execRouteEntryWrite (v : BitVec 32) (s : State) : Host.Outcome State Fault Refusal := s.act (fun s => s.entryWrite v)

/-! ### Translation assist (R46, R47) -/

/-- GO in XLATE_CTL samples the address and clears VALID (R46). -/
def Dev.xlateGo (s : Dev) : Dev :=
  let a := s.rd base.amap AMAP.XLATE_ADDR_HI.ADDR_HI * 2 ^ 32 + s.rd base.amap AMAP.XLATE_ADDR_LO.ADDR_LO
  ({ s with xlate := some (BitVec.ofNat 37 a) } : Dev).put base.amap AMAP.XLATE_RES0.VALID 0

def execXlateGo (s : State) : Host.Outcome State Fault Refusal := s.act Dev.xlateGo

/-- A structural reload of the address map is in progress: the whole device is quiesced for an image that changes
INTERLEAVE, BANK_HASH or SHADOW_GIB (R43, R47). A reload of region entries alone is none.
(DEDUCED, notes/assumptions/57.md) -/
def Dev.mapReload (s : Dev) : Bool :=
  s.batt.quiesced.contains 0 && match s.batt.cmd with | some (im, _) => s.mapDiffers im | none => false

/-- The decode of a local address, as XLATE_RES0 and XLATE_RES1 show it. (DEDUCED, notes/assumptions/50.md) -/
def Dev.xlateRes (s : Dev) (a : Nat) : Word × Word :=
  let l := a / 64
  let p := s.place l
  let rgn := s.regionOf l
  let r0 := p.pc + tierOf p.pc * 2 ^ 7 + quadOf p.pc * 2 ^ 8 + p.pc / 2 * 2 ^ 10 + p.bank / 8 * 2 ^ 16 +
    p.bank % 8 * 2 ^ 18 + p.col * 2 ^ 21 + 2 ^ 31
  let r1 := p.row + (if s.inShadow l then 0 else rgn.getD 0) * 2 ^ 14 + s.lineClass l * 2 ^ 20 +
    (s.inShadow l).toNat * 2 ^ 22 + rgn.isNone.toNat * 2 ^ 23
  (BitVec.ofNat 32 r0, BitVec.ofNat 32 r1)

/-- The translation ends, unless a structural reload holds it (R46, R47). -/
def Dev.xlateDone (s : Dev) : Dev :=
  match s.xlate with
  | none => s
  | some a =>
    if s.mapReload then s
    else
      let r := s.xlateRes a.toNat
      (({ s with xlate := none } : Dev).put base.amap AMAP.XLATE_RES1.reg r.2.toNat).put base.amap AMAP.XLATE_RES0.reg r.1.toNat

def execXlateDone (s : State) : Host.Outcome State Fault Refusal := s.act Dev.xlateDone

end Sys2Proof.Machine
end

