-- ==== Sys2Proof/Machine/Wire.lean ====
section
/-! DEFINITION. The Wiesh link on its lanes: flit layout (R81, R82, R86, R87), striping, scrambling and PAM4 levels
(R84, R85), the training frames the device sends (R78), and the transmitter that puts flits and frames on the lanes
(R76, R88, R90, R96). -/
namespace Sys2Proof.Machine

/-! ### Lane maps -/

/-- Nibble k of a lane map: the physical lane of logical lane k. -/
def Dev.mapOf (s : Dev) (n : Nat) (f : Fld) (k : Nat) : Nat := bitsOf (s.rd (base.fp n) f) (4 * k) 4

/-- A logical lane assigned to a physical lane. -/
def Dev.setMap (s : Dev) (n : Nat) (f : Fld) (k pl : Nat) : Dev := s.put (base.fp n) ⟨f.off, 4 * k, 4⟩ pl

/-- The logical lane that a map assigns to a physical lane. -/
def Dev.llOf (s : Dev) (n : Nat) (f : Fld) (pl : Nat) : Option Nat :=
  (List.range 8).find? (fun k => s.mapOf n f k = pl)

/-- Lanes of a WIDTH, TX_WIDTH or RX_WIDTH code: 0 x8, 1 x4, 2 x2. -/
def lanesOf (code : Nat) : Nat := if code = 0 then 8 else if code = 1 then 4 else 2

/-! ### Flit layout (R81, R82, R86, R87) -/

def fkNull : Nat := 0
def fkData : Nat := 1
def fkLctl : Nat := 2
def fkNak : Nat := 3

/-- A flit from its fields: payload, slot descriptors, kind, SEQ, ACK, CR_VC, CR_TOTAL; CRC and FEC are computed. -/
def mkFlit (payload : BitVec 512) (desc : BitVec 16) (fk : Nat) (seq ack : BitVec 12) (crVc : BitVec 2) (crTotal : BitVec 10) :
    BitVec 640 :=
  let head : BitVec 568 := crTotal ++ crVc ++ ack ++ seq ++ BitVec.ofNat 4 fk ++ desc ++ payload
  let body := head.toNat + crc32c (bytesOf head.toNat 71) * 2 ^ 568
  let m := (List.range 60).map (fun s => body / 2 ^ (10 * s) % 1024)
  lineOfSymbols (m ++ rsCheck 4 m)

/-- A flit after its receive code: the corrected bits and the symbols corrected; none: damaged (R87). -/
def flitDecode (w : BitVec 640) : Option (Nat × List Nat) :=
  match rsDecode 4 (symbolsOf w) [] with
  | none => none
  | some r =>
    let v := (lineOfSymbols r.word).toNat
    if bitsOf v 568 32 = crc32c (bytesOf (v % 2 ^ 568) 71) ∧ bitsOf v 528 4 ≤ fkNak then some (v, r.changed) else none

/-! ### Striping, scrambling and levels (R84, R85) -/

/-- Bits of one flit on logical lane k of an xW direction: its symbols in ascending order, each least significant bit
first (R84). -/
def laneBits (flit : BitVec 640) (w k : Nat) : Nat :=
  (List.range (64 / w)).foldr (fun i acc => flit.toNat / 2 ^ (10 * (w * i + k)) % 1024 + 1024 * acc) 0

/-- The flit that the logical lanes of an xW direction bring (R84): inverse of `laneBits`. -/
def flitOfLanes (w : Nat) (bits : Nat → Nat) : BitVec 640 :=
  lineOfSymbols ((List.range 64).map (fun s => bits (s % w) / 1024 ^ (s / w) % 1024))

/-- Seed of the scrambler of logical lane k (R85). -/
def scrSeed (k : Nat) : Nat := 0x3FFFFFFFFFFFF00 + k

/-- One step of the scrambler x^58 + x^39 + 1: the bit put out and the next state (R85; which end of the register puts
out is DEDUCED, notes/assumptions/170.md). -/
def scrBit (s : Nat) : Nat × Nat :=
  let b := (s / 2 ^ 57 + s / 2 ^ 38) % 2
  (b, (2 * s + b) % 2 ^ 58)

/-- Steps of the scrambler: its bits, the first least significant, and the state after them. -/
def scrRun : Nat → Nat → Nat × Nat
  | 0, s => (0, s)
  | k + 1, s =>
    let x := scrBit s
    let y := scrRun k x.2
    (x.1 + 2 * y.1, y.2)

/-- PAM4 levels of a bit stream, two bits a level: (b, b') gives 00→0, 01→1, 11→2, 10→3 with b' the most significant bit
(R84). Its own inverse. -/
def gray (bits : BitVec 320) : BitVec 320 :=
  bits ^^^ ((bits >>> 1) &&& BitVec.ofNat 320 ((2 ^ 320 - 1) / 3))

/-- Keystream of logical lane k for the next flit of an xW direction, and the scramblers after it. -/
def scrFlit (scr : Tab Nat) (w : Nat) : List Nat × Tab Nat :=
  (List.range w).foldl (fun (acc : List Nat × Tab Nat) k =>
    let x := scrRun (640 / w) (scr.get scrSeed k)
    (acc.1 ++ [x.1], acc.2.set scrSeed k x.2)) ([], scr)

/-! ### Received lanes -/

/-- Bits that came for logical lane k of the receive direction, when it is read from a physical lane. -/
def RxFlit.bits (r : RxFlit) (pins : Tab Nat) (k pl : Nat) : Nat :=
  (gray (r.lanes.getD (pins.get id pl) 0)).toNat ^^^ r.keys.getD k 0

/-- The flit that the lanes brought, read through the lane map with one logical lane, if any, taken from another physical
lane (R76, R101, R102). -/
def Dev.readFlit (s : Dev) (n : Nat) (r : RxFlit) (subst : Option (Nat × Nat)) : BitVec 640 :=
  let w := lanesOf (s.rd (base.fp n) FP.STATUS.RX_WIDTH)
  flitOfLanes w (fun k =>
    r.bits (s.fp n).pins k (match subst with
      | some (j, pl) => if k = j then pl else s.mapOf n FP.RX_LANE_MAP.reg k
      | none => s.mapOf n FP.RX_LANE_MAP.reg k))

/-! ### Transmitter -/

/-- Physical lane of the transmit spare: the lane that the partner's CONFIG gave the role 0xE (R78), normally 8. -/
def Fp.txSpareLane (f : Fp) : Nat :=
  ((List.range 9).find? (fun pl => bitsOf f.config.toNat (2 + 4 * pl) 4 = 14)).getD 8

/-- A received LANE_TEST asks for training frames on a lane for up to 200 us (R100). -/
def Dev.txTestLane (s : Dev) (n : Nat) : Option Nat :=
  match (s.fp n).txTest with
  | some (pl, t) => if s.now < t + 200000 then some pl.toNat else none
  | none => none

/-- Good lanes of a mask of failed ones, ascending. -/
def goodLanes (failed : BitVec 9) : List Nat := (List.range 9).filter (fun i => !failed.getLsbD i)

/-- The widest width that a number of good lanes allows, in lanes: 8, 4, 2 or 0 (R74). -/
def widthFor (good : Nat) : Nat := if 8 ≤ good then 8 else if 4 ≤ good then 4 else if 2 ≤ good then 2 else 0

/-- WIDTH and TX_WIDTH code of a width: 0 x8, 1 x4, 2 x2, 3 none. -/
def widthCode (w : Nat) : Nat := if w = 8 then 0 else if w = 4 then 1 else if w = 2 then 2 else 3

/-- Role that the receiver's choice in CONFIG gives a physical lane (R78, R79): logical lanes on its good lanes in
ascending physical order, 0xE the spare on the next good lane, 0xF unused. Lanes are graded by number (DESIGN CHOICE,
notes/assumptions/16.md). -/
def laneRole (failed : BitVec 9) (pl : Nat) : Nat :=
  let good := goodLanes failed
  let w := widthFor good.length
  if (good.take w).contains pl then good.idxOf pl else if good.getD w 15 = pl then 0xE else 0xF

/-- USE112 as this end sends it in RATE (R79). -/
def Dev.use112 (s : Dev) (n : Nat) : Bool :=
  s.rd (base.fp n) FP.CFG.RATE_CAP = 0 && (s.fp n).partnerCap112 && !(s.fp n).eqFail112

/-- The training frame that the device sends on a physical lane (R78); STATE 3 on a lane under test and where the
transmitter resumes from idle (DEDUCED, notes/assumptions/171.md). -/
def Dev.frameOut (s : Dev) (n pl : Nat) : BitVec 160 :=
  let f := s.fp n
  let st := s.fpState n
  let state := if fpLock ≤ st ∧ st ≤ fpConfig then st - 1 else 3
  let role := (List.range 9).foldr (fun i acc => laneRole f.laneFailed i + 16 * acc) 0
  let cfg := if st = fpConfig then 2 ^ 52 * widthCode (widthFor (goodLanes f.laneFailed).length) + 2 ^ 56 * role else 0
  let body := 0xF0D42B3C + 2 ^ 32 * pl + 2 ^ 36 * state + 2 ^ 40 * (1 - s.rd (base.fp n) FP.CFG.RATE_CAP) +
    2 ^ 41 * (s.use112 n).toNat + 2 ^ 42 * (f.ffeReq.get (fun _ => 0) pl).toNat +
    2 ^ 46 * (f.ffeStat.get (fun _ => 0xA) pl).toNat + 2 ^ 50 * (f.eqDone.getLsbD pl).toNat +
    2 ^ 51 * (f.laneFailed.getLsbD pl).toNat + cfg
  BitVec.ofNat 160 (body + 2 ^ 144 * crc16 body 144) ^^^ ((Config.prbs13.zeroExtend 160) <<< 32)

/-- Levels of a training frame. -/
def Dev.frameLevels (s : Dev) (n pl : Nat) : BitVec 320 := gray ((s.frameOut n pl).zeroExtend 320)

/-- Every lane carries a training frame of its own, the spare too (R76, R78). -/
def Dev.putFrames (s : Dev) (n : Nat) : Dev :=
  s.upFp n (fun p => { p with lanes := (List.range 9).map (fun pl => (pl, s.frameLevels n pl)) })

/-- What the lanes carry of a flit: each logical lane its scrambled bits on its physical lane, the spare in SHADOW(k) the
same bits as logical lane k, a lane under test a training frame (R76, R84, R85, R100). -/
def Dev.laneLevels (s : Dev) (n : Nat) (flit : BitVec 640) (keys : List Nat) : List (Nat × BitVec 320) :=
  let f := s.fp n
  let w := keys.length
  let lv (k : Nat) : BitVec 320 := gray (BitVec.ofNat 320 (laneBits flit w k ^^^ keys.getD k 0))
  let data := (List.range w).map (fun k => (s.mapOf n FP.TX_LANE_MAP.reg k, lv k))
  let shadow := if s.rd (base.fp n) FP.STATUS.TX_SPARE = 1 then [(f.txSpareLane, lv f.txShadow.toNat)] else []
  data ++ shadow ++ (match s.txTestLane n with
    | some pl => if (s.llOf n FP.TX_LANE_MAP.reg pl).isNone then [(pl, s.frameLevels n pl)] else []
    | none => [])

/-- A flit goes out: ACK = E - 1 and the next virtual channel's freed-slot total are put in (R90, R96); its lanes carry
it scrambled (R84, R85). -/
def Dev.putFlit (s : Dev) (n : Nat) (payload : Nat) (desc fk : Nat) (seq : BitVec 12) : Dev :=
  let f := s.fp n
  let ack := BitVec.ofNat 12 (s.rd (base.fp n) FP.LINK_SEQ.RX_EXPECTED + 4095)
  let w := mkFlit (BitVec.ofNat 512 payload) (BitVec.ofNat 16 desc) fk seq ack f.crTurn (f.freed.get (fun _ => 0) f.crTurn.toNat)
  let k := scrFlit f.txScr (lanesOf (s.rd (base.fp n) FP.STATUS.TX_WIDTH))
  s.setFp n { f with
    wire := w, lanes := s.laneLevels n w k.1, txScr := k.2, crTurn := f.crTurn + 1
    sinceNull := if fk = fkNull then 0 else f.sinceNull + 1 }

/-- A NULL flit (R82, R99). -/
def Dev.sendNull (s : Dev) (n : Nat) : Dev :=
  (s.perf (4 + n) noInst 3 1).putFlit n 0 0 fkNull 0

/-- A new sequenced flit takes the next number and is held for replay (R88). -/
def Dev.sendNew (s : Dev) (n : Nat) (payload desc fk : Nat) : Dev :=
  let f := s.fp n
  let s1 := s.setFp n { f with
    replay := f.replay ++ [(f.txSeq, BitVec.ofNat 4 fk, BitVec.ofNat 16 desc, BitVec.ofNat 512 payload)],
    txSeq := f.txSeq + 1, oldestSent := if f.replay.isEmpty then 1 else f.oldestSent }
  (s1.put (base.fp n) FP.REPLAY_OCC.OCC (f.replay.length + 1)).putFlit n payload desc fk f.txSeq

end Sys2Proof.Machine
end

