-- ==== Sys2Proof/Machine/Link.lean ====
section
/-! DEFINITION. The Wiesh link layer, first half: lanes, training and port loss (R73-R80, R93, R100-R111). -/
namespace Sys2Proof.Machine

/-! ### Lanes -/

/-- State of a physical receive lane: 0 data, 1 spare, 2 retired, 3 unused. -/
def Dev.fpLane (s : Dev) (n pl : Nat) : Nat := s.rd (base.fp n) ⟨0x10, 2 * pl, 2⟩
def Dev.setFpLane (s : Dev) (n pl v : Nat) : Dev := s.put (base.fp n) ⟨0x10, 2 * pl, 2⟩ v

/-- The physical lane that is the receive spare. -/
def Dev.rxSpareLane (s : Dev) (n : Nat) : Option Nat := (List.range 9).find? (fun pl => s.fpLane n pl = 1)

/-- An event in FAB.FPn.STATUS. -/
def Dev.fpEvent (s : Dev) (n code : Nat) : Dev := s.post (base.fp n) FP.STATUS.SEQ FP.STATUS.EVENT code

/-- A link control message waits to be sent. -/
def Dev.sendLctl (s : Dev) (n : Nat) (w : Nat) : Dev :=
  s.upFp n (fun p => { p with lctl := p.lctl ++ [BitVec.ofNat 128 w] })

/-- A port whose role is DISABLED keeps its lanes squelched and ignores the GO bits. -/
def Dev.fpDisabled (s : Dev) (n : Nat) : Bool := s.rd (base.fp n) FP.CFG.ROLE = 0

/-! ### Entering training -/

/-- Link control messages that still make sense after a recovery: those that name lanes of the old map go. -/
def lctlKept (w : Slot) : Bool := let c := w.toNat % 256; c = 4 || c = 5 || c = 8

/-- The port starts QUIET with nothing locked: squelched lanes, the spare of both directions IDLE (R76, R79). Lanes that
self-test named start as failed, in a recovery also those that it retires. -/
def Dev.enterQuiet (s : Dev) (n : Nat) (recovery : Bool) : Dev :=
  let s1 := ((s.put (base.fp n) FP.STATUS.STATE fpQuiet).put (base.fp n) FP.STATUS.RX_SPARE 0).put (base.fp n)
    FP.STATUS.TX_SPARE 0
  s1.upFp n (fun p => { p with
    recovering := recovery, frames := [], laneFailed := if recovery then p.startFailed ||| p.recFailed else p.startFailed
    lockFailed := 0, aligned := 0, txLaneFailed := 0, eqDone := 0, partnerEq := 0, partnerState := 0, config := 0
    configSame := 0, ffeReqs := [], ffeReq := [], ffeStat := [], testing := [], txTest := none, lanes := []
    spareReq := none, lctl := p.lctl.filter lctlKept, resumeLeft := 0 })

/-- A credit field of a virtual channel: CREDIT_REQ, CREDIT_RSP, CREDIT_MGT, CREDIT_PER. -/
def creditFld (f : Fld) (vc : Nat) : Fld := f.at 4 vc

/-- Replay buffers, sequence numbers and credit counts are cleared (R80, R93), with what was in flight on the port
(R18). -/
def Dev.clearLink (s : Dev) (n : Nat) : Dev :=
  let s1 := s.upFp n (fun p => { p with
    replay := [], txSeq := 0, resend := 0, oldestSent := 0, nakPending := false, nakToSend := false, sinceNak := 64,
    freed := [], lastTotal := [], rxUsed := [], partialRx := [], rxq := [], txq := [], sending := [], ready := [],
    lctl := [], advReceived := false, sinceNull := 0, crTurn := 0, rxScr := [], txScr := [], txShadow := 0,
    damaged := [], spareReq := none, peerIdle := false, txIdle := false, resumeLeft := 0 })
  let s2 := s1.each (List.range 4) (fun s v =>
    (s.put (base.fp n) (creditFld FP.CREDIT_REQ.HELD v) 0).put (base.fp n) (creditFld FP.CREDIT_REQ.PEER_ADV v) 0)
  ((s2.put (base.fp n) FP.LINK_SEQ.RX_EXPECTED 0).put (base.fp n) FP.LINK_SEQ.TX_ACKED 0).put (base.fp n) FP.REPLAY_OCC.OCC 0

/-- Full training starts: what is in flight is lost, HEARD and MISMATCH are cleared, every lane is tested again
(R80, R108, R161, R162). -/
def Dev.fullTrain (s : Dev) (n : Nat) : Dev :=
  let s0 := (s.clearLink n).upFp n (fun p => { p with recFailed := 0, eqFail112 := false })
  let s1 := (s0.enterQuiet n false).upFp n (fun p => { p with recFails := 0, attempts := [] })
  let s2 := (s1.put (base.rport n) RPORT.NBR.HEARD 0).put (base.rport n) RPORT.NBR.MISMATCH 0
  (s2.upFp n (fun p => { p with mismatch := [] })).evalRoutable n

/-- Physical receive lanes that a recovery retires: those retired before, a FAILED spare, the lane that a SPARE_REQ was
sent for, and the one that has just failed (R105, R107). -/
def Dev.badLanes (s : Dev) (n : Nat) (pl : Option Nat) : BitVec 9 :=
  let asked := (s.fp n).spareReq.map (fun k => s.mapOf n FP.RX_LANE_MAP.reg k.toNat)
  (List.range 9).foldl (fun (m : BitVec 9) i =>
    if pl = some i ∨ asked = some i ∨ s.fpLane n i = 2 ∨ (s.fpLane n i = 1 ∧ s.rd (base.fp n) FP.STATUS.RX_SPARE = 3)
    then m ||| (1 <<< i) else m) 0

/-- Recovery starts (R80): a retrain that keeps the link's state. -/
def Dev.startRecovery (s : Dev) (n : Nat) : Dev :=
  let bad := s.badLanes n none
  (((s.count (base.fp n) FP.RECOVERY.COUNT).raise (srcFpRecovery n)).upFp n (fun p => { p with
    recFailed := p.recFailed ||| bad })).enterQuiet n true

/-- Recovery that the device begins of its own accord: RETRAIN_REQ goes out first, where the replay buffer takes it, so
that both ends enter recovery (R100). (DEDUCED, notes/assumptions/172.md) -/
def Dev.ownRecovery (s : Dev) (n : Nat) : Dev :=
  (s.when (s.fpState n = fpActive && (s.fp n).replay.length < 512 && (s.fp n).advReceived)
    (fun s => s.sendNew n 0x08 0 fkLctl)).startRecovery n

/-- The port is lost (R93): replay buffers and credits go, FPn_DOWN is raised, full training starts. -/
def Dev.portLost (s : Dev) (n : Nat) : Dev :=
  ((((s.upFp n (fun p => { p with lost := true })).fpEvent n 5).raise (srcFpDown n)).fullTrain n)

/-- A full training fails (R79): after the third failure in a row the port goes DOWN, and stays DOWN after each failure
that follows; else it goes back to QUIET. (DESIGN CHOICE, notes/assumptions/43.md) -/
def Dev.trainFailed (s : Dev) (n : Nat) : Dev :=
  let f := s.fp n
  if f.trainFails ≥ 2 then
    (s.put (base.fp n) FP.STATUS.STATE fpDown).upFp n (fun p => { p with trainFails := 3, eqFail112 := false, recovering := false })
  else (s.enterQuiet n false).upFp n (fun p => { p with trainFails := p.trainFails + 1 })

/-! ### Training frames (R78, R79) -/

/-- The receiver's choice in CONFIG (R79). Where no good lane is left for a spare the direction has none, as with FAILED
(R76; DESIGN CHOICE, notes/assumptions/173.md). -/
def Dev.applyRx (s : Dev) (n : Nat) : Dev :=
  let failed := (s.fp n).laneFailed
  let good := goodLanes failed
  let w := widthFor good.length
  let s1 := s.put (base.fp n) FP.STATUS.RX_WIDTH (widthCode w)
  let s2 := s1.each (List.range 8) (fun s k => s.setMap n FP.RX_LANE_MAP.reg k (if k < w then good.getD k 15 else 15))
  let s3 := s2.each (List.range 9) (fun s pl =>
    let r := laneRole failed pl
    s.setFpLane n pl (if !good.contains pl then 2 else if r < 8 then 0 else if r = 0xE then 1 else 3))
  (s3.put (base.fp n) FP.STATUS.RX_SPARE (if good.length > w then 1 else 3)).put (base.fp n) FP.STATUS.RX_SHADOW_LL 0

/-- The partner's choice for the transmit direction: WIDTH and the roles of MAP (R78). -/
def Dev.applyTx (s : Dev) (n : Nat) : Dev :=
  let c := (s.fp n).config.toNat
  let w := bitsOf c 0 2
  let role (pl : Nat) : Nat := bitsOf c (2 + 4 * pl) 4
  let s1 := s.put (base.fp n) FP.STATUS.TX_WIDTH w
  let s2 := s1.each (List.range 8) (fun s k =>
    s.setMap n FP.TX_LANE_MAP.reg k (((List.range 9).find? (fun pl => role pl = k)).getD 15))
  s2.put (base.fp n) FP.STATUS.TX_SPARE (if (List.range 9).any (fun pl => role pl = 14) then 1 else 3)

/-- CREDIT_ADV of the device's own receive buffers: 512 REQ, 768 RSP, 32 MGT, 512 PER slots (R94). -/
def creditAdvMsg : Nat := 0x05 + 512 * 2 ^ 8 + 768 * 2 ^ 20 + 32 * 2 ^ 32 + 512 * 2 ^ 44

/-- The port reaches ACTIVE (R79, R80, R94, R105, R160). After a recovery the count of R91 starts again, so that the held
flits are replayed, and a HELLO goes out in place of one that a change asked for meanwhile
(DEDUCED, notes/assumptions/174.md). -/
def Dev.reachActive (s : Dev) (n : Nat) : Dev :=
  let f := s.fp n
  let width (s : Dev) (f : Fld) : Nat := s.rd (base.fp n) f
  let s1 := ((s.applyRx n).applyTx n).put (base.fp n) FP.STATUS.STATE fpActive
  let slow := s.rd (base.fp n) FP.STATUS.RATE = 1 && s.rd (base.fp n) FP.CFG.RATE_CAP = 0
  let s2 := (s1.putFlag (base.fp n) FP.STATUS.FALLBACK slow).when slow (fun s => s.raise (srcFpFallback n))
  let s3 := s2.upFp n (fun p => { p with
    recovering := false, trainFails := 0, recFails := 0, startFailed := 0, txShadow := 0, spareReq := none
    oldestSent := if p.replay.isEmpty then 0 else 1, sinceNak := 64 })
  if f.recovering then
    let s4 := (s3.fpEvent n 2).when f.helloOwed (fun s => s.sendHello n)
    if width s FP.STATUS.RX_WIDTH < width s4 FP.STATUS.RX_WIDTH ∨ width s FP.STATUS.TX_WIDTH < width s4 FP.STATUS.TX_WIDTH then (s4.fpEvent n 4).raise (srcFpDegraded n) else s4
  else
    (((s3.fpEvent n 1).sendLctl n creditAdvMsg).sendHello n).evalRoutable n

/-- A round of EQ begins: no lane done, no request made (R79). -/
def Dev.enterEq (s : Dev) (n : Nat) : Dev :=
  (s.put (base.fp n) FP.STATUS.STATE fpEq).upFp n (fun p => { p with
    eqDone := 0, partnerEq := 0, laneFailed := p.lockFailed, txLaneFailed := 0, ffeReqs := [] })

/-- Exit of LOCK: every lane locked or marked failed, at least two locked, partner at LOCK or later. A recovery goes on
with EQ at the rate in use (R79). -/
def Dev.lockExit (s : Dev) (n : Nat) : Dev :=
  let f := s.fp n
  let locked (pl : Nat) : Bool := 16 ≤ f.frames.get (fun _ => 0) pl
  if (List.range 9).all (fun pl => locked pl || f.laneFailed.getLsbD pl) ∧
      2 ≤ ((List.range 9).filter (fun pl => locked pl && !f.laneFailed.getLsbD pl)).length ∧ 1 ≤ f.partnerState.toNat then
    let s1 := s.upFp n (fun p => { p with lockFailed := p.laneFailed })
    if f.recovering then s1.enterEq n else s1.put (base.fp n) FP.STATUS.STATE fpRate
  else s

/-- Exit of EQ: both receivers have answered for all nine lanes, a lane that brings no frames excused from reporting on
the lane of its number (DEDUCED, notes/assumptions/175.md); back to RATE when 112 Gb/s supports nothing that R74 prefers
to the best width at 56 Gb/s. -/
def Dev.eqExit (s : Dev) (n : Nat) : Dev :=
  let f := s.fp n
  if (f.eqDone ||| f.laneFailed) = 0x1FF ∧ (f.partnerEq ||| f.txLaneFailed ||| f.lockFailed) = 0x1FF then
    let w := min (widthFor (goodLanes f.laneFailed).length) (widthFor (goodLanes f.txLaneFailed).length)
    let w56 := widthFor (goodLanes f.lockFailed).length
    if s.rd (base.fp n) FP.STATUS.RATE = 0 ∧ w < w56 ∧ !f.recovering then
      (s.put (base.fp n) FP.STATUS.STATE fpRate).upFp n (fun p => { p with eqFail112 := true })
    else if w = 0 then (if f.recovering then s else s.trainFailed n)
    else (s.put (base.fp n) FP.STATUS.STATE fpDeskew).upFp n (fun p => { p with aligned := 0 })
  else s

/-- Exit of DESKEW: every good lane aligned, at least two of them; a late lane is marked failed (R79). -/
def Dev.deskewExit (s : Dev) (n : Nat) : Dev :=
  let f := s.fp n
  if (f.aligned ||| f.laneFailed) = 0x1FF then
    if widthFor (goodLanes f.laneFailed).length = 0 then (if f.recovering then s else s.trainFailed n)
    else s.put (base.fp n) FP.STATUS.STATE fpConfig
  else s

/-- One tap of the transmitter on a lane follows the partner's request; the answer is 0b00 updated, 0b01 at limit or 0b10
hold (R78). The limits are the transmitter's own (Config.ffeLimit). -/
def Fp.ffeStep (f : Fp) (tap req : Nat) : Fp × Nat :=
  let v := f.ffe.get (fun _ => 0) tap
  let v' := if req = 1 then v + 1 else if req = 2 then v - 1 else 0
  if req = 0 then (f, 2)
  else if req ≠ 3 ∧ Config.ffeLimit (tap % 2) v' then (f, 1)
  else ({ f with ffe := f.ffe.set (fun _ => 0) tap v' }, 0)

/-- The partner's FFE_REQ on a lane: both taps, and the answer that FFE_STAT carries back. -/
def Fp.ffeRequest (f : Fp) (pl req : Nat) : Fp :=
  let a := f.ffeStep (2 * pl) (req % 4)
  let b := a.1.ffeStep (2 * pl + 1) (req / 4)
  { b.1 with ffeStat := b.1.ffeStat.set (fun _ => 0xA) pl (BitVec.ofNat 4 (a.2 + 4 * b.2)) }

/-- EQ on a lane of the receiver: the partner's requests move the taps of the transmit lane of the number, and the
receiver goes on asking, up to 64 times, until both answers are hold or at limit; what it asks is its own adaptation, a
free value. A recovery only verifies (R79). (DEDUCED, notes/assumptions/40.md) -/
def Dev.eqFrame (s : Dev) (n lane fr : Nat) : Dev :=
  let s1 := s.upFp n (fun p => p.ffeRequest lane (bitsOf fr 42 4))
  let f := s1.fp n
  let done := f.recovering || (bitsOf fr 46 2 != 0 && bitsOf fr 48 2 != 0)
  let asked := f.ffeReqs.get (fun _ => 0) lane
  let bit : BitVec 9 := 1 <<< lane
  let f1 := { f with
    eqDone := if done then f.eqDone ||| bit else f.eqDone
    laneFailed := if !done && 64 ≤ asked then f.laneFailed ||| bit else f.laneFailed
    partnerEq := if bitsOf fr 50 1 = 1 then f.partnerEq ||| bit else f.partnerEq
    txLaneFailed := if bitsOf fr 51 1 = 1 then f.txLaneFailed ||| bit else f.txLaneFailed }
  if done || 64 ≤ asked then
    (s1.setFp n { f1 with ffeReq := f1.ffeReq.set (fun _ => 0) lane 0 }).eqExit n
  else
    let v := s1.freeValue
    (v.2.setFp n { f1 with
      ffeReqs := f1.ffeReqs.set (fun _ => 0) lane (asked + 1)
      ffeReq := f1.ffeReq.set (fun _ => 0) lane (v.1.extractLsb' 0 4) }).eqExit n

/-- Time for which a lane test lasts, in nanoseconds (R100). -/
def laneTestTime : Nat := 200000

/-- A training frame on a lane under LANE_TEST: the lane passes once it has locked and the transmitter's taps rest
(R108). (DEDUCED, notes/assumptions/176.md) -/
def Dev.testFrame (s : Dev) (n lane fr : Nat) : Dev :=
  let f := s.fp n
  let running := f.testing.any (fun t => t.1 = lane && s.now < t.2 + laneTestTime)
  let locked := 16 ≤ f.frames.get (fun _ => 0) lane + 1
  let s1 := s.setFp n { f with frames := f.frames.set (fun _ => 0) lane (f.frames.get (fun _ => 0) lane + 1) }
  if running && locked && bitsOf fr 46 2 != 0 && bitsOf fr 48 2 != 0 then
    (s1.sendLctl n (0x07 + lane * 2 ^ 8)).upFp n (fun p => { p with testing := p.testing.filter (fun t => t.1 ≠ lane) })
  else s1

/-- A training frame (R78) received on an input: a good one drives the state of its lane and of the port. LANE names the
physical lane, so that a permutation of the lanes on the board is undone, and the inverse marker undoes the polarity
(R75). `lag`: by how many picoseconds the lane's markers come after those of the earliest lane.
(DEDUCED, notes/assumptions/40.md) -/
def Dev.trainFrame (s : Dev) (n pin : Nat) (wire : BitVec 160) (lag : Nat) : Dev :=
  let st := s.fpState n
  let inv := (wire.extractLsb' 0 32).toNat = 0x0F2BD4C3
  let up := if inv then ~~~wire else wire
  let fr := (up ^^^ ((Config.prbs13.zeroExtend 160) <<< 32)).toNat
  let lane := bitsOf fr 32 4
  let good := bitsOf fr 0 32 = 0xF0D42B3C ∧ bitsOf fr 144 16 = crc16 (fr % 2 ^ 144) 144 ∧ lane < 9
  if s.fpDisabled n ∨ (s.fp n).squelched then s
  else if ¬ good then
    s.upFp n (fun p => { p with frames := (List.range 9).foldl (fun (t : Tab Nat) l =>
      if p.pins.get id l = pin then t.set (fun _ => 0) l 0 else t) p.frames })
  else if st = fpActive then s.testFrame n lane fr
  else if st < fpLock then s
  else
    let s1 := (s.put (base.fp n) ⟨0x10, 18 + lane, 1⟩ (if inv then 1 else 0)).upFp n (fun p => { p with
      pins := p.pins.set id lane pin
      frames := p.frames.set (fun _ => 0) lane (p.frames.get (fun _ => 0) lane + 1)
      partnerState := BitVec.ofNat 4 (bitsOf fr 36 4), partnerCap112 := bitsOf fr 40 1 = 1 })
    if st = fpLock then s1.lockExit n
    else if st = fpRate then
      if bitsOf fr 36 4 ≥ 2 ∧ decide (bitsOf fr 41 1 = 1) = s1.use112 n then
        (s1.put (base.fp n) FP.STATUS.RATE (if s1.use112 n then 0 else 1)).enterEq n
      else s1
    else if st = fpEq then s1.eqFrame n lane fr
    else if st = fpDeskew then
      if bitsOf fr 36 4 ≥ 4 then
        (s1.upFp n (fun p => { p with
          aligned := if lag ≤ 2000 then p.aligned ||| (1 <<< lane) else p.aligned
          laneFailed := if lag ≤ 2000 then p.laneFailed else p.laneFailed ||| (1 <<< lane) })).deskewExit n
      else s1
    else
      let c : BitVec 38 := BitVec.ofNat 38 (bitsOf fr 52 2 + 4 * bitsOf fr 56 36)
      if bitsOf fr 36 4 ≠ 5 then s1
      else
        let f := s1.fp n
        let same := if f.config = c then f.configSame + 1 else 1
        let s2 := s1.setFp n { f with config := c, configSame := same }
        if 8 ≤ same then s2.reachActive n else s2

def execTrainFrameReceive (port : Fin 6) (pin : Fin 9) (frame : LaneFrame) (s : State) :
    Host.Outcome State Fault Refusal := s.act (fun s => s.trainFrame port pin frame.bits frame.lag)

/-- QUIET ends: training moves to LOCK (R79). -/
def Dev.quietDone (s : Dev) (n : Nat) : Dev :=
  if s.fpState n = fpQuiet ∧ !s.fpDisabled n ∧ !(s.fp n).squelched then s.put (base.fp n) FP.STATUS.STATE fpLock else s

def execTrainQuietDone (port : Fin 6) (s : State) : Host.Outcome State Fault Refusal := s.act (fun s => s.quietDone port)

/-- Lanes without lock 1 ms into LOCK are marked failed (R79). -/
def Dev.lockTimeout (s : Dev) (n : Nat) : Dev :=
  if s.fpState n = fpLock then
    (s.upFp n (fun p => { p with laneFailed := (List.range 9).foldl (fun (m : BitVec 9) pl =>
      if p.frames.get (fun _ => 0) pl < 16 then m ||| (1 <<< pl) else m) p.laneFailed })).lockExit n
  else s

def execTrainLockTimeout (port : Fin 6) (s : State) : Host.Outcome State Fault Refusal := s.act (fun s => s.lockTimeout port)

/-- A timeout of a training state (R79); in recovery RECOVERY_FAIL ends the attempt. -/
def Dev.trainTimeout (s : Dev) (n : Nat) : Dev :=
  let st := s.fpState n
  if fpLock ≤ st ∧ st ≤ fpConfig ∧ !(s.fp n).recovering then
    -- an EQ round at 112 Gb/s that runs out has failed
    (s.upFp n (fun p => { p with eqFail112 := p.eqFail112 || (st = fpEq && s.rd (base.fp n) FP.STATUS.RATE = 0) })).trainFailed n
  else s

def execTrainTimeout (port : Fin 6) (s : State) : Host.Outcome State Fault Refusal := s.act (fun s => s.trainTimeout port)

/-- A DOWN port starts a new full training (R79). -/
def Dev.downRetry (s : Dev) (n : Nat) : Dev :=
  if s.fpState n = fpDown ∧ !s.fpDisabled n ∧ !(s.fp n).squelched then s.fullTrain n else s

def execDownRetry (port : Fin 6) (s : State) : Host.Outcome State Fault Refusal := s.act (fun s => s.downRetry port)

/-- A recovery fails (R80); the third failure in a row loses the port (R93). -/
def Dev.recoveryFail (s : Dev) (n : Nat) : Dev :=
  let f := s.fp n
  if !f.recovering then s
  else if 2 ≤ f.recFails then s.portLost n
  else (s.startRecovery n).upFp n (fun p => { p with recFails := f.recFails + 1 })

def execRecoveryFail (port : Fin 6) (s : State) : Host.Outcome State Fault Refusal := s.act (fun s => s.recoveryFail port)

/-! ### Lane sparing (R101-R108) -/

/-- The receiver reads logical lane k from the spare: the former lane is retired, the spare goes to REPLACE(k), rotation
stops, FPn_LANE is raised (R101, R102, R104). -/
def Dev.takeOver (s : Dev) (n k : Nat) : Dev :=
  match s.rxSpareLane n with
  | none => s
  | some sp =>
    let old := s.mapOf n FP.RX_LANE_MAP.reg k
    let s1 := ((s.setFpLane n old 2).setFpLane n sp 0).setMap n FP.RX_LANE_MAP.reg k sp
    let s2 := (s1.put (base.fp n) FP.STATUS.RX_SPARE 2).put (base.fp n) FP.STATUS.RX_SHADOW_LL k
    (((s2.upFp n (fun p => { p with spareReq := none })).count (base.fp n) FP.LANE_TAKEOVER.COUNT).fpEvent n 3).raise
      (srcFpLane n)

/-- The spare goes to FAILED (R106). -/
def Dev.fpSpareFailed (s : Dev) (n : Nat) : Dev :=
  ((s.put (base.fp n) FP.STATUS.RX_SPARE 3).fpEvent n 7).raise (srcFpLane n)

/-- The spare's comparison failed in 16 consecutive flits (R106). -/
def execSpareCompareFail (port : Fin 6) (s : State) : Host.Outcome State Fault Refusal :=
  s.act (fun s => s.when (s.rd (base.fp port) FP.STATUS.RX_SPARE = 1) (fun s => s.fpSpareFailed port))

/-- Retired receive lanes of a port. -/
def Dev.retired (s : Dev) (n : Nat) : List Nat := (List.range 9).filter (fun pl => s.fpLane n pl = 2)

/-- A rejoin attempt of a retired lane: LANE_TEST is sent (R108). -/
def Dev.laneTry (s : Dev) (n pl : Nat) : Dev :=
  (s.sendLctl n (0x06 + pl * 2 ^ 8)).upFp n (fun p => { p with
    testing := p.testing.filter (fun t => t.1 ≠ pl) ++ [(pl, s.now)], frames := p.frames.set (fun _ => 0) pl 0 })

/-- LANE_RETRY: an attempt for every retired receive lane (R108); held while training is under way (R111). Acted on in
DOWN it ends with no attempt, since there is no traffic lane to send on (DESIGN CHOICE, notes/assumptions/177.md). -/
def Dev.laneRetry (s : Dev) (n : Nat) : Dev :=
  if s.fpDisabled n then s.put (base.fp n) FP.CFG.LANE_RETRY 0
  else if s.fpState n = fpActive ∨ s.fpState n = fpDown then
    (s.put (base.fp n) FP.CFG.LANE_RETRY 0).each (if s.fpState n = fpActive then s.retired n else []) (fun s pl => s.laneTry n pl)
  else s.put (base.fp n) FP.CFG.LANE_RETRY 1

def execFpLaneRetry (port : Fin 6) (s : State) : Host.Outcome State Fault Refusal := s.act (fun s => s.laneRetry port)

/-- The attempt made every 60 s, up to 16 per lane (R108). -/
def Dev.laneRetryTick (s : Dev) (n : Nat) : Dev :=
  if s.fpState n ≠ fpActive then s
  else s.each (s.retired n) (fun s pl =>
    let a := (s.fp n).attempts.get (fun _ => 0) pl
    if a < 16 then (s.laneTry n pl).upFp n (fun p => { p with attempts := p.attempts.set (fun _ => 0) pl (a + 1) }) else s)

def execLaneRetryTimer (port : Fin 6) (s : State) : Host.Outcome State Fault Refusal := s.act (fun s => s.laneRetryTick port)

/-! ### Training commands (R111) -/

/-- RETRAIN: recovery when ACTIVE, full training when DOWN, held while training is under way. -/
def Dev.retrain (s : Dev) (n : Nat) : Dev :=
  if s.fpDisabled n then s.put (base.fp n) FP.CFG.RETRAIN 0
  else if s.fpState n = fpActive then (s.put (base.fp n) FP.CFG.RETRAIN 0).ownRecovery n
  else if s.fpState n = fpDown then (s.put (base.fp n) FP.CFG.RETRAIN 0).fullTrain n
  else s.put (base.fp n) FP.CFG.RETRAIN 1

def execFpRetrain (port : Fin 6) (s : State) : Host.Outcome State Fault Refusal := s.act (fun s => s.retrain port)

/-- FULL_TRAIN: held while training is under way. -/
def Dev.fullTrainCmd (s : Dev) (n : Nat) : Dev :=
  if s.fpDisabled n then s.put (base.fp n) FP.CFG.FULL_TRAIN 0
  else if s.fpState n = fpActive ∨ s.fpState n = fpDown then (s.put (base.fp n) FP.CFG.FULL_TRAIN 0).fullTrain n
  else s.put (base.fp n) FP.CFG.FULL_TRAIN 1

def execFpFullTrain (port : Fin 6) (s : State) : Host.Outcome State Fault Refusal := s.act (fun s => s.fullTrainCmd port)

/-- A held command is acted on when the port is ACTIVE or DOWN; with FULL_TRAIN and RETRAIN both held, only
FULL_TRAIN is (R111). -/
def Dev.heldTrain (s : Dev) (n : Nat) : Dev :=
  if s.fpState n = fpActive ∨ s.fpState n = fpDown then
    let s1 := if s.flag (base.fp n) FP.CFG.FULL_TRAIN then (s.put (base.fp n) FP.CFG.RETRAIN 0).fullTrainCmd n
      else if s.flag (base.fp n) FP.CFG.RETRAIN then s.retrain n else s
    if s.flag (base.fp n) FP.CFG.LANE_RETRY then s1.laneRetry n else s1
  else s

def execHeldTrainCmd (port : Fin 6) (s : State) : Host.Outcome State Fault Refusal := s.act (fun s => s.heldTrain port)

/-! ### Link control messages received (R100) -/

/-- SHADOW_MOVE: the peer's shadow moves; the receive spare follows (R77). -/
def Dev.shadowMove (s : Dev) (n ll : Nat) : Dev :=
  if s.rd (base.fp n) FP.STATUS.RX_SPARE = 1 then s.put (base.fp n) FP.STATUS.RX_SHADOW_LL ll else s

def execShadowMove (port : Fin 6) (ll : Fin 8) (s : State) : Host.Outcome State Fault Refusal :=
  s.act (fun s => s.shadowMove port ll)

/-- The device's transmit shadow is to move to the next logical lane: SHADOW_MOVE is sent, and the shadow moves once it
has gone out (R77); not while the spare is in REPLACE or FAILED. The rotation runs over the logical lanes of the width
(DESIGN CHOICE, notes/assumptions/178.md). -/
def Dev.shadowRotate (s : Dev) (n : Nat) : Dev :=
  if s.fpState n = fpActive ∧ s.flag (base.fp n) FP.CFG.ROTATE_EN ∧ s.rd (base.fp n) FP.STATUS.TX_SPARE = 1 then
    s.sendLctl n (0x01 + ((s.fp n).txShadow.toNat + 1) % lanesOf (s.rd (base.fp n) FP.STATUS.TX_WIDTH) * 2 ^ 8)
  else s

def execShadowRotate (port : Fin 6) (s : State) : Host.Outcome State Fault Refusal := s.act (fun s => s.shadowRotate port)

/-- SPARE_REQ: the device moves its transmit shadow to the lane (R103); the spare then carries that logical lane alone
for the receiver, and rotation stops in that direction (R104). (DEDUCED, notes/assumptions/42.md) -/
def Dev.spareReq (s : Dev) (n ll : Nat) : Dev :=
  if s.rd (base.fp n) FP.STATUS.TX_SPARE = 1 then
    ((s.put (base.fp n) FP.STATUS.TX_SPARE 2).setMap n FP.TX_LANE_MAP.reg ll (s.fp n).txSpareLane).upFp n (fun p =>
      { p with txShadow := BitVec.ofNat 3 ll, lctl := p.lctl.filter (fun w => w.toNat % 256 ≠ 1) })
  else s

def execSpareReq (port : Fin 6) (ll : Fin 8) (s : State) : Host.Outcome State Fault Refusal :=
  s.act (fun s => s.spareReq port ll)

/-- LANE_RETURN: logical lane ll moves back to physical lane pl and the spare returns to SHADOW (R108). -/
def Dev.laneReturn (s : Dev) (n ll pl : Nat) : Dev :=
  if s.rd (base.fp n) FP.STATUS.RX_SPARE = 2 ∧ s.fpLane n pl = 2 then
    let sp := s.mapOf n FP.RX_LANE_MAP.reg ll
    let s1 := ((s.setMap n FP.RX_LANE_MAP.reg ll pl).setFpLane n pl 0).setFpLane n sp 1
    ((s1.put (base.fp n) FP.STATUS.RX_SPARE 1).upFp n (fun p => { p with
      attempts := p.attempts.set (fun _ => 0) pl 0, testing := p.testing.filter (fun t => t.1 ≠ pl) })).fpEvent n 6
  else s

def execLaneReturn (port : Fin 6) (ll : Fin 8) (pl : Fin 9) (s : State) : Host.Outcome State Fault Refusal :=
  s.act (fun s => s.laneReturn port ll pl)

/-- IDLE_ENTER: the peer's transmitter goes idle (R109). -/
def execIdleEnter (port : Fin 6) (s : State) : Host.Outcome State Fault Refusal :=
  s.act (fun s => s.upFp port (fun p => { p with peerIdle := true }))

/-- CREDIT_ADV: the slots the peer advertises for each VC (R94). -/
def Dev.creditAdv (s : Dev) (n : Nat) (adv : List (BitVec 10)) : Dev :=
  (s.each (List.range 4) (fun s v =>
    (s.put (base.fp n) (creditFld FP.CREDIT_REQ.PEER_ADV v) (adv.getD v 0).toNat).put (base.fp n)
      (creditFld FP.CREDIT_REQ.HELD v) (adv.getD v 0).toNat)).upFp n (fun p => { p with advReceived := true })

def execCreditAdv (port : Fin 6) (req rsp mgt per : BitVec 10) (s : State) : Host.Outcome State Fault Refusal :=
  s.act (fun s => s.creditAdv port [req, rsp, mgt, per])

/-- LANE_TEST: the device sends training frames on a lane for up to 200 us (R100, R108). -/
def Dev.laneTestReq (s : Dev) (n pl : Nat) : Dev := s.upFp n (fun p => { p with txTest := some (BitVec.ofNat 4 pl, s.now) })

def execLaneTest (port : Fin 6) (pl : Fin 9) (s : State) : Host.Outcome State Fault Refusal :=
  s.act (fun s => s.laneTestReq port pl)

/-- LANE_PASS: the transmitter sends LANE_RETURN, and the logical lane moves back once it has gone out (R108). -/
def Dev.lanePass (s : Dev) (n pl : Nat) : Dev :=
  if s.rd (base.fp n) FP.STATUS.TX_SPARE = 2 then
    (s.sendLctl n (0x03 + (s.fp n).txShadow.toNat * 2 ^ 8 + pl * 2 ^ 12)).upFp n (fun p => { p with txTest := none })
  else s

/-- What follows in the transmitter once a link control message has gone out: the shadow moves after SHADOW_MOVE (R77),
the logical lane returns after LANE_RETURN (R108). -/
def Dev.lctlSent (s : Dev) (n : Nat) (w : Slot) : Dev :=
  let ll := bitsOf w.toNat 8 3
  if w.toNat % 256 = 1 then
    s.when (s.rd (base.fp n) FP.STATUS.TX_SPARE = 1) (fun s => s.upFp n (fun p => { p with txShadow := BitVec.ofNat 3 ll }))
  else if w.toNat % 256 = 3 then
    s.when (s.rd (base.fp n) FP.STATUS.TX_SPARE = 2) (fun s =>
      (s.setMap n FP.TX_LANE_MAP.reg ll (bitsOf w.toNat 12 4)).put (base.fp n) FP.STATUS.TX_SPARE 1)
  else s

def execLanePass (port : Fin 6) (pl : Fin 9) (s : State) : Host.Outcome State Fault Refusal :=
  s.act (fun s => s.lanePass port pl)

/-- RETRAIN_REQ: both ends enter recovery (R100). -/
def Dev.retrainReq (s : Dev) (n : Nat) : Dev := if s.fpState n = fpActive then s.startRecovery n else s

def execRetrainReq (port : Fin 6) (s : State) : Host.Outcome State Fault Refusal := s.act (fun s => s.retrainReq port)

/-- A link control message accepted in a flit (R100); an unknown code is counted in RX_SEQ_ERR. -/
def Dev.lctlIn (s : Dev) (n : Nat) (w : Slot) : Dev :=
  let b (lo len : Nat) : Nat := bitsOf w.toNat lo len
  match b 0 8 with
  | 0x01 => s.shadowMove n (b 8 3)
  | 0x02 => s.spareReq n (b 8 3)
  | 0x03 => s.laneReturn n (b 8 3) (b 12 4)
  | 0x04 => s.upFp n (fun p => { p with peerIdle := true })
  | 0x05 => s.creditAdv n [BitVec.ofNat 10 (b 8 10), BitVec.ofNat 10 (b 20 10), BitVec.ofNat 10 (b 32 10), BitVec.ofNat 10 (b 44 10)]
  | 0x06 => s.laneTestReq n (b 8 4)
  | 0x07 => s.lanePass n (b 8 4)
  | 0x08 => s.retrainReq n
  | _ => s.count (base.fp n) FP.RX_SEQ_ERR.COUNT

/-! ### Idle (R109) -/

/-- An idle transmitter resumes: training frames for 64 flit times, then flits. -/
def Fp.resume (f : Fp) : Fp := if f.txIdle then { f with txIdle := false, resumeLeft := 64 } else f

/-- A receive lane leaves squelch: the receiver takes flits again. (DEDUCED, notes/assumptions/127.md) -/
def execLinkResume (port : Fin 6) (s : State) : Host.Outcome State Fault Refusal :=
  s.act (fun s => s.upFp port (fun p => { p with peerIdle := false }))

end Sys2Proof.Machine
end

