-- ==== Sys2Proof/Machine/Common.lean ====
section
/-! DEFINITION. Operations that several of the device's sequencers share: ends of Batt commands (R57-R72) and of
self-tests (R483, R484), the way back to Noon (R397-R404), a worn cartridge (R388), and what survives the loss of the
Brim logic (R395). -/
namespace Sys2Proof.Machine

/-! ### Dawn -/

def Dev.dawnPhase (s : Dev) : Nat := s.rd base.dawn DAWN.STATUS.PHASE
def dawnRunning : Nat := 0
def dawnHeld : Nat := 1
def dawnNoImage : Nat := 2
def dawnWaitHatbox : Nat := 3
def dawnThermalWait : Nat := 4
def dawnReady : Nat := 5
def dawnStopped : Nat := 6

/-- PHASE changes (event 2). -/
def Dev.setDawnPhase (s : Dev) (ph : Nat) : Dev :=
  if s.dawnPhase = ph then s else (s.put base.dawn DAWN.STATUS.PHASE ph).post base.dawn DAWN.STATUS.SEQ DAWN.STATUS.EVENT 2

/-- A restore, or Midnight exit, is in progress. -/
def Dev.restoreRuns (s : Dev) : Bool := s.rstPhase = 1 || s.rstPhase = 2

/-! ### Batt commands -/

def battIdle : Nat := 6
def Dev.battState (s : Dev) : Nat := s.rd base.batt BATT.STATUS.STATE

/-- A Batt command is under way. -/
def Dev.battRuns (s : Dev) : Bool := s.batt.cmd.isSome

/-- The staging buffer is freed; its contents stay (R62). -/
def Dev.battFree (s : Dev) : Dev := (s.put base.batt BATT.STAGE_OWNER.OWNER 0).put base.batt BATT.STAGE_OWNER.NODE 0

/-- The claim on the staging buffer is a master's (R61). -/
def Dev.battOwns (s : Dev) (m : Master) : Bool :=
  s.rd base.batt BATT.STAGE_OWNER.OWNER = masterCode m && s.rd base.batt BATT.STAGE_OWNER.NODE = (masterNode m).toNat

/-- A Batt command ends with a result: the scopes rejoin, with new generation numbers for ports that peers had left and the
exchange of regions that serve again, and the claim of the owner that started it ends (R41, R57, R62, R67). -/
def Dev.battEnd (s : Dev) (result : Nat) : Dev :=
  let s1 : Dev := { s with batt := { s.batt with cmd := none, quiesced := [], starter := none, flushing := [], holdForward := false } }
  let s2 := ((s1.put base.batt BATT.STATUS.STATE battIdle).put base.batt BATT.STATUS.RESULT result).bump base.batt
    BATT.STATUS.SEQ
  let s3 := match s.batt.cmd with
    | some (_, false) =>
      (s2.each ((List.range 6).filter (fun n => s.batt.quiesced.contains (5 + n))) (fun s n => s.evalRoutable n)).xchgTick
    | _ => s2
  match s.batt.starter with
  | some m => if s.battOwns m then s3.battFree else s3
  | none => s3

/-- R71: a command that is validated, quiescing or storing is given up; one given up in STORING ends ABORTED as well.
(DEDUCED, notes/assumptions/194.md) -/
def Dev.battAbort (s : Dev) : Dev := if s.battRuns then s.battEnd 0xB else s

/-! ### Self-tests -/

def bistPass : Nat := 1
def bistFailed : Nat := 2
def bistRefused : Nat := 3
def bistRefusedCond : Nat := 4
def bistBusy : Nat := 5
def bistAborted : Nat := 6

/-- STATE of an array run in a step: 2 saving, 3 restoring, else 1. -/
def bistStateOf (step : Nat) : Nat := if step = 2 then 2 else if step = 4 then 3 else 1

/-- A run ends (R484): RESULT, COVER and DURATION in milliseconds, the journal record, BIST_FAIL on failure.
(DEDUCED, notes/assumptions/102.md) -/
def Dev.bistEnd (s : Dev) (kind result cover started : Nat) : Dev :=
  let ms := min ((s.now - started) / 1000000) (2 ^ 24 - 1)
  let s1 := ((((s.put base.bist BIST.STATUS.STATE (if kind = 2 then s.icStart.isSome.toNat else match s.bist with
      | some r => bistStateOf r.step
      | none => 0)).put base.bist BIST.STATUS.KIND kind).put base.bist BIST.STATUS.RESULT
    result).put base.bist BIST.DETAIL.COVER cover).put base.bist BIST.DETAIL.DURATION ms
  let s2 := s1.bump base.bist BIST.STATUS.SEQ
  let data : BitVec 256 := BitVec.zeroExtend 256 (s2.reg (base.bist + 0x10) ++ s2.reg (base.bist + 0xC) ++ s2.reg (base.bist + 0x4))
  let s3 := s2.journal (Config.journalClass base.bist) result data
  if result = bistFailed then (s3.raise srcBistFail).count base.bist BIST.FAILS.COUNT
  else if result = bistRefused || result = bistRefusedCond then s3.raise srcBistRefused
  else s3

/-- R483: power failure, Thalt and Tshut stop an array BIST. Before its save is complete the pseudo-channel's data stands
and is served again; after it, a later restore returns the lines. -/
def Dev.bistStop (s : Dev) : Dev :=
  match s.bist with
  | none => s
  | some r =>
    if !r.array then s
    else
      let s1 := ({ s with bist := none } : Dev).upPc r.pc (fun c => { c with bistHeld := r.saved })
      let s2 := if r.preserve && !r.saved && !s1.pcServes r.pc then s1.setPcState r.pc pcServing else s1
      s2.bistEnd 2 bistAborted 0 r.startedAt

/-! ### Rungs -/

def Dev.rungEvent (s : Dev) (code : Nat) : Dev :=
  let s1 := s.post base.rung RUNG.STATUS.SEQ RUNG.STATUS.EVENT code
  if code = 1 || code = 2 || code = 3 || code = 4 then s1.ibi 3 code (s1.rd base.rung RUNG.STATUS.SEQ) else s1

/-- Phases of PWR.RUNG.STATUS. -/
def rpSteady : Nat := 0
def rpEntering : Nat := 1
def rpExiting : Nat := 2
def rpHeld : Nat := 3

def Dev.rungPhase (s : Dev) : Nat := s.rd base.rung RUNG.STATUS.PHASE

/-- Code of WAKE_SRC. -/
def wakeCode : WakeSrc → Nat
  | .fabric => 1
  | .mgmt => 2
  | .internal => 3
  | .carder => 4
  | .thermal => 5
  | .pwrfail => 6
  | .timer => 7
  | .reqNoon => 8

/-- A wake event takes the device back to Noon from Dusk or Night, or abandons an entry under way (R397-R401, R404).
The Crown leaves power-down, or after Night self-refresh, when its debts are 0 and the due timer restarts (R228, R229), and
the Hatbox links come up in the background. -/
def Dev.wakeNoon (s : Dev) (src : WakeSrc) : Dev :=
  if s.rung = rungDusk || s.rung = rungNight then
    let s1 := ((s.put base.rung RUNG.STATUS.RUNG rungNoon).put base.rung RUNG.STATUS.PHASE rpSteady).put base.rung
      RUNG.STATUS.WAKE_SRC (wakeCode src)
    let s2 : Dev := { s1 with power := { s1.power with
      entryStep := 0
      linksPending := s1.power.linksPending || (s.hb 0).cold || (s.hb 1).cold } }
    let s2a := s2.each (List.range 128) (fun t p =>
      if s.rung = rungNight then
        (t.each (List.range 32) (fun t b => t.setDebt p b 0)).upPc p (fun c => { c with duePos := 0, makeUp := [], clock := c.clock + tXS })
      else t.pdExit p)
    let s3 := s2a.each (List.range 6) (fun s n => s.upFp n (Fp.resume))
    (s3.count base.rung RUNG.WAKE.COUNT).rungEvent 4
  else if s.rungPhase = rpEntering && s.pfPhase = pfIdle then
    let s1 : Dev := { s with power := { s.power with
      entryStep := 0
      linksPending := s.power.linksPending || (s.hb 0).cold || (s.hb 1).cold } }
    let s2 := ((((s1.put base.rung RUNG.STATUS.PHASE rpSteady).put base.rung RUNG.STATUS.PENDING 0).put base.rung
      RUNG.STATUS.RESULT 3).put base.rung RUNG.STATUS.WAKE_SRC (wakeCode src)).rungEvent 5
    s2.each (List.range 6) (fun s n => s.upFp n (Fp.resume))
  else s

/-! ### Worn cartridges (R388) -/

/-- The superblock in force of a port's cartridge is rewritten. -/
def Dev.reSuper (s : Dev) (n : Nat) (f : Super → Super) : Dev :=
  s.upHb n (fun h => { h with cart := h.cart.map (fun c => match c.super with | some x => c.writeSuper (f x) | none => c) })

/-- A worn cartridge serves restores only. -/
def Dev.goWorn (s : Dev) (n : Nat) : Dev :=
  let s1 := (s.upHb n (fun h => { h with wornHeld := false })).putFlag (base.hb n) HB.WEAR.WORN true
  if s1.hbState n = hbRestoreOnly then s1
  else
    let s2 := (s1.reSuper n (fun f => { f with restoreOnly := true })).setHbState n hbRestoreOnly
    let s3 := ((s2.hbEvent n 5).raise (srcHbWorn n))
    (s3.ibi 4 5 (s3.hbr n HB.STATUS.SEQ)).evalDurability

/-! ### Loss of the Brim logic (R395, R508) -/

/-- Registers of the always-on domain (R395), but those of PWR.RUNG. -/
def aonKept (a : Nat) : Bool :=
  a = base.pf + PF.PF_LAST.reg.off || a = base.therm + THERM.LATCH.reg.off || a = base.fault + FAULT.RESET_SRC.reg.off ||
  (base.dawn ≤ a && a < base.dawn + 0x14)

/-- PWR.RUNG.REQ, CFG, WAKE_TIMER and STATUS. -/
def aonRung (a : Nat) : Bool := base.rung ≤ a && a < base.rung + 0x10

/-- What lasts without any supply: cartridges, OTP, core-die fuses, the SPI NOR and its journal. -/
def Dev.nonVolatile (s : Dev) (d : Dev) : Dev :=
  { d with
    hbs := (List.range 2).foldl (fun (t : Tab Hb) n => t.set (fun _ => Hb.reset) n { Hb.reset with cart := (s.hb n).cart }) []
    otp := { Otp.reset with words := s.otp.words, spares := s.otp.spares }
    ecc := { Ecc.reset with fuses := s.ecc.fuses }
    mgmt := { Mgmt.reset with
      nor := s.mgmt.nor, norUsable := s.mgmt.norUsable, journal := s.mgmt.journalCut, jrnlPos := s.mgmt.jrnlPos, fwActive := s.mgmt.fwActive
      fwTry := s.mgmt.fwTry, fwTries := s.mgmt.fwTries, straps := s.mgmt.straps } }

/-- The Brim logic is powered down or reset: the always-on domain keeps its registers, the shutdown latch and device
time, and THERM_N stays asserted while the latch holds a record (R423); `keepRung` as at a power-down, where the PWR.RUNG
registers stand. -/
def Dev.brimLoss (s : Dev) (keepRung : Bool) : Dev :=
  let d := s.nonVolatile Dev.reset
  let r : Dev := { d with
    now := s.now, skew := s.skew, free := s.free, order := s.order
    regs := s.regs.filter (fun r => aonKept r.1 || (keepRung && aonRung r.1))
    therm := { Therm.reset with latch := s.therm.latch }
    power := { Power.reset with vaux := s.power.vaux, inRange := s.power.inRange, resetN := s.power.resetN, goodAt := s.power.goodAt } }
  if s.therm.latch.isEmpty then r else r.putFlag base.therm THERM.STATUS.THERM_N true

/-- A chip reset: step 0 of Dawn, as when RESET_N asserts (R508). (DESIGN CHOICE, notes/assumptions/107.md) -/
def Dev.chipReset (s : Dev) : Dev := s.brimLoss false

end Sys2Proof.Machine
end

