-- ==== Sys2Proof/Machine/Flit.lean ====
section
/-! DEFINITION. The Wiesh link layer, second half: flits, sequencing and replay, credits (R81-R99). -/
namespace Sys2Proof.Machine

/-! ### Buffers -/

/-- Receive buffer slots of a virtual channel: 512 REQ, 768 RSP, 32 MGT, 512 PER. -/
def rxBuffer (vc : Nat) : Nat := if vc = 0 then 512 else if vc = 1 then 768 else if vc = 2 then 32 else 512

/-! ### Acknowledgement and replay (R88, R90, R91) -/

/-- An ACK is received: every held flit up to and including it is released (R88); TX_ACKED shows it. -/
def Dev.takeAck (s : Dev) (n : Nat) (ack : BitVec 12) : Dev :=
  let f := s.fp n
  let s0 := s.put (base.fp n) FP.LINK_SEQ.TX_ACKED ack.toNat
  if f.replay.any (fun e => e.1 = ack) then
    let kept := (f.replay.dropWhile (fun e => e.1 != ack)).drop 1
    let s1 := s0.setFp n { f with
      replay := kept, resend := min f.resend kept.length, oldestSent := if kept.isEmpty then 0 else 1 }
    s1.put (base.fp n) FP.REPLAY_OCC.OCC kept.length
  else s0

/-- A replay of every held flit starts (R90, R91); the same oldest flit sent five times without progress puts the port
into recovery instead (R91). (DEDUCED, notes/assumptions/41.md) -/
def Dev.startReplay (s : Dev) (n : Nat) : Dev :=
  let f := s.fp n
  if f.replay.isEmpty then s
  else if 5 ≤ f.oldestSent then s.ownRecovery n
  else s.setFp n { f with resend := f.replay.length }

/-- A NAK: its ACK is taken, then every held flit after it is resent (R90). -/
def Dev.nakIn (s : Dev) (n : Nat) (ack : BitVec 12) : Dev :=
  let s1 := (s.count (base.fp n) FP.NAK_RX.COUNT).perf (4 + n) noInst 5 1
  (s1.takeAck n ack).startReplay n

def execNakReceive (port : Fin 6) (ack : BitVec 12) (s : State) : Host.Outcome State Fault Refusal :=
  s.act (fun s => s.nakIn port ack)

/-- A NAK is to be sent; the 64 flit times of R89 start again. -/
def Dev.needNak (s : Dev) (n : Nat) : Dev := s.upFp n (fun p => { p with nakToSend := true, sinceNak := 0 })

/-- NAK-pending for 1 us without an accepted flit: NAK is sent again (R89). -/
def execNakResend (port : Fin 6) (s : State) : Host.Outcome State Fault Refusal :=
  s.act (fun s => s.when (s.fp port).nakPending (fun s => s.needNak port))

/-- 2 us without ACK progress: replay from the oldest held flit (R91). -/
def Dev.replayTimeout (s : Dev) (n : Nat) : Dev :=
  if (s.fp n).replay.isEmpty then s
  else ((s.count (base.fp n) FP.REPLAY_TIMEOUT.COUNT).raise (srcFpReplayTo n)).startReplay n

def execReplayTimeout (port : Fin 6) (s : State) : Host.Outcome State Fault Refusal := s.act (fun s => s.replayTimeout port)

/-! ### Receiving (R83, R87, R89, R96, R97, R116) -/

/-- The credit total of one virtual channel (R96): the transmitter gains the difference, modulo 1024. -/
def Dev.takeCredit (s : Dev) (n vc : Nat) (total : BitVec 10) : Dev :=
  let f := s.fp n
  let gain := (total - f.lastTotal.get (fun _ => 0) vc).toNat
  (s.setFp n { f with lastTotal := f.lastTotal.set (fun _ => 0) vc total }).put (base.fp n) (creditFld FP.CREDIT_REQ.HELD vc)
    (s.rd (base.fp n) (creditFld FP.CREDIT_REQ.HELD vc) + gain)

/-- A used slot is accepted; none: a link protocol error of R97. A packet that is whole joins the crossbar's queue. -/
def acceptSlot (f : Fp) (vc : Nat) (sop : Bool) (w : Slot) : Option Fp :=
  let part := f.partialRx.get (fun _ => []) vc
  let used := f.rxUsed.get (fun _ => 0) vc
  if rxBuffer vc ≤ used ∨ sop ≠ part.isEmpty then none
  else
    match packetSlots (if sop then w else part.headD 0) with
    | none => none
    | some len =>
      let slots := part ++ [w]
      let f1 := { f with rxUsed := f.rxUsed.set (fun _ => 0) vc (used + 1) }
      if slots.length < len then some { f1 with partialRx := f1.partialRx.set (fun _ => []) vc slots }
      else some { f1 with partialRx := f1.partialRx.set (fun _ => []) vc [], rxq := f1.rxq ++ [⟨BitVec.ofNat 2 vc, slots, none⟩] }

/-- The four slots of a DATA flit, in order; a protocol error raises FPn_PROTO and loses the port (R97). -/
def Dev.acceptSlots (s : Dev) (n v : Nat) : List Nat → Dev
  | [] => s
  | k :: ks =>
    let d := bitsOf v (512 + 4 * k) 4
    if d / 8 = 0 then s.acceptSlots n v ks
    else
      match acceptSlot (s.fp n) (d % 4) (d / 4 % 2 = 1) (BitVec.ofNat 128 (bitsOf v (128 * k) 128)) with
      | none => (s.raise (srcFpProto n)).portLost n
      | some f => ((s.setFp n f).perf (4 + n) (d % 4) 2 1).acceptSlots n v ks

/-- A damaged flit (R87, R89): none of its fields is used. It is kept until a flit is accepted, for a retry with the spare
(R101). 64 of them in 1 ms raise FPn_CRC_RATE (R456). -/
def Dev.damagedFlit (s : Dev) (n : Nat) (r : RxFlit) : Dev :=
  let f := s.fp n
  let recent := (f.damagedAt.filter (fun t => s.now ≤ t + 1000000)) ++ [s.now]
  let s1 := (s.count (base.fp n) FP.RX_CRC_ERR.COUNT).setFp n { f with
    damagedAt := if 64 ≤ recent.length then [] else recent, damaged := f.damaged ++ [r] }
  let s2 := s1.when (64 ≤ recent.length) (fun s => s.raise (srcFpCrcRate n))
  if f.nakPending then s2 else (s2.needNak n).upFp n (fun p => { p with nakPending := true })

/-- A good flit's corrected symbols: RX_FEC_CORR, and LANE_SYMERR of the physical lane of each (R84). -/
def Dev.countSymbols (s : Dev) (n : Nat) (syms : List Nat) : Dev :=
  if syms.isEmpty then s
  else
    let w := lanesOf (s.rd (base.fp n) FP.STATUS.RX_WIDTH)
    (s.count (base.fp n) FP.RX_FEC_CORR.COUNT).each syms (fun s x =>
      let pl := s.mapOf n FP.RX_LANE_MAP.reg (x % w)
      if pl < 9 then s.count (base.fp n) (FP.LANE_SYMERR.COUNT.at 4 pl) else s)

/-- A sequenced flit against the expected number E (R89). -/
def Dev.sequenced (s : Dev) (n v : Nat) : Dev :=
  let e := s.rd (base.fp n) FP.LINK_SEQ.RX_EXPECTED
  let seq := bitsOf v 532 12
  if seq = e then
    let s1 := (s.put (base.fp n) FP.LINK_SEQ.RX_EXPECTED (e + 1)).upFp n (fun p => { p with nakPending := false, damaged := [] })
    if bitsOf v 528 4 = fkLctl then s1.lctlIn n (BitVec.ofNat 128 (bitsOf v 0 128)) else s1.acceptSlots n v [0, 1, 2, 3]
  else if (e + 4096 - seq) % 4096 ≤ 512 then s
  else
    let s1 := s.count (base.fp n) FP.RX_SEQ_ERR.COUNT
    if 64 ≤ (s.fp n).sinceNak then s1.needNak n else s1

/-- A good flit is acted on (R87-R90, R96): corrected symbols, ACK and credits, then its kind. -/
def Dev.goodFlit (s : Dev) (n v : Nat) (syms : List Nat) : Dev :=
  let s1 := ((s.countSymbols n syms).takeAck n (BitVec.ofNat 12 (bitsOf v 544 12))).takeCredit n (bitsOf v 556 2)
    (BitVec.ofNat 10 (bitsOf v 558 10))
  let fk := bitsOf v 528 4
  if fk = fkNull then s1
  else if fk = fkNak then s1.nakIn n (BitVec.ofNat 12 (bitsOf v 544 12))
  else s1.sequenced n v

/-- Damaged flits are decoded again through the lane map of a takeover; one that is good now is accepted in place, while
the port stays ACTIVE (R101). -/
def Dev.retryDamaged (s : Dev) (n : Nat) : List RxFlit → Dev
  | [] => s
  | r :: rs =>
    match flitDecode (s.readFlit n r none) with
    | some (v, syms) => if s.fpState n = fpActive then (s.goodFlit n v syms).retryDamaged n rs else s
    | none => s.retryDamaged n rs

/-- The receiver reads logical lane k from the spare that shadows it, and retries the damaged flits (R101). -/
def Dev.spareIn (s : Dev) (n k : Nat) : Dev := ((s.takeOver n k).upFp n (fun p => { p with damaged := [] })).retryDamaged n (s.fp n).damaged

/-- The logical lane for which the spare stands in on a second decode: the one a SPARE_REQ is waiting for (R102), else the
one that the spare shadows (R101). (DEDUCED, notes/assumptions/17.md) -/
def Dev.standIn (s : Dev) (n : Nat) : Option (Nat × Nat) :=
  if s.rd (base.fp n) FP.STATUS.RX_SPARE ≠ 1 then none
  else
    let k := match (s.fp n).spareReq with
      | some k => k.toNat
      | none => s.rd (base.fp n) FP.STATUS.RX_SHADOW_LL
    (s.rxSpareLane n).map (fun sp => (k, sp))

/-- A flit is received on the lanes (R84-R90, R96, R101, R102): flits of a port that is not ACTIVE, is squelched or whose
peer is idle are not taken. A damaged flit that decodes good with the spare in place of the lane it stands in for
completes the takeover: at once for the shadowed lane, whose damaged flits are retried first, or of the lane that a
SPARE_REQ asked for. The 64 flit times of R89 are counted by the flits received (DESIGN CHOICE,
notes/assumptions/179.md). -/
def Dev.flitIn (s : Dev) (n : Nat) (lanes : List (BitVec 320)) : Dev :=
  let f0 := s.fp n
  if s.fpState n ≠ fpActive then s
  else
    let k := scrFlit f0.rxScr (lanesOf (s.rd (base.fp n) FP.STATUS.RX_WIDTH))
    let r : RxFlit := ⟨lanes, k.1⟩
    let s0 := s.setFp n { f0 with rxScr := k.2, sinceNak := min 64 (f0.sinceNak + 1) }
    if f0.squelched ∨ f0.peerIdle then s0
    else
      match flitDecode (s.readFlit n r none) with
      | some (v, syms) => s0.goodFlit n v syms
      | none =>
        match s.standIn n with
        | none => s0.damagedFlit n r
        | some sub =>
          match flitDecode (s.readFlit n r (some sub)) with
          | none => s0.damagedFlit n r
          | some (v, syms) =>
            let s1 := if f0.spareReq.isSome then s0.takeOver n sub.1 else s0.spareIn n sub.1
            s1.when (s1.fpState n = fpActive) (fun s => s.goodFlit n v syms)

def execFlitReceive (port : Fin 6) (lanes : List (BitVec 320)) (s : State) : Host.Outcome State Fault Refusal :=
  s.act (fun s => s.flitIn port lanes)

/-! ### A lane fails (R101, R102, R105) -/

/-- The receiver declares a physical lane failed. The spare itself is taken as failed (DESIGN CHOICE,
notes/assumptions/180.md). A second lane that fails while a SPARE_REQ waits finds the spare spoken for, and recovery
retires both, as R107 has it for one lane of each direction (DEDUCED, notes/assumptions/181.md). -/
def Dev.laneFail (s : Dev) (n pl : Nat) : Dev :=
  if s.fpState n ≠ fpActive then s
  else if s.fpLane n pl = 1 then (if s.rd (base.fp n) FP.STATUS.RX_SPARE = 1 then s.fpSpareFailed n else s)
  else
    match s.llOf n FP.RX_LANE_MAP.reg pl with
    | none => s
    | some k =>
      if s.rd (base.fp n) FP.STATUS.RX_SPARE = 1 ∧ ((s.fp n).spareReq = none ∨ (s.fp n).spareReq = some (BitVec.ofNat 3 k)) then
        if s.rd (base.fp n) FP.STATUS.RX_SHADOW_LL = k then s.spareIn n k
        else if (s.fp n).spareReq.isSome then s
        else (s.sendLctl n (0x02 + k * 2 ^ 8)).upFp n (fun p => { p with spareReq := some (BitVec.ofNat 3 k) })
      else
        -- the spare is consumed: recovery chooses a narrower width without the lanes known bad
        (s.upFp n (fun p => { p with recFailed := p.recFailed ||| (1 <<< pl) })).ownRecovery n

def execLaneFailDetect (port : Fin 6) (pl : Fin 9) (s : State) : Host.Outcome State Fault Refusal :=
  s.act (fun s => s.laneFail port pl)

/-! ### Sending (R83, R88, R90, R94-R96, R98, R99) -/

/-- The next packet of a virtual channel that is not yet being sent; `own`: forwarded packets wait (R67). -/
def headOf (own : Bool) (f : Fp) (vc : Nat) : Option Packet := f.txq.find? (fun p => p.vc.toNat = vc && !(own && p.inp.isSome))

/-- A virtual channel has a slot ready: a packet under way, or one whose slots its credits cover (R95). -/
def slotReady (own : Bool) (f : Fp) (held : Nat) (vc : Nat) : Bool :=
  !(f.sending.get (fun _ => []) vc).isEmpty ||
    (match headOf own f vc with | none => false | some p => f.advReceived && p.slots.length ≤ held)

/-- The order of R98: RSP, REQ, PER, MGT, a channel that has been ready for 256 flit times ahead of it; of several such
channels the first in that order (DESIGN CHOICE, notes/assumptions/182.md). -/
def vcOrder (f : Fp) : List Nat :=
  let o := [1, 0, 3, 2]
  o.filter (fun v => 256 ≤ f.ready.get (fun _ => 0) v) ++ o.filter (fun v => f.ready.get (fun _ => 0) v < 256)

/-- The slots of a packet as it begins to leave: a SYNC takes its timestamp at the first bit of its flit, T1 in a
DELAY_REQ, T3 in a DELAY_RSP (R179). -/
def Dev.stampSync (s : Dev) (slots : List Slot) : List Slot :=
  match slots with
  | [w, a, b] =>
    if slotOpc w != opcSync then slots
    else if (reqOfSlot w).sub = 1 then [w, BitVec.ofNat 128 s.stamp, b] else [w, a, BitVec.ofNat 128 s.stamp]
  | _ => slots

/-- Fill one slot: the port after it, its descriptor and content; descriptor 0 for an unused slot. -/
def Dev.fillSlot (s : Dev) (n : Nat) : Dev × Nat × Slot :=
  let f := s.fp n
  let held (v : Nat) : Nat := s.rd (base.fp n) (creditFld FP.CREDIT_REQ.HELD v)
  match (vcOrder f).find? (fun v => slotReady s.batt.holdForward f (held v) v) with
  | none => (s, 0, 0)
  | some v =>
    let cur := f.sending.get (fun _ => []) v
    let (slots, q) := if cur.isEmpty then
        (match headOf s.batt.holdForward f v with | none => ([], f.txq) | some p => (s.stampSync p.slots, f.txq.erase p))
      else (cur, f.txq)
    let s1 := s.setFp n { f with
      sending := f.sending.set (fun _ => []) v (slots.drop 1), txq := q, ready := f.ready.set (fun _ => 0) v 0 }
    let s2 := (s1.put (base.fp n) (creditFld FP.CREDIT_REQ.HELD v) (held v - 1)).perf (4 + n) v 1 1
    (s2, 8 + (if cur.isEmpty then 4 else 0) + v, slots.headD 0)

/-- Fill the four slots of a flit. -/
def Dev.fillSlots (s : Dev) (n : Nat) : Nat → Dev × Nat × Nat
  | 0 => (s, 0, 0)
  | k + 1 =>
    let (s1, d, w) := s.fillSlot n
    let (s2, ds, ws) := s1.fillSlots n k
    (s2, d + 16 * ds, w.toNat + 2 ^ 128 * ws)

/-- The flit times that each ready channel has waited (R98), and CREDIT_WAIT of the channels that lack credits. -/
def Dev.ageReady (s : Dev) (n : Nat) : Dev :=
  s.each (List.range 4) (fun s v =>
    let f := s.fp n
    let held := s.rd (base.fp n) (creditFld FP.CREDIT_REQ.HELD v)
    if slotReady s.batt.holdForward f held v then s.setFp n { f with ready := f.ready.set (fun _ => 0) v (f.ready.get (fun _ => 0) v + 1) }
    else if (headOf s.batt.holdForward f v).isSome then s.perf (4 + n) v 6 1 else s)

/-- Something waits that a transmitter leaves idle for (R109). -/
def Fp.hasWork (f : Fp) : Bool := !f.txq.isEmpty || !f.lctl.isEmpty || f.resend != 0 || f.nakToSend

/-- The next flit of an ACTIVE transmitter: the NULL of R99 first, so that none of the others delays it past 1,024 flits;
then a NAK that is due, a replay, link control messages, packet slots, else NULL. With 512 flits held it sends NULL
flits (R88). -/
def Dev.nextFlit (s0 : Dev) (n : Nat) : Dev :=
  let f := s0.fp n
  if 1023 ≤ f.sinceNull then s0.sendNull n
  else if f.nakToSend then
    ((s0.upFp n (fun p => { p with nakToSend := false })).count (base.fp n) FP.NAK_TX.COUNT).putFlit n 0 0 fkNak 0
  else if 0 < f.resend then
    match f.replay.drop (f.replay.length - f.resend) with
    | [] => s0
    | e :: _ =>
      let first := f.resend = f.replay.length
      ((s0.upFp n (fun p => { p with
        resend := p.resend - 1, oldestSent := if first then p.oldestSent + 1 else p.oldestSent })).perf (4 + n) noInst 4 1).putFlit n e.2.2.2.toNat e.2.2.1.toNat e.2.1.toNat e.1
  else if 512 ≤ f.replay.length then s0.sendNull n
  else
    match f.lctl with
    | m :: rest => ((s0.upFp n (fun p => { p with lctl := rest })).sendNew n m.toNat 0 fkLctl).lctlSent n m
    | [] =>
      let (s1, d, w) := s0.fillSlots n 4
      if d = 0 then s0.sendNull n else s1.sendNew n w d fkData

/-- One flit time of a transmitter: training frames on every lane from LOCK to CONFIG, and for 64 flit times when it
resumes from idle (R76, R78, R109); flits when ACTIVE. -/
def Dev.flitOut (s : Dev) (n : Nat) : Dev :=
  let f := s.fp n
  let st := s.fpState n
  if f.squelched then s
  else if fpLock ≤ st ∧ st ≤ fpConfig then s.putFrames n
  else if st ≠ fpActive ∨ (f.txIdle ∧ !f.hasWork) then s
  else if f.txIdle ∨ f.resumeLeft ≠ 0 then
    (s.putFrames n).upFp n (fun p => { p with txIdle := false, resumeLeft := if f.txIdle then 63 else p.resumeLeft - 1 })
  else (s.ageReady n).nextFlit n

def execFlitTransmit (port : Fin 6) (s : State) : Host.Outcome State Fault Refusal := s.act (fun s => s.flitOut port)

/-! ### Idle (R109) -/

/-- With every sequenced flit acknowledged and nothing under way or waiting, the device sends IDLE_ENTER and squelches
its transmitter. (DEDUCED, notes/assumptions/183.md) -/
def Dev.idleTx (s : Dev) (n : Nat) : Dev :=
  let f := s.fp n
  if s.fpState n = fpActive ∧ f.replay.isEmpty ∧ !f.hasWork ∧ f.sending.isEmpty ∧ !f.txIdle ∧ f.resumeLeft = 0 then
    (s.sendNew n 0x04 0 fkLctl).upFp n (fun p => { p with txIdle := true, lanes := [] })
  else s

def execLinkIdleEnter (port : Fin 6) (s : State) : Host.Outcome State Fault Refusal := s.act (fun s => s.idleTx port)

end Sys2Proof.Machine
end

