-- ==== Sys2Proof/Machine/PowerFail.lean ====
section
/-! DEFINITION. Hold-up energy (R329-R331, R477), the power-fail, Thalt and Midnight flushes (R332-R341, R358), closing,
the safe state and the resume. Energies are in nanojoules, voltages in millivolts. -/
namespace Sys2Proof.Machine

/-- The Fuller's power-failure status takes an event. -/
def Dev.pfEvent (s : Dev) (code : Nat) : Dev := s.post base.pf PF.STATUS.SEQ PF.STATUS.EVENT code

/-! ### Hold-up energy (R330, R331, R477) -/

/-- The floor voltage Vf (R566). -/
def floorMv : Nat := 4500

/-- One joule. -/
def joule : Nat := 1000000000

/-- Energy between a voltage and Vf of a store that holds `e` between `va` and Vf (R331). -/
def energyAt (e v va : Nat) : Nat := if va ≤ floorMv then 0 else e * (v ^ 2 - floorMv ^ 2) / (va ^ 2 - floorMv ^ 2)

/-- Declared energy HOLDUP_J. -/
def Dev.declaredE (s : Dev) : Nat := s.rd base.fcore FULLER.CFG.HOLDUP_J * joule

/-- The effective budget that an energy E supports (R330): min(DIRTY_BUDGET, max(1, floor(2 (E - 4) / 5))). -/
def Dev.effOf (s : Dev) (e : Nat) : Nat :=
  min (s.rd base.fcore FULLER.CFG.DIRTY_BUDGET) (max 1 (2 * (e - 4 * joule) / (5 * joule)))

/-- EFF takes a value; SHORT follows it. A lower value acts at once, with the effect of R68. -/
def Dev.setEff (s : Dev) (n : Nat) : Dev :=
  ((s.put base.pf PF.HOLDUP.EFF n).putFlag base.pf PF.HOLDUP.SHORT
    (n < s.rd base.fcore FULLER.CFG.DIRTY_BUDGET)).bpCheck

/-- CRITICAL: E below 6.5 J (R330). -/
def Dev.showCritical (s : Dev) (e : Nat) : Dev := s.putFlag base.pf PF.HOLDUP.CRITICAL (2 * e < 13 * joule)

/-- An energy in units of 0.25 J. -/
def quarterJ (e : Nat) : Nat := min 1023 (4 * e / joule)

/-- The live energy at a voltage: HOLDUP_J stands in for Ea until the audit has finished (R331). -/
def Dev.liveE (s : Dev) (mv : Nat) : Nat :=
  if mv ≤ floorMv then 0 else energyAt (if s.pf.audited then s.pf.eaNj else s.declaredE) mv s.pf.vaMv

/-- A sample of HOLDUP_V gives El. The first sample of an audit that runs stands for Va (DEDUCED,
notes/assumptions/32.md). -/
def Dev.sampleEl (s0 : Dev) (mv : Nat) : Dev :=
  let s : Dev := if s0.pf.auditing && s0.pf.vaMv = 0 then { s0 with pf := { s0.pf with vaMv := mv } } else s0
  let el := s.liveE mv
  ({ s with pf := { s.pf with elNj := el } } : Dev).put base.pf PF.HOLDUP.LIVE (quarterJ el)

/-- The hold-up audit starts: EFF is 1 until it ends (R330, R477). -/
def Dev.auditStart (s : Dev) : Dev :=
  ({ s with pf := { s.pf with auditing := true, audited := false, vaMv := 0, eaNj := 0, elNj := 0, higherSince := none } } : Dev).setEff 1

/-- EFF is lowered at once: event 8, the POWER interrupt, HOLDUP_SHORT as it falls below DIRTY_BUDGET. -/
def Dev.lowerEff (s : Dev) (n : Nat) : Dev :=
  let was := s.flag base.pf PF.HOLDUP.SHORT
  let s1 := ({ s with pf := { s.pf with higherSince := none } } : Dev).setEff n
  let s2 := s1.pfEvent 8
  (s2.ibi 3 8 (s2.rd base.pf PF.STATUS.SEQ)).when (!was && s2.flag base.pf PF.HOLDUP.SHORT) (fun s => s.raise srcHoldupShort)

/-- EFF follows El (R331): down at once, up after the higher value has been supported at every sample for 1 s, never
above what Ea gives. -/
def Dev.followEl (s : Dev) : Dev :=
  let e := min s.declaredE s.pf.elNj
  let cur := s.rd base.pf PF.HOLDUP.EFF
  let s1 := s.showCritical e
  let n := min (s.effOf e) (s.effOf (min s.declaredE s.pf.eaNj))
  if s.effOf e < cur then s1.lowerEff (s.effOf e)
  else if n ≤ cur then { s1 with pf := { s1.pf with higherSince := none } }
  else
    match s.pf.higherSince with
    | none => { s1 with pf := { s1.pf with higherSince := some s.now, higherMin := n } }
    | some t =>
      let m := min n s.pf.higherMin
      if t + 1000000000 ≤ s.now then
        (({ s1 with pf := { s1.pf with higherSince := none } } : Dev).setEff m).pfEvent 9
      else { s1 with pf := { s1.pf with higherMin := m } }

/-- HOLDUP_SAMPLE: every 1 ms in Noon. -/
def Dev.holdupSample (s : Dev) (mv : Nat) : Dev :=
  if s.rung != rungNoon || s.pfPhase != pfIdle then s
  else
    let s1 := s.sampleEl mv
    if s1.pf.audited then s1.followEl else s1

def execHoldupSample (mv : Nat) (s : State) : Host.Outcome State Fault Refusal := s.act (fun s => s.holdupSample mv)

/-- The audited energy of R477: (HOLDUP_EFF / 100) · ½ · (0.009 / ΔV) · (Va² − Vf²), 0 where the audit is void. -/
def auditedE (eff vaMv droopUv : Nat) : Nat :=
  if droopUv < 1000 ∨ vaMv < floorMv ∨ 50 * vaMv < droopUv then 0
  else eff * 9000 * (vaMv ^ 2 - floorMv ^ 2) * 1000000 / (droopUv * 200000)

/-- HOLDUP_AUDIT_DONE: Ea, E and EFF (R330). -/
def Dev.auditDone (s : Dev) (va droop : Nat) : Dev :=
  if !s.pf.auditing then s
  else
    let ea := auditedE (s.rd base.fcore FULLER.CFG.HOLDUP_EFF) va droop
    let e := min s.declaredE ea
    let s1 : Dev := { s with pf := { s.pf with auditing := false, audited := true, vaMv := va, eaNj := ea, elNj := ea } }
    let s2 := ((s1.put base.pf PF.HOLDUP.AUDIT (quarterJ ea)).showCritical e)
    let n := s2.effOf e
    let cur := s.rd base.pf PF.HOLDUP.EFF
    let s3 := s2.setEff n
    let s4 := if cur < n then s3.pfEvent 9 else if n < cur then s3.pfEvent 8 else s3
    let s5 := s4.when (s4.flag base.pf PF.HOLDUP.SHORT) (fun s => s.raise srcHoldupShort)
    s5.when (ea = 0) (fun s => ((s.put base.bist ⟨BIST.ANALOG.FAIL.off, 4, 1⟩ 1).raise srcBistFail).count base.bist BIST.FAILS.COUNT)

def execHoldupAuditDone (vaMv droopUv : Nat) (s : State) : Host.Outcome State Fault Refusal :=
  s.act (fun s => s.auditDone vaMv droopUv)

/-! ### The power-fail point (R332, R333) -/

/-- A held write is answered and dropped; the read of a merge entry takes the entry's members with it. -/
def Dev.rejectOne (s : Dev) (rsn p : Nat) (e : Entry) : Dev :=
  let read (m : MergeEntry) : Bool := (s.pc p).retires e && m.line = e.line && m.readIssued
  let members := (((s.pc p).mergeBuf.filter read).map MergeEntry.members).flatten
  let s1 := (s.dropEntry p e).upPc p (fun c => { c with mergeBuf := c.mergeBuf.filter (fun m => !read m) })
  s1.each (if members.isEmpty then [e] else members) (fun s g => s.respondEntry g (s.retryRsp rsn))

/-- Every request that waits behind back-pressure, a copy-on-write stall or at the crossbar is answered and dropped; one at
the crossbar frees its place in the receive buffer (R190, R333). -/
def Dev.rejectHeld (s : Dev) (rsn : Nat) : Dev :=
  let s1 := s.each (s.heldEntries .backPressure) (fun s x => s.rejectOne rsn x.1 x.2)
  let s2 := s1.each (s1.heldEntries .cowStall) (fun s x => s.rejectOne rsn x.1 x.2)
  let s3 := s2.each (List.range 128) (fun s p =>
    let q := (s.pc p).xbarQ
    (s.upPc p (fun c => { c with xbarQ := [] })).each q (fun s e =>
      (s.movesOn e.port e.opc e.req).respondEntry e (s.retryRsp rsn)))
  ({ s3 with fuller := { s3.fuller with xbarCmds := [] } } : Dev).each s3.fuller.xbarCmds (fun s c =>
    (s.movesOn (some c.2.1) c.1 c.2.2).refuse c.1 c.2.2 0 (s.retryRsp rsn))

/-- The fault-in wait list is answered, fault-ins and the bulk restore stop (R333, R358). -/
def Dev.rejectWaiting (s : Dev) (rsn : Nat) : Dev :=
  let keep (c : NvmeCmd) : Bool := match c.op with | .read _ none => false | _ => true
  let ws := s.pf.waitList
  let s1 : Dev := { s with pf := { s.pf with waitList := [] } }
  let s2 := s1.each [0, 1] (fun s n => s.upHb n (fun h => { h with cmds := h.cmds.filter keep }))
  s2.each ws (fun s w => s.refuse w.2.opc w.2.req w.2.line (s.retryRsp rsn))

/-- A fuse burn is cut off (R254). -/
def Dev.burnCut (s : Dev) : Dev := s.when s.ecc.burning.isSome (fun s => s.fuseDone false true)

/-- The power-fail (1), Thalt (2) or Midnight (3) point: new work is turned away, held work answered, what is not part of
the flush stops (R333, R339, R341). -/
def Dev.flushPoint (s : Dev) (cause : Nat) : Dev :=
  let rsn := if cause = 2 then rsnThermal else rsnRung
  let s1 := s.when (cause != 3) (fun s => s.bistStop)
  let s2 : Dev := { s1 with pf := { s1.pf with
    pointAt := s.now, drainWindow := cause != 2, energyShort := false, resumed := false, maskedO := false
    endIssued := false, pfSeen := cause = 1, mayResume := cause = 1, thaltSafe := cause = 2, wakeHeld := false
    stage0Held := s.power.linksPending, higherSince := none, bitmap := s.fuller.map.map Prod.fst } }
  let s3 := ((s2.put base.pf PF.STATUS.PHASE pfDrain).put base.pf PF.STATUS.CAUSE cause).count base.pf PF.PF_FLUSH.COUNT
  let s4 := s3.pfEvent 1
  let s5 := s4.ibi 3 1 (s4.rd base.pf PF.STATUS.SEQ)
  let s6 := (s5.rejectHeld rsn).rejectWaiting rsn
  s6.each (List.range 128) (fun s p => s.calPause p)

/-! ### Closing and after (R337) -/

/-- Every fabric lane is squelched and the SerDes powered down: the ports are lost (R334). -/
def Dev.squelchAll (s : Dev) : Dev :=
  let s1 := s.each (List.range 6) (fun s n =>
    let s2 := (s.clearLink n).put (base.fp n) FP.STATUS.STATE fpDown
    let s3 := (s2.upFp n (fun p => { p with squelched := true, lost := true, recovering := false })).put (base.rport n) RPORT.NBR.HEARD 0
    s3.evalPort n)
  { s1 with power := { s1.power with serdesOn := false } }

/-- Closing: an NVMe Flush and the shutdown notification to each cartridge. On the way to Midnight the SerDes power off
(R341). -/
def Dev.closing (s : Dev) : Dev :=
  let s1 := (s.put base.pf PF.STATUS.PHASE pfClosing).when (s.pfCause = 3) (fun s => s.squelchAll)
  let s2 : Dev := { s1 with fuller := { s1.fuller with jobs := [] }, pf := { s1.pf with drainWindow := false } }
  s2.each ([0, 1].filter (fun n => (s2.hb n).cart.isSome && s2.hbState n != hbAbsent && s2.hbState n != hbEjected && s2.hbState n != hbFailed))
    (fun s n => s.nvmeIssue n 0 .flush)

/-- PF_LAST takes the duration in microseconds, what is left, and whether the flush completed.
(DEDUCED, notes/assumptions/59.md) -/
def Dev.showPfLast (s : Dev) : Dev :=
  ((s.put base.pf PF.PF_LAST.DURATION (min (2 ^ 20 - 1) ((s.now - s.pf.pointAt) / 1000))).put base.pf PF.PF_LAST.REMAIN
    (quarterJ s.pf.elNj)).putFlag base.pf PF.PF_LAST.COMPLETE s.pf.endIssued

/-! ### Stages (R335, R338, R341) -/

/-- Writes and records that the cartridges have not completed. -/
def Dev.writesInFlight (s : Dev) : Bool :=
  [0, 1].any (fun n => (s.hb n).cmds.any (fun c => match c.op with
    | .writeUnit _ _ => true
    | .writeRecord _ _ => true
    | _ => false))

/-- Stage 0 begins: FLUSH_START with the dirty bitmap of the flush point (R328, R335). -/
def Dev.stage0 (s : Dev) : Dev :=
  if s.nonDurable || s.durableSet.isEmpty then s.closing
  else
    let s1 := s.put base.pf PF.STATUS.PHASE pfStage0
    s1.issueRecord .flushStart (s.pfCause :: s.pf.bitmap)

/-- Some dirty unit belongs to the work of the stage. -/
def Dev.stageLeft (s : Dev) : Bool := s.fuller.map.any (fun u => s.stageWork u.1 u.2)

/-- Mask of the EPOCH regions that the COMMIT of O in stage 2 names. -/
def Dev.stage2Mask (s : Dev) : Nat :=
  (List.range 64).foldl (fun a r =>
    if s.rgnValid r && s.classOf r = clsEpoch && (s.pfCause = 3 || s.flag base.rgn (RGN.ATTR.SEAL_ON_PF.at 8 r)) then a + 2 ^ r else a) 0

/-- The FLUSH_END record (R338). -/
def Dev.issueEnd (s : Dev) : Dev :=
  let back := s.pf.mayResume && !s.pf.low && decide (s.pf.roseAt + 10000000 ≤ s.now)
  let s1 : Dev := { s with pf := { s.pf with endIssued := true, resumed := back } }
  s1.issueRecord .flushEnd [if s.pf.pfSeen then 1 else s.pfCause, back.toNat]

/-- The device resumes (R338): the Crown is intact, the ports retrain, a masked O is sealed, a new point follows when
PWRFAIL_N has asserted again; fault-ins that the flush stopped are read again. -/
def Dev.resume (s : Dev) : Dev :=
  let again := s.pf.low
  let s1 := (s.showPfLast).pfEvent 7
  let s2 := (s1.put base.pf PF.STATUS.PHASE pfIdle).put base.pf PF.STATUS.CAUSE 0
  let s3 := s2.issueRecord .session [s.epochO.toNat, s.epochD.toNat, s.uid, s.rd base.batt BATT.ACTIVE_SERIAL.SERIAL]
  let s4 := s3.each ((List.range 6).filter (fun n => !s.fpDisabled n)) (fun s n =>
    (s.upFp n (fun p => { p with squelched := false })).fullTrain n)
  let s5 : Dev := { s4 with power := { s4.power with serdesOn := true }, pf := { s4.pf with endIssued := false } }
  let s6 :=
    if s.pf.maskedO && s5.epState = epOpen then
      let o := s5.epochO
      (((s5.setEpochs epSealing (nextEpoch o) o s5.epochD).count base.fcore FULLER.SEAL.COUNT).fullerEvent 1).tryCommit
    else s5
  let s7 := (if s6.pf.audited then s6.followEl else s6).sealDeferred
  let s8 := s7.each (s7.pf.faultIns.filter (fun u => !s7.pf.writing.contains u)) (fun s u => match s.hbReaders u with | n :: _ => s.nvmeIssue n 6 (.read u none) | [] => s)
  if again then s8.flushPoint 1 else s8

/-- One advance of the flush, where its stage has ended. -/
def Dev.pfStep (s : Dev) : Dev :=
  let ph := s.pfPhase
  if ph < pfStage0 || pfClosing ≤ ph then s
  else if s.nonDurable || s.durableSet.isEmpty then s.closing
  else if s.pf.energyShort then (if s.writesInFlight then s else s.closing)
  else if ph = pfStage0 then (if s.recordPendingOn .flushStart then s else s.put base.pf PF.STATUS.PHASE pfStage1)
  else if ph = pfStage1 then
    if s.epState != epSealing then s.put base.pf PF.STATUS.PHASE pfStage2
    else
      let s1 := s.tryCommit
      match s1.fuller.commit with
      | some (_, _, false) => if s1.recordPendingOn .commit then s1 else (s1.sDurable.pfEvent 2).put base.pf PF.STATUS.PHASE pfStage2
      | _ => s1
  else if ph = pfStage2 then
    if s.epState = epNone || s.stage2Mask = 0 then s.put base.pf PF.STATUS.PHASE pfStage3
    else if s.stageLeft then s
    else
      let full := decide (s.pfCause = 3)
      match s.fuller.commit with
      | none =>
        let s1 : Dev := { s with fuller := { s.fuller with commit := some (s.epochO, BitVec.ofNat 64 s.stage2Mask, true) } }
        s1.issueRecord .commit (commitPayload s.epochO s.stage2Mask (!full))
      | some _ =>
        if s.recordPendingOn .commit then s
        else
          let s1 : Dev := { s with fuller := { s.fuller with commit := none }, pf := { s.pf with maskedO := !full } }
          let s2 := if full then s1.setEpochs s1.epState s1.epochO s1.epochS s1.epochO else s1
          ((s2.pfEvent (if full then 4 else 3)).completeWaits).put base.pf PF.STATUS.PHASE pfStage3
  else if s.stageLeft then s
  else if !s.pf.endIssued then s.issueEnd
  else if s.recordPendingOn .flushEnd then s
  else
    let s1 := s.pfEvent 5
    let s2 := s1.each ([0, 1].filter (fun n => (s1.hb n).wornHeld)) (fun s n => s.goWorn n)
    if s.pf.resumed then s2.resume else s2.closing

/-- The flush advances through every stage that has ended. -/
def Dev.pfAdvance (s : Dev) : Dev := s.each (List.range 8) (fun s _ => s.pfStep)

/-! ### Commands of the flush -/

/-- PWRFAIL_N has been low for 200 ns: the power-fail point (R332), or what R339, R358 and R520 make of it. A Batt command
and a fuse burn under way are cut short (R71, R254). (DEDUCED, notes/assumptions/58.md) -/
def Dev.pwrfail (s : Dev) (byPin : Bool) : Dev :=
  let s1 : Dev := if byPin then { s with pf := { s.pf with low := true } } else s
  let s0 := s1.battAbort.burnCut
  if !s0.power.crownOn then s0
  else if s0.pfPhase = pfIdle then
    if s0.started then (s0.wakeNoon .pwrfail).flushPoint 1
    else
      let s1 := ((if s0.dawnDone 10 then (s0.put base.rung RUNG.STATUS.RUNG rungNoon).put base.rung RUNG.STATUS.PHASE rpSteady
        else s0.setDawnPhase dawnStopped)).bistStop.rejectWaiting rsnRung
      (({ s1 with pf := { s1.pf with pointAt := s.now, pfSeen := true, endIssued := false, thaltSafe := false } } : Dev).put
        base.pf PF.STATUS.CAUSE 1).closing
  else if s0.pfPhase = pfSafe || !byPin then s0
  else if s0.pfCause = 2 then
    { s0.put base.pf PF.STATUS.CAUSE 1 with pf := { s0.pf with pfSeen := true, drainWindow := true, thaltSafe := false } }
  else { s0 with pf := { s0.pf with pfSeen := true } }

/-- SUPPLY_UNDERVOLT: rails 00-09 take a power-fail point; every rail raises its source (R564). -/
def Dev.undervolt (s : Dev) (rail : Nat) : Dev :=
  let s1 := s.raise (srcSupply rail)
  if rail < 10 then s1.pwrfail false else s1

/-- DRAIN_WINDOW_END: the lanes are squelched, or go idle for Midnight, and stage 0 starts (R334, R335, R341). -/
def Dev.drainEnd (s : Dev) : Dev :=
  if !s.pf.drainWindow then s
  else
    let s1 : Dev := { s with pf := { s.pf with drainWindow := false } }
    let s2 := if s1.pfCause = 3 then s1.each (List.range 6) (fun s n => s.idleTx n) else s1.squelchAll
    if s2.pfPhase != pfDrain || s2.pf.stage0Held then s2 else s2.stage0.pfAdvance

def execDrainWindowEnd (s : State) : Host.Outcome State Fault Refusal := s.act Dev.drainEnd

/-- HATBOX_RECORD_DURABLE: the flush looks at the records that have become durable; the COMMIT of S of R313 as well. -/
def Dev.recordDurable (s : Dev) (k : RecordKind) : Dev :=
  if s.recordPendingOn k then s
  else if s.pfPhase = pfIdle || s.pfPhase = pfDrain then (if k = .commit then s.commitDone else s)
  else s.pfAdvance

def execHatboxRecordDurable (rec : RecordKind) (s : State) : Host.Outcome State Fault Refusal :=
  s.act (fun s => s.recordDurable rec)

/-- EPOCH_COMMIT_DONE (R313). -/
def Dev.epochCommitDone (s : Dev) : Dev :=
  if s.pfPhase = pfIdle || s.pfPhase = pfDrain then s.commitDone else s.pfAdvance

def execEpochCommitDone (s : State) : Host.Outcome State Fault Refusal := s.act Dev.epochCommitDone

/-- DESTAGE_START: during a flush its stages advance first, as a fold can end the work of one (R358).
(DESIGN CHOICE, notes/assumptions/54.md) -/
def execDestageStart (s : State) : Host.Outcome State Fault Refusal := s.act (fun s => s.pfAdvance.destageStart)

/-- DESTAGE_DURABLE (R292). -/
def execDestageDurable (unit : BitVec 25) (s : State) : Host.Outcome State Fault Refusal :=
  s.act (fun s => (s.destageDurable unit.toNat).pfAdvance)

/-- FLUSH_ENERGY_SAMPLE: at the closing reserve of 1.5 J, or below Vf + 5 %, destage stops (R336). Not in a Thalt or
Midnight flush unless PWRFAIL_N has asserted (R339, R358). -/
def Dev.energySample (s : Dev) (mv : Nat) : Dev :=
  if s.pfPhase = pfIdle || s.pfPhase = pfSafe || !s.pf.pfSeen then s
  else
    let s1 := s.sampleEl mv
    if !s1.pf.energyShort && s1.pfPhase < pfClosing && (2 * s1.pf.elNj ≤ 3 * joule || mv * 100 < floorMv * 105) then
      let s2 : Dev := { s1 with pf := { s1.pf with energyShort := true } }
      (((s2.pfEvent 6).raise srcEnergyShort)).pfAdvance
    else s1

def execFlushEnergySample (mv : Nat) (s : State) : Host.Outcome State Fault Refusal := s.act (fun s => s.energySample mv)

/-- PWRFAIL_DEASSERT: PWRFAIL_N rises. -/
def execPwrfailDeassert (s : State) : Host.Outcome State Fault Refusal :=
  s.act (fun s => { s with pf := { s.pf with low := false, roseAt := s.now } })

/-- Firmware is in service (R432): what only firmware starts can start. -/
def Dev.coreServes (s : Dev) : Bool := s.rd base.core CORE.STATUS.STATE = 1

/-- THALT_FLUSH_START: the Thalt point and stage 0 at once; ignored during a flush, and before restore start there is
nothing to flush (R339, R358). Firmware starts it, so with the management core down there is none (R14, R340). -/
def Dev.thaltStart (s : Dev) : Dev :=
  if s.pfPhase != pfIdle || !s.started || !s.coreServes then s
  else
    let s1 := (s.wakeNoon .thermal).flushPoint 2
    if s1.pf.stage0Held then s1 else s1.stage0.pfAdvance

def execThaltFlushStart (s : State) : Host.Outcome State Fault Refusal := s.act Dev.thaltStart

/-! ### The Crown's power -/

/-- The Crown supplies are cut: its contents are gone, as are the pseudo-channels' queues and the settings store; a fuse
burn ends (R254). -/
def Dev.crownCut (s0 : Dev) : Dev :=
  let s := s0.burnCut
  { s with crown := [], pcs := [], power := { s.power with crownOn := false } }

/-- The Crown and SerDes supplies are cut at once: nothing is flushed, Hatbox commands are abandoned, the ports are lost
(R340, R425, R488). -/
def Dev.supplyCut (s : Dev) : Dev :=
  let s1 := s.battAbort.bistStop.squelchAll.crownCut
  let s2 : Dev := { s1 with
    fuller := { s1.fuller with jobs := [] }
    pf := { s1.pf with
      restoring := false, restored := [], waitList := [], faultIns := [], writing := [], drainWindow := false, zeroFill := false } }
  let s3 := s2.each [0, 1] (fun s n => s.upHb n (fun h => { h with cmds := [] }))
  (s3.put base.pf PF.STATUS.PHASE pfIdle).put base.pf PF.RST_STATUS.PHASE 0

/-- The safe state after a power-fail flush: everything but the always-on domain is off (R337).
(DEDUCED, notes/assumptions/109.md) -/
def Dev.brimOff (s : Dev) : Dev :=
  let d := s.brimLoss true
  let d1 : Dev := { d with
    batt := { Batt.reset with active := s.batt.active }
    pf := { Pf.reset with low := s.pf.low, roseAt := s.pf.roseAt, pfSeen := s.pf.pfSeen }
    power := { d.power with wakeSeen := s.power.wakeSeen } }
  d1.put base.pf PF.STATUS.reg (s.reg (base.pf + PF.STATUS.reg.off)).toNat

/-- CLOSING_DONE: the Crown is cut and the device is in the safe state, or in Midnight (R337, R339, R341). -/
def Dev.closingDone (s : Dev) : Dev :=
  if s.pfPhase != pfClosing then s
  else
    let s1 := (s.showPfLast).put base.pf PF.STATUS.PHASE pfSafe
    if s1.pf.thaltSafe then
      s1.crownCut.each (List.range 2) (fun s n => s.upHb n (fun h => { h with cmds := [], cold := true }))
    else if s1.pfCause = 3 then
      (((s1.put base.rung RUNG.STATUS.RUNG rungMidnight).put base.rung RUNG.STATUS.PHASE rpSteady).put base.rung
        RUNG.STATUS.RESULT 0).rungEvent 3 |>.brimOff
    else s1.brimOff

end Sys2Proof.Machine
end

