-- ==== Sys2Proof/Machine/Hatbox.lean ====
section
/-! DEFINITION. Hatbox ports (R360-R393, R575): what a cartridge is to the device, pairing, ejecting, resynchronisation,
keys, wear and the cleaner. -/
namespace Sys2Proof.Machine

/-! ### The index and its checkpoints (R379, R381, R382) -/

/-- INDEX blocks that have changed since the last checkpoint: those of the units written since (R381). -/
def indexChanged (log : List Block) : List Nat :=
  (((log.takeWhile (fun b => b.kind != kindIndexRoot)).filter (fun b => b.kind = kindVersion)).map (fun b => b.unit / 256)).eraseDups

/-- Words of INDEX block k: LIVE0-LIVE3 of its 256 units, log offset and VALID (R379, R381). -/
def Dev.indexWords (s : Dev) (n k : Nat) : List Nat :=
  let log := s.hbLog n
  let ring := match (s.hb n).cart.bind Cart.super with | some f => f.logBlocks | none => 0
  ((List.range 256).map (fun j =>
    let u := 256 * k + j
    let live := if log.any (fun b => b.kind = kindVersion && b.unit = u) then
        liveBlocks s.pf.abandons (s.regionOfUnit u) log s.views u else []
    (List.range 4).map (fun i => match live[i]? with | some b => b.lba % ring + 2 ^ 31 | none => 0))).flatten

/-- A checkpoint: every INDEX block that has changed, then INDEX_ROOT with the record table and the abandon list (R382),
then a superblock copy (R381). -/
def Dev.hbCheckpoint (s0 : Dev) (n : Nat) : Dev :=
  let s := s0.hbAppend n ((indexChanged (s0.hbLog n)).map (fun k =>
    ⟨kindIndex, 0, 0, 0, 0, s0.openEpoch, [], [], k :: s0.indexWords n k⟩))
  let ring := match (s.hb n).cart.bind Cart.super with | some f => f.logBlocks | none => 0
  let at_ (p : Block → Bool) : Nat := match (s.hbLog n).find? p with | some b => 64 + b.lba % ring | none => 0
  let table := [kindSession, kindFlushStart, kindFlushEnd].map (fun k => at_ (fun b => b.kind = k)) ++
    [0, 1].map (fun m => at_ (fun b => b.kind = kindCommit && b.payload.getD 2 0 = m))
  let list := (s.pf.abandons.map (fun a => [a.1, a.2.1.toNat, a.2.2.toNat])).flatten
  let root : Block := ⟨kindIndexRoot, 0, 0, 0, 0, s0.openEpoch, [], [], table ++ list⟩
  let s1 := s.hbAppend n [root]
  s1.upHb n (fun h => { h with
    logSinceCkpt := 0
    cart := h.cart.map (fun c => match c.super with
      | some f => c.writeSuper { f with
        written := s1.wideOf (base.hb n) 3
        ckptLba := match c.log with | x :: _ => 64 + x.lba % f.logBlocks | [] => 0
        ckptRsn := match c.log with | x :: _ => x.rsn | [] => 0 }
      | none => c) })

/-! ### Identity (R368-R372) -/

/-- The root key that Hatbox keys derive from: all zero in TEST (R371, R372). -/
def Dev.hbRoot (s : Dev) : Option (BitVec 256) := if s.otp.lifecycle = 1 then some 0 else s.rootKey

/-- MEMBER and MODE of a superblock are consistent with HB_MODE at a port (R370, R374). -/
def Dev.modeOk (s : Dev) (n : Nat) (f : Super) : Bool :=
  f.mode = s.hbMode && (s.hbMode < 2 || (f.member = 0 && n = s.hbMode - 2))

/-- The cartridge is the device's own (R370): owner, key, MODE and MEMBER; a TESTKEY cartridge only in TEST. -/
def Dev.ownCart (s : Dev) (n : Nat) (c : Cart) : Bool :=
  match c.super with
  | none => false
  | some f =>
    f.owner.toNat = s.uid && (f.testKey == decide (s.otp.lifecycle = 1)) && s.hbRoot = some f.wrapRoot &&
    f.wrapCart = c.report.cartId && f.kcv = f.key && s.modeOk n f

/-- State of a cartridge when its port has come up (R370). -/
def Dev.cartState (s : Dev) (n : Nat) (c : Cart) : Nat :=
  match c.super with
  | none => hbForeign
  | some f =>
    if !s.ownCart n c then hbForeign
    else if f.synced then (if f.restoreOnly then hbRestoreOnly else hbInService)
    else if s.hbMode = 1 then hbResync else hbForeign

/-- The registers that show the superblock in force. -/
def Dev.showSuper (s : Dev) (n : Nat) : Dev :=
  match (s.hb n).cart with
  | none => s
  | some c =>
    let f := c.super
    let g (x : Super → Nat) : Nat := match f with | some y => x y | none => 0
    ((((s.put (base.hb n) HB.STATUS.MEMBER (g Super.member)).put (base.hb n) HB.PAIR_GEN.GEN (g (fun x => x.pairGen.toNat))).setWide
      (base.hb n) 1 (g (fun x => x.cartId.toNat))).setWide (base.hb n) 2 (g (fun x => x.owner.toNat))).setWide (base.hb n) 3
      (g Super.written)

/-! ### Resynchronisation (R391, R392) -/

/-- The IN_SERVICE member that another port copies from. -/
def Dev.resyncSource (s : Dev) (n : Nat) : Option Nat := [0, 1].find? (fun m => m != n && s.hbMode = 1 && s.hbState m = hbInService)

/-- The cartridge counts: superblock SYNCED, IN_SERVICE, event 6. -/
def Dev.synced (s : Dev) (n : Nat) : Dev :=
  let s1 := ((s.reSuper n (fun f => { f with synced := true })).setHbState n hbInService).hbEvent n 6
  s1.evalDurability

/-- Units of persistent regions that a port's cartridge holds. -/
def Dev.assigned (s : Dev) (n : Nat) : List Nat :=
  (List.range (2 ^ 25)).filter (fun u => (s.hbHolders u).contains n && s.unitClass u != clsVolatile && !s.inShadow (64 * u))

/-- Nothing to copy from: every assigned unit is marked dirty, whatever its lines hold, and SYNCED is set; COMMITs that
stand on the cartridge give no restore epoch any more (R392). (DEDUCED, notes/assumptions/86.md) -/
def Dev.rebuild (s : Dev) (n : Nat) : Dev :=
  let s1 := s.upHb n (fun h => { h with cart := h.cart.map (fun c => { c with log := c.log.filter (fun b => b.kind != kindCommit) }) })
  (s1.each (s1.assigned n) (fun s u => s.admitSeed u)).synced n

/-- A record that the record table names: the newest of its kind, COMMITs full and masked apart (R382). -/
def recordNamed (log : List Block) (b : Block) : Bool :=
  if b.kind = kindSession || b.kind = kindFlushStart || b.kind = kindFlushEnd then log.find? (fun x => x.kind = b.kind) = some b
  else if b.kind = kindCommit then log.find? (fun x => x.kind = kindCommit && x.payload.getD 2 0 = b.payload.getD 2 0) = some b
  else b.kind = kindAbandon

/-- The records that the record table and the abandon list of a member name stand on the copy as well (R382, R391).
(DEDUCED, notes/assumptions/85.md) -/
def Dev.copyRecords (s : Dev) (m n : Nat) : Dev :=
  s.hbAppend n (((s.hbLog m).filter (recordNamed (s.hbLog m))).reverse.map (fun b => { b with vsn := 0 }))

/-- Live blocks of a unit on a port's cartridge, oldest VSN first. -/
def Dev.liveOf (s : Dev) (m u : Nat) : List Block :=
  sortBy (fun a b => a.vsn ≤ b.vsn) (liveBlocks s.pf.abandons (s.regionOfUnit u) (s.hbLog m) s.views u)

/-- The next unit with live blocks is copied, on QID 8; after the last the cartridge has a checkpoint and is SYNCED. -/
def Dev.resyncGo (s : Dev) (n : Nat) : Dev :=
  match s.resyncSource n with
  | none => s.rebuild n
  | some m =>
    let us := ((s.hbLog m).filter (fun b => b.kind = kindVersion && (s.hb n).resyncNext ≤ b.unit)).map Block.unit
    match us.foldl (fun (a : Option Nat) u => match a with | none => some u | some x => some (min x u)) none with
    | some u => (s.put (base.hb n) HB.RESYNC.UNITS u).nvmeIssue n 8 (.resync u)
    | none => (((s.put (base.hb n) HB.RESYNC.UNITS (2 ^ 25)).copyRecords m n).hbCheckpoint n).synced n

/-- Resynchronisation starts from unit 0 once the device serves (R370, R391, R392). -/
def Dev.startResync (s : Dev) (n : Nat) : Dev :=
  if s.hbState n != hbResync || !s.started then s
  else ((s.upHb n (fun h => { h with resyncNext := 0 })).put (base.hb n) HB.RESYNC.UNITS 0).resyncGo n

/-- A unit has been copied. -/
def Dev.resyncCopied (s : Dev) (n u : Nat) : Dev :=
  if s.hbState n != hbResync then s
  else
    match s.resyncSource n with
    | none => s.rebuild n
    | some m =>
      let bs := (s.liveOf m u).map (fun b => { b with vsn := 0 })
      (((s.hbAppend n bs).upHb n (fun h => { h with resyncNext := u + 1 })).put (base.hb n) HB.RESYNC.UNITS (u + 1)).resyncGo n

/-! ### Coming up (R361, R370, R511) -/

/-- A port whose link is up takes the state that its cartridge gives it. (DEDUCED, notes/assumptions/91.md) -/
def Dev.classifyPort (s : Dev) (n : Nat) : Dev :=
  match (s.hb n).cart with
  | none => s
  | some c =>
    let st := s.cartState n c
    let again := s.started && !(s.hb n).cold && st = hbInService && (s.resyncSource n).isSome
    let s1 := (s.upHb n (fun h => { h with cold := false })).showSuper n
    let s2 := s1.setHbState n (if again then hbResync else st)
    let s3 := if again then s2.reSuper n (fun f => { f with synced := false }) else s2
    if st = hbForeign then s3.raise (srcHbForeign n) else s3

/-! ### PAIR (R371, R393, R575) -/

def hbOk : Nat := 0
def hbDenied : Nat := 1
def hbBusy : Nat := 2
def hbRefused : Nat := 3
def hbFormatErr : Nat := 4

/-- A PAIR or EJECT ends (event 2). -/
def Dev.hbCmdEnd (s : Dev) (n result : Nat) : Dev := (s.put (base.hb n) HB.STATUS.RESULT result).hbEvent n 2

/-- R393: during a flush, a restore, or Midnight entry or exit the commands end with BUSY. -/
def Dev.hbCoincides (s : Dev) : Bool :=
  s.pfPhase != pfIdle || s.restoreRuns || s.rung = rungMidnight || s.rungPhase = rpExiting

/-- Blocks that the cartridge must offer (R364). -/
def Dev.blocksNeeded (s : Dev) : Nat := if s.hbMode = 0 then 50331648 else 100663296

/-- MEMBER of a cartridge that is paired (R371). -/
def Dev.newMember (s : Dev) (n : Nat) : Nat :=
  let o := 1 - n
  if 2 ≤ s.hbMode then 0
  else if s.hbState o = hbResync || s.hbState o = hbInService || s.hbState o = hbRestoreOnly then 1 - s.hbr o HB.STATUS.MEMBER
  else n

/-- PAIR: refused by the port's state and the lifecycle, or the format starts. (DEDUCED, notes/assumptions/95.md)
(DEDUCED, notes/assumptions/104.md) -/
def Dev.pairCmd (s : Dev) (n : Nat) : Dev :=
  let s0 := s.put (base.hb n) HB.CTL.PAIR 0
  let st := s.hbState n
  if s.hbCoincides || st = hbPairing || (s.hb n).ejecting then s0.hbCmdEnd n hbBusy
  else if st = hbAbsent || st = hbFailed || st = hbEjected then s0.hbCmdEnd n hbRefused
  else if s.otp.lifecycle = 0 || 3 < s.otp.lifecycle || s.hbRoot.isNone then s0.hbCmdEnd n hbDenied
  else if st = hbInService || st = hbRestoreOnly then s0.hbCmdEnd n hbRefused
  else
    match (s.hb n).cart with
    | none => s0.hbCmdEnd n hbRefused
    | some c =>
      if st = hbForeign && c.super.isSome && !s.flag (base.hb n) HB.CTL.ERASE_OK then s0.hbCmdEnd n hbRefused
      else if !c.report.formatOffered || c.report.blocks < s.blocksNeeded then s0.hbCmdEnd n hbFormatErr
      else
        let gen := match c.super with | some f => f.pairGen.toNat + 1 | none => 1
        let s1 := (s0.put (base.hb n) HB.PAIR_GEN.GEN gen).setHbState n hbPairing
        (s1.upHb n (fun h => { h with pairing := 2, cmds := [] })).nvmeIssue n 0 .format

def execPair (n : Fin 2) (s : State) : Host.Outcome State Fault Refusal := s.act (fun s => s.pairCmd n)

/-- The format has ended: key, superblocks, empty checkpoint, RESYNC (R371 steps 3 to 6).
(DEDUCED, notes/assumptions/105.md) -/
def Dev.pairFormatted (s : Dev) (n : Nat) (ok : Bool) : Dev :=
  if s.hbState n != hbPairing then s
  else
    match (s.hb n).cart with
    | none => s
    | some c =>
      let s0 := s.upHb n (fun h => { h with pairing := 0 })
      if !ok then (s0.setHbState n hbForeign).hbCmdEnd n hbFormatErr
      else
        let root := s.hbRoot.getD 0
        let gen := BitVec.ofNat 32 (s.hbr n HB.PAIR_GEN.GEN)
        let k : HbKey := ⟨root, c.report.cartId, gen⟩
        let partner : BitVec 64 := if s.hbState (1 - n) = hbInService || s.hbState (1 - n) = hbResync then BitVec.ofNat 64 (s.wideOf (base.hb (1 - n)) 1) else 0
        let f : Super :=
          { rsn := 1, mode := s.hbMode, member := s.newMember n, synced := false, testKey := s.otp.lifecycle = 1
            adopted := false, restoreOnly := false, cartId := c.report.cartId, owner := BitVec.ofNat 64 s.uid
            partner := partner, pairGen := gen, wrapRoot := root, wrapCart := c.report.cartId, key := k, kcv := k
            logBlocks := min (c.report.blocks - 64) (2 ^ 27), ckptLba := 0, ckptRsn := 0, rated := 36000000, written := 0
            envelopes := [] }
        let s1 := s0.upHb n (fun h => { h with
          cart := some { c with superA := some f, superB := some f, log := [] }, wearLog := [] })
        let s2 := ((s1.showSuper n).hbCheckpoint n).setHbState n hbResync
        (s2.hbCmdEnd n hbOk).startResync n

/-! ### EJECT (R389, R393, R575) -/

/-- Without a port's cartridge there would be no durability set. -/
def Dev.soleMember (s : Dev) (n : Nat) : Bool :=
  s.hbState n = hbInService && (s.put (base.hb n) HB.STATUS.STATE hbEjected).durableSet.isEmpty

/-- With no command left in flight the eject ends: SYNCED = 0, shutdown, the link disabled. -/
def Dev.ejectEnd (s : Dev) (n : Nat) : Dev :=
  if !(s.hb n).ejecting || !(s.hb n).cmds.isEmpty then s
  else
    let s1 := if s.hbState n = hbForeign then s else s.reSuper n (fun f => { f with synced := false })
    let s2 := (((s1.upHb n (fun h => { h with ejecting := false })).put (base.hb n) HB.STATUS.SPEED 3).setHbState n hbEjected)
    (s2.hbCmdEnd n hbOk).evalDurability

/-- EJECT. -/
def Dev.ejectCmd (s : Dev) (n : Nat) : Dev :=
  let s0 := s.put (base.hb n) HB.CTL.EJECT 0
  let st := s.hbState n
  if s.hbCoincides || st = hbPairing || (s.hb n).ejecting then s0.hbCmdEnd n hbBusy
  else if st = hbAbsent || st = hbFailed || st = hbEjected then s0.hbCmdEnd n hbRefused
  else if s.soleMember n && !s.flag (base.hb n) HB.CTL.FORCE then s0.hbCmdEnd n hbRefused
  else (s0.upHb n (fun h => { h with ejecting := true })).ejectEnd n

def execEject (n : Fin 2) (s : State) : Host.Outcome State Fault Refusal := s.act (fun s => s.ejectCmd n)

/-! ### Keys (R385, R386, R450) -/

/-- Bytes of a WIDE field, byte 0 in bits [7:0] (R577). -/
def wideBytes (v n : Nat) : List (BitVec 8) := (bytesOf v n).map (BitVec.ofNat 8)

/-- The device's identity public key, derived from its root key (R450). -/
def Dev.identity (s : Dev) : Option (BitVec 768) := s.rootKey.map Config.derivePublic

/-- The device certificate in CERT passes R450: the vendor CA key, the device's own public key.
(DEDUCED, notes/assumptions/120.md) -/
def Dev.certOk (s : Dev) : Bool :=
  match s.caKeyHash, s.identity with
  | some h, some k => Config.certChain ((s.norBytes 0x20000 0x10000).map (BitVec.ofNat 8)) h = some k
  | _, _ => false

def Dev.keyEnd (s : Dev) (result : Nat) : Dev :=
  ((s.put base.key KEY.CMD.GO 0).put base.key KEY.STATUS.RESULT result).bump base.key KEY.STATUS.SEQ

/-- KEY_EXPORT: an envelope for the device that a certificate names (R385). -/
def Dev.keyExport (s : Dev) : Dev :=
  let n := s.rd base.key KEY.CMD.PORT
  let cert := wideBytes (s.wideOf base.key 1) 1024
  if s.hbCoincides then s.keyEnd 2
  else if s.otp.lifecycle != 3 || !(s.hbState n = hbInService || s.hbState n = hbRestoreOnly) then s.keyEnd 1
  else if !s.certOk then s.keyEnd 4
  else
    match s.caKeyHash.bind (Config.certChain cert), s.identity with
    | some _, some me =>
      let slot := s.rd base.key KEY.CMD.SLOT
      (s.reSuper n (fun f => { f with
        envelopes := f.envelopes.filter (fun e => e.1 != slot) ++ [(slot, ⟨Config.certUid cert, f.key, me⟩)] })).keyEnd 0
    | _, _ => s.keyEnd 4

def execKeyExport (s : State) : Host.Outcome State Fault Refusal := s.act Dev.keyExport

/-- KEY_IMPORT: the owner becomes this device, the key is wrapped anew, every envelope is cleared (R386). -/
def Dev.keyImport (s : Dev) : Dev :=
  let n := s.rd base.key KEY.CMD.PORT
  if s.hbCoincides then s.keyEnd 2
  else if s.otp.lifecycle != 3 then s.keyEnd 1
  else if !s.certOk then s.keyEnd 4
  else
    match (s.hb n).cart.bind Cart.super, s.rootKey with
    | some f, some root =>
      if s.hbState n = hbForeign && f.envelopes.any (fun e => e.2.target.toNat = s.uid && Config.exporterOk e.2.signer && e.2.key = f.kcv) then
        ((s.reSuper n (fun f => { f with
          owner := BitVec.ofNat 64 s.uid, adopted := true, wrapRoot := root, wrapCart := f.cartId, key := f.kcv
          envelopes := [] })).showSuper n).keyEnd 0
      else s.keyEnd 3
    | _, _ => s.keyEnd 3

def execKeyImport (s : State) : Host.Outcome State Fault Refusal := s.act Dev.keyImport

/-! ### Wear (R387, R388) -/

/-- The forecast in days, 0xFFFF for 65,535 and more or where there is none. -/
def Dev.lifeDays (s : Dev) (n du rated un ud : Nat) : Nat :=
  let h := s.hb n
  match h.wearLog.getLast? with
  | none => 0xFFFF
  | some old =>
    let left := rated * 1000000000 * (ud - un) * h.wearLog.length
    let rate := ud * ((du - old) * 512000 * 24)
    if rate = 0 then (if left = 0 then (Config.lifeDays n).toNat else 0xFFFF) else min 0xFFFF (left / rate)

/-- WEAR_CHECK: every hour, from the log pages of the cartridge. -/
def Dev.wearCheck (s : Dev) (n pct du rated : Nat) (readOnly : Bool) : Dev :=
  if (s.hb n).cart.isNone || s.hbState n = hbAbsent || s.hbState n = hbFailed || s.hbState n = hbEjected then s
  else
    let un := if rated = 0 then pct else max (pct * rated * 1000000000) (du * 512000 * 100)
    let ud := if rated = 0 then 100 else 100 * rated * 1000000000
    let s1 := (s.put (base.hb n) HB.WEAR.USED (min 255 (100 * un / ud))).put (base.hb n) HB.WEAR.LIFE_DAYS (s.lifeDays n du rated un ud)
    let s2 := (s1.upHb n (fun h => { h with wearLog := (du :: h.wearLog).take 168 })).reSuper n (fun f => { f with rated := rated })
    let warn := decide (9 * ud ≤ 10 * un)
    let s3 := if warn && !s2.flag (base.hb n) HB.WEAR.WARN then
        let s4 := ((s2.putFlag (base.hb n) HB.WEAR.WARN true).hbEvent n 4).raise (srcHbWear n)
        s4.ibi 4 4 (s4.hbr n HB.STATUS.SEQ)
      else s2
    if (readOnly || decide (ud ≤ un)) && (s3.hbState n = hbInService || s3.hbState n = hbResync) then
      if s3.pfPhase != pfIdle && s3.pfPhase < pfClosing then s3.upHb n (fun h => { h with wornHeld := true }) else s3.goWorn n
    else s3

def execWearCheck (n : Fin 2) (pctUsed dataUnits rated : Nat) (readOnly : Bool) (s : State) :
    Host.Outcome State Fault Refusal := s.act (fun s => s.wearCheck n pctUsed dataUnits rated readOnly)

/-! ### The cleaner (R384) -/

/-- Blocks of the log in use: from the oldest block to the head. -/
def cartUsed (c : Cart) : Nat :=
  match c.log, c.log.getLast? with
  | h :: _, some t => h.lba + blockSpan h - t.lba
  | _, _ => 0

/-- A block as the cleaner writes it again: lines of abandoned tags are absent. -/
def cleaned (as : List (Nat × BitVec 32 × BitVec 32)) (rgn : Option Nat) (b : Block) : Block :=
  let keep (i : Nat) : Bool := match b.tag i with | some t => !abandoned as rgn t | none => false
  { b with tags := b.tags.filter (fun x => keep x.1), lines := b.lines.filter (fun x => keep x.1) }

/-- CLEANER_START: with less than 1/8 of the log free, or fewer than 16 range slots left in the abandon list, the oldest
segment is reclaimed. A range leaves the list once no record of it stands.
(DESIGN CHOICE, notes/assumptions/106.md) -/
def Dev.clean (s : Dev) (n : Nat) : Dev :=
  match (s.hb n).cart with
  | none => s
  | some c =>
    match c.super, c.log.getLast? with
    | some f, some t =>
      if f.logBlocks ≤ 8 * (f.logBlocks - cartUsed c) && s.pf.abandons.length ≤ 240 then s
      else
        let inSeg (b : Block) : Bool := b.lba / 16384 = t.lba / 16384
        let old := (c.log.filter inSeg).reverse
        let keep := old.filter (fun b => if b.kind = kindVersion then
            (liveBlocks s.pf.abandons (s.regionOfUnit b.unit) c.log s.views b.unit).contains b
          else b.kind != kindAbandon && recordNamed c.log b)
        let s1 := s.upHb n (fun h => { h with cart := some { c with log := c.log.filter (fun b => !inSeg b) } })
        let s2 := (s1.hbAppend n (keep.map (fun b => if b.kind = kindVersion then cleaned s.pf.abandons (s.regionOfUnit b.unit) b else b))).count
          (base.hb n) HB.CLEAN_SEG.COUNT
        let held (a : Nat × BitVec 32 × BitVec 32) : Bool := [0, 1].any (fun m => (s2.hbLog m).any (fun b =>
          b.kind = kindAbandon && rangeIn (abandonRange b) a))
        { s2 with pf := { s2.pf with abandons := s2.pf.abandons.filter held } }
    | _, _ => s

def execCleanerStart (n : Fin 2) (s : State) : Host.Outcome State Fault Refusal := s.act (fun s => s.clean n)

/-! ### Errors of a link (R360) -/

/-- PCIE_ERROR_MESSAGE: a correctable error counts, an uncorrectable one raises HBn_LINK. -/
def execPcieErrorMessage (n : Fin 2) (correctable : Bool) (s : State) : Host.Outcome State Fault Refusal :=
  s.act (fun s => if correctable then s.count (base.hb n) HB.AER_CORR.COUNT else s.raise (srcHbLink n))

end Sys2Proof.Machine
end

