-- ==== Sys2Proof/Machine/Layout.lean ====
section
/-! DEFINITION. The bytes of a cartridge as they are stored (R3, R372, R373, R375, R376, R379-R383, R385): descriptors, data
areas, superblocks and export envelopes, little-endian throughout. -/
namespace Sys2Proof.Machine

/-! ### Fields -/

/-- Bytes as the cryptographic constants take them, and back. -/
def toBits8 (bs : List Nat) : List (BitVec 8) := bs.map (BitVec.ofNat 8)
def ofBits8 (bs : List (BitVec 8)) : List Nat := bs.map BitVec.toNat

/-- A string of ASCII bytes. -/
def asciiBytes (s : String) : List Nat := s.toList.map Char.toNat

/-- An area of a size: the fields in place, each at its offset, zero elsewhere; where fields overlap the first counts. -/
def area (size : Nat) (fields : List (Nat × List Nat)) : List Nat :=
  (List.range size).map (fun i =>
    match fields.find? (fun f => f.1 ≤ i && i < f.1 + f.2.length) with
    | some f => f.2.getD (i - f.1) 0
    | none => 0)

/-! ### Keys (R372, R385) -/

/-- K of a cartridge: data key in bits [255:0], tweak key in bits [511:256]. -/
def keyBits (k : HbKey) : BitVec 512 :=
  Config.hkdf k.root k.cart (toBits8 (asciiBytes "ZRP-HB-XTS" ++ bytesOf k.gen.toNat 4))

/-- KEK of a root key and a cartridge. -/
def kekOf (root : BitVec 256) (cart : BitVec 64) : BitVec 256 :=
  (Config.hkdf root cart (toBits8 (asciiBytes "ZRP-HB-KEK"))).extractLsb' 0 256

/-- An export envelope of 288 bytes (R385). -/
def envelopeBytes (e : Envelope) : List Nat :=
  area 288 [(0, bytesOf e.target.toNat 8), (8, bytesOf (Config.envelopeBody e.target (keyBits e.key) e.signer).toNat 264)]

/-! ### Data areas (R375, R381-R383) -/

/-- The data area of a superblock copy. -/
def superData (f : Super) : List Nat :=
  let flags := f.synced.toNat + 2 * f.testKey.toNat + 4 * f.adopted.toNat + 8 * f.restoreOnly.toNat
  area 4096 ([(0x000, asciiBytes "ZHBOXSB1"), (0x008, bytesOf 1 2), (0x00A, [f.mode]), (0x00B, [f.member]),
    (0x00C, bytesOf flags 4), (0x010, bytesOf f.cartId.toNat 8), (0x018, bytesOf f.owner.toNat 8),
    (0x020, bytesOf f.partner.toNat 8), (0x028, bytesOf f.pairGen.toNat 4),
    (0x030, bytesOf (Config.keyWrap (kekOf f.wrapRoot f.wrapCart) (keyBits f.key)).toNat 72),
    (0x078, bytesOf (Config.aesCheck ((keyBits f.kcv).extractLsb' 0 256)).toNat 8), (0x080, bytesOf f.logBlocks 8),
    (0x088, bytesOf f.ckptLba 8), (0x090, bytesOf f.ckptRsn 8), (0x098, bytesOf f.rated 8), (0x0A0, bytesOf f.written 8)] ++
    f.envelopes.map (fun e => (0x100 + 288 * e.1, envelopeBytes e.2)))

/-- Byte of the dirty bitmap: unit U at block U / 2^15, byte (U / 8) mod 4,096, bit U mod 8 (R383). -/
def bitmapByte (units : List Nat) (part i : Nat) : Nat :=
  (List.range 8).foldl (fun a k => if units.contains (2 ^ 15 * part + 8 * i + k) then a + 2 ^ k else a) 0

/-- The record table: the five LBAs, then the abandon list, 12 bytes a range (R382; DESIGN CHOICE,
notes/assumptions/67.md). -/
def rootTable (payload : List Nat) : List Nat :=
  let rec ranges : List Nat → List Nat
    | r :: a :: h :: t => bytesOf r 4 ++ bytesOf a 4 ++ bytesOf h 4 ++ ranges t
    | _ => []
  ((payload.take 5).map (fun x => bytesOf x 8)).flatten ++ ranges (payload.drop 5)

/-- PART p of an INDEX_ROOT, 1 to 128: where each INDEX block stands in the log before it (R381). -/
def rootPart (older : List Block) (ring p : Nat) : List Nat :=
  ((List.range 1024).map (fun j =>
    match older.find? (fun x => x.kind = kindIndex && x.payload.head? = some (1024 * (p - 1) + j)) with
    | some x => bytesOf (x.lba % ring + 2 ^ 31) 4
    | none => bytesOf 0 4)).flatten

/-- The 4,096 data bytes of a block's part, before encryption; `older`: the log behind it. -/
def plainData (older : List Block) (ring : Nat) (b : Block) (part : Nat) : List Nat :=
  let p (i : Nat) : Nat := b.payload.getD i 0
  if b.kind = kindVersion then ((List.range 64).map (fun i => bytesOf (userOf (b.line i)).toNat 64)).flatten
  else if b.kind = kindSession then
    area 4096 [(0x00, bytesOf (p 0) 4), (0x04, bytesOf (p 1) 4), (0x08, bytesOf (p 2) 8), (0x10, bytesOf (p 3) 4)]
  else if b.kind = kindFlushStart then (List.range 4096).map (bitmapByte (b.payload.drop 1) part)
  else if b.kind = kindCommit then area 4096 [(0x00, bytesOf (p 0) 4), (0x08, bytesOf (p 1) 8), (0x10, [p 2])]
  else if b.kind = kindAbandon then area 4096 [(0x00, bytesOf (p 0) 4), (0x04, bytesOf (p 1) 4), (0x08, bytesOf (p 2) 4)]
  else if b.kind = kindFlushEnd then area 4096 [(0x00, [p 0]), (0x01, [p 1])]
  else if b.kind = kindIndex then area 4096 [(0, ((b.payload.drop 1).map (fun x => bytesOf x 4)).flatten)]
  else if part = 0 then area 4096 [(0, rootTable b.payload)]
  else rootPart older ring part

/-! ### Descriptors (R373, R376) -/

/-- TAGS: the code of line i at bits [2i+1:2i]; PART 0 of FLUSH_START holds CAUSE (R376, R383). -/
def tagsField (b : Block) (part : Nat) : Nat :=
  if b.kind = kindVersion then (List.range 64).foldl (fun a i => a + b.code i % 4 * 4 ^ i) 0
  else if b.kind = kindFlushStart && part = 0 then b.payload.getD 0 0 % 256
  else 0

/-- A data unit as stored: encrypted under the cartridge's key (R373). -/
def encrypted (key : Option HbKey) (tweak : Nat) (bytes : List Nat) : List Nat :=
  match key with
  | some k => ofBits8 (Config.xts (keyBits k) tweak (toBits8 bytes))
  | none => bytes

/-- The 128 bytes of a descriptor around its fields and the CRC over its first 0x78 bytes and the stored data. -/
def sealDescriptor (head data : List Nat) : List Nat :=
  let h := area 0x78 [(0, head)]
  h ++ bytesOf (crc32c (h ++ data)) 4 ++ bytesOf 0 4

/-- A part of a block as it stands at its LBA: descriptor and data (R376). -/
def storedPart (key : Option HbKey) (older : List Block) (ring : Nat) (b : Block) (part : Nat) : List Nat × List Nat :=
  let lba := 64 + (b.lba + part) % ring
  let version := b.kind = kindVersion
  let plain := plainData older ring b part
  let data := if version then encrypted key lba plain else plain
  let meta_ := (List.range 64).map (fun i => (metaOf (b.line i)).toNat)
  let last := decide (part + 1 = blockSpan b)
  let head := area 0x78 [(0x00, bytesOf b.kind.toNat 2), (0x02, [1]), (0x03, [last.toNat]), (0x04, bytesOf part 4),
    (0x08, bytesOf (b.rsn + part) 8), (0x10, bytesOf (if version then b.vsn else b.rsn + part) 8),
    (0x18, bytesOf (if version then b.unit else 0) 4), (0x1C, bytesOf b.epoch.toNat 4), (0x20, bytesOf (tagsField b part) 16),
    (0x38, if version then encrypted key (lba + 2 ^ 64) meta_ else [])]
  (sealDescriptor head data, data)

/-- A superblock copy as it stands: KIND 0x0030 (R375). The fields of its descriptor that R376 gives to records hold what a
record's would. -/
def storedSuper (epoch : BitVec 32) (f : Super) : List Nat × List Nat :=
  let data := superData f
  (sealDescriptor (area 0x78 [(0x00, bytesOf 0x0030 2), (0x02, [1]), (0x03, [1]), (0x08, bytesOf f.rsn 8), (0x10, bytesOf f.rsn 8),
    (0x1C, bytesOf epoch.toNat 4)]) data, data)

/-- What LBA holds on the cartridge of a port, where it was written: superblock copies at 0 and 1, the log from 64 on, the
newest block of the ring in force. -/
def Dev.cartAt (s : Dev) (n lba : Nat) : Option (List Nat × List Nat) :=
  match (s.hb n).cart with
  | none => none
  | some c =>
    if lba = 0 then c.superA.map (storedSuper s.openEpoch)
    else if lba = 1 then c.superB.map (storedSuper s.openEpoch)
    else
      match c.super with
      | none => none
      | some f =>
        let hit (b : Block) : Bool := (List.range (blockSpan b)).any (fun k => 64 + (b.lba + k) % f.logBlocks = lba)
        match c.log.find? hit with
        | none => none
        | some b =>
          let older := c.log.filter (fun x => x.rsn < b.rsn)
          let part := (List.range (blockSpan b)).find? (fun k => 64 + (b.lba + k) % f.logBlocks = lba)
          part.map (fun k => storedPart (some f.key) older f.logBlocks b k)

end Sys2Proof.Machine
end

