-- ==== Sys2Proof/Machine/Restore.lean ====
section
/-! DEFINITION. Restore start (R343-R345, R354-R356), the bulk restore (R346, R353), demand fault-in (R350, R352) and the
UNSAVED FIFO (R355, R359). -/
namespace Sys2Proof.Machine

/-! ### What the cartridges tell (R344, R345, R354) -/

/-- Ports whose cartridge restore reads. -/
def Dev.restoreReaders (s : Dev) : List Nat := (s.hbReaders 0 ++ (s.hbReaders 1).filter (fun n => !(s.hbReaders 0).contains n))

/-- A block is a record. -/
def isRecord (b : Block) : Bool := 0x10 ≤ b.kind.toNat && b.kind.toNat ≤ 0x14

/-- Records after a cartridge's last SESSION, newest first. -/
def sinceSession (log : List Block) : List Block := (log.takeWhile (fun b => b.kind != kindSession)).filter isRecord

/-- A record of a kind follows the last SESSION on every cartridge: only then it was durable (R383).
(DEDUCED, notes/assumptions/55.md) -/
def Dev.ended (s : Dev) (k : BitVec 16) : Bool :=
  s.restoreReaders.all (fun n => (sinceSession (s.hbLog n)).any (fun b => b.kind = k))

/-- How the previous session ended (R354). -/
def Dev.outcomeOf (s : Dev) : Nat :=
  if s.restoreReaders.all (fun n => !(s.hbLog n).any isRecord) then 0
  else if s.ended kindFlushEnd then 1
  else if s.ended kindFlushStart then 2
  else 3

/-- Epoch of the newest COMMIT of a log with a property, 0 where there is none. -/
def lastCommit (log : List Block) (p : Block → Bool) : BitVec 32 :=
  match log.find? (fun b => b.kind = kindCommit && p b) with
  | some b => BitVec.ofNat 32 (b.payload.getD 0 0)
  | none => 0

/-- An epoch that every cartridge gives: a COMMIT is durable only where all have it. -/
def Dev.agreed (s : Dev) (f : List Block → BitVec 32) : BitVec 32 :=
  match s.restoreReaders with
  | [] => 0
  | n :: t => t.foldl (fun a m => earlier a (f (s.hbLog m))) (f (s.hbLog n))

/-- A COMMIT is masked (R317), and names a region. -/
def Block.masked (b : Block) : Bool := b.payload.getD 2 0 = 1
def Block.names (b : Block) (r : Nat) : Bool := (b.payload.getD 1 0).testBit r

/-- The restore epoch of a region (R344). -/
def Dev.restoreEpochOf (s : Dev) (r : Nat) : BitVec 32 := s.agreed (fun log => lastCommit log (fun b => Block.names b r))

/-- Epoch of the latest full COMMIT, and of the latest masked COMMIT after it. -/
def Dev.fullEpoch (s : Dev) : BitVec 32 := s.agreed (fun log => lastCommit log (fun b => !Block.masked b))
def Dev.maskedEpoch (s : Dev) : BitVec 32 :=
  s.agreed (fun log => lastCommit (log.takeWhile (fun b => !(b.kind = kindCommit && !Block.masked b))) Block.masked)

/-- Epoch numbers that a block holds. -/
def Block.epochs (b : Block) : List (BitVec 32) :=
  if b.kind = kindVersion then (List.range 64).filterMap b.tag
  else if b.kind = kindSession || b.kind = kindCommit then [BitVec.ofNat 32 (b.payload.getD 0 0)]
  else if b.kind = kindAbandon then [BitVec.ofNat 32 (b.payload.getD 2 0)]
  else []

/-- The highest epoch number ever written, committed or not (R301). (DEDUCED, notes/assumptions/87.md) -/
def Dev.highestEpoch (s : Dev) : BitVec 32 :=
  (s.restoreReaders.map (fun n => ((s.hbLog n).map Block.epochs).flatten)).flatten.foldl later 0

/-- Abandoned ranges that the cartridges record, oldest record first, coalesced (R345, R382). -/
def Dev.abandonList (s : Dev) : List (Nat × BitVec 32 × BitVec 32) :=
  ((s.restoreReaders.map (fun n => (((s.hbLog n).filter (fun b => b.kind = kindAbandon)).map abandonRange).reverse)).flatten).foldl addRange []

/-- Valid regions of a class. -/
def Dev.regionsOf (s : Dev) (p : Nat → Bool) : List Nat := (List.range 64).filter (fun r => s.rgnValid r && p (s.classOf r))

/-- EPOCH regions whose history after the restore epoch is abandoned (R345). -/
def Dev.newAbandons (s : Dev) (h : BitVec 32) : List (Nat × BitVec 32 × BitVec 32) :=
  ((s.regionsOf (fun c => c = clsEpoch)).map (fun r => (r, s.restoreEpochOf r, h))).filter (fun a =>
    a.2.1 != h && earlier a.2.1 h = a.2.1 && !s.abandonList.any (rangeIn a))

/-! ### Unsaved units (R354-R356) -/

/-- First unit and length of a region. -/
def Dev.regionSpan (s : Dev) (r : Nat) : Nat × Nat :=
  let b := s.rd base.rgn (RGN.SPAN.BASE.at 8 r)
  (4096 * b, 4096 * (s.rd base.rgn (RGN.SPAN.LAST.at 8 r) + 1 - b))

/-- The region as a whole, marked UNKNOWN. -/
def Dev.unknownRange (s : Dev) (r : Nat) : Nat × Nat × Nat × Bool := ((s.regionSpan r).1, (s.regionSpan r).2, r, true)

/-- A version of the unit was written after the FLUSH_START of the last session. -/
def Dev.savedInFlush (s : Dev) (u : Nat) : Bool :=
  (s.hbReaders u).any (fun n => ((s.hbLog n).takeWhile (fun b => b.kind != kindFlushStart)).any (fun b => b.kind = kindVersion && b.unit = u))

/-- Units of the dirty bitmap of the last FLUSH_START that were not saved. -/
def Dev.unsavedUnits (s : Dev) : List (Nat × Nat) :=
  match s.restoreReaders with
  | [] => []
  | n :: _ =>
    match (s.hbLog n).find? (fun b => b.kind = kindFlushStart) with
    | none => []
    | some b => (b.payload.drop 1).filterMap (fun u =>
        match s.regionOfUnit u with
        | some r => if (s.classOf r = clsLatest || s.classOf r = clsMirrored) && !s.inShadow (64 * u) && !s.savedInFlush u then some (u, r) else none
        | none => none)

/-- Ranges of consecutive units, one region each. -/
def rangesOf : List (Nat × Nat) → List (Nat × Nat × Nat × Bool)
  | [] => []
  | (u, r) :: t =>
    match rangesOf t with
    | (v, n, q, k) :: rest => if v = u + 1 && q = r then (u, n + 1, r, false) :: rest else (u, 1, r, false) :: (v, n, q, k) :: rest
    | [] => [(u, 1, r, false)]

/-- The ranges that are reported for an outcome; more than 256 become one UNKNOWN range per region (R355). -/
def Dev.unsavedRanges (s : Dev) (outcome : Nat) : List (Nat × Nat × Nat × Bool) :=
  if outcome = 3 then (s.regionsOf (fun c => c = clsLatest || c = clsMirrored)).map s.unknownRange
  else if outcome = 2 then
    let us := s.unsavedUnits
    let rs := rangesOf us
    if rs.length ≤ 256 then rs
    else ((List.range 64).filter (fun r => us.any (fun x => x.2 = r))).map s.unknownRange
  else []

/-- UNSAVED0, UNSAVED1 and COUNT show the FIFO, together (R359). -/
def Dev.showUnsaved (s : Dev) : Dev :=
  let x := s.pf.unsaved.headD (0, 0, 0, false)
  (((((s.put base.pf PF.UNSAVED0.START x.1).putFlag base.pf PF.UNSAVED0.VALID (!s.pf.unsaved.isEmpty)).put base.pf
    PF.UNSAVED1.LENGTH x.2.1).put base.pf PF.UNSAVED1.REGION x.2.2.1).putFlag base.pf PF.UNSAVED1.UNKNOWN x.2.2.2).put base.pf
    PF.UNSAVED_CTL.COUNT s.pf.unsaved.length

/-- UNSAVED_POP: the oldest entry goes. -/
def execUnsavedPop (s : State) : Host.Outcome State Fault Refusal :=
  s.act (fun s => ({ s with pf := { s.pf with unsaved := s.pf.unsaved.drop 1 } } : Dev).showUnsaved)

/-- A unit's restore content is a poison write (R356). -/
def Dev.poisonUnit (s : Dev) (u : Nat) : Bool :=
  s.pf.poison && s.pf.reported.any (fun x => x.1 ≤ u && u < x.1 + x.2.1)

/-! ### Dawn's last step -/

/-- Dawn step k ends (event 1). -/
def Dev.stepDone (s : Dev) (k : Nat) : Dev :=
  if s.dawnDone k then s
  else (s.put base.dawn ⟨DAWN.STATUS.DONE.off, DAWN.STATUS.DONE.lo + (k - 1), 1⟩ 1).post base.dawn DAWN.STATUS.SEQ DAWN.STATUS.EVENT 1

/-- A time after power-good in units of 0.1 ms, saturating. -/
def Dev.tenths (s : Dev) : Nat := min 0xFFFF ((s.now - s.power.goodAt) / 100000)
/-- A time after power-good, or the wake event, in milliseconds. -/
def Dev.millis (s : Dev) : Nat := min 0xFFFF ((s.now - s.power.goodAt) / 1000000)

/-- Every pseudo-channel in INIT leaves it for SERVING (R210, R343). -/
def Dev.pcsServe (s : Dev) : Dev := s.each (List.range 128) (fun s p => if s.pcState p = pcInit then s.setPcState p pcServing else s)

/-- The Fuller has zero-filled or restored every line: INIT_DONE of the pseudo-channels that hold them (R211). -/
def Dev.initDone (s : Dev) (ps : List Nat) : Dev := s.each ps (fun s p => s.put (base.pc p) PC.SVC.INIT_DONE 1)

/-- Step 10 ends and the device is ready; a Midnight exit ends with Noon reached. The mirrors' exchange begins (R41). -/
def Dev.goReady (s : Dev) : Dev :=
  let s1 := s.pcsServe
  let s2 :=
    if s.dawnDone 10 then s1
    else (((s1.stepDone 10).setDawnPhase dawnReady).put base.dawn DAWN.TIME1.READY s.tenths)
  let s3 :=
    if s2.rungPhase = rpExiting then
      ((s2.put base.rung RUNG.STATUS.RUNG rungNoon).put base.rung RUNG.STATUS.PHASE rpSteady).rungEvent 4
    else s2
  ((s3.setDawnPhase dawnReady).evalDurability).xchgTick

/-- The Fuller's epochs after Dawn (R301, R343). -/
def Dev.openEpochs (s : Dev) (h d : BitVec 32) : Dev :=
  let s1 : Dev := { s with fuller := { s.fuller with highest := h } }
  if (s.regionsOf (fun c => c = clsEpoch)).isEmpty then s1.setEpochs epNone 0 0 0 else s1.setEpochs epOpen (nextEpoch h) 0 d

/-- RESTORE_START: the previous session is classed, ABANDON and SESSION are written, every unit is unrestored and every
pseudo-channel serves. -/
def Dev.restoreStart (s : Dev) : Dev :=
  if s.rstPhase != 1 || !s.restorable || s.pfPhase != pfIdle then s
  else
    let outcome := s.outcomeOf
    let h := s.highestEpoch
    let d := s.fullEpoch
    let new := s.newAbandons h
    let ranges := s.unsavedRanges outcome
    let rs := s.regionsOf (fun c => c = clsEpoch)
    let epochs : Tab (BitVec 32) := rs.foldl (fun t r => t.set (fun _ => 0) r (s.restoreEpochOf r)) []
    let s1 := s.openEpochs h d
    let rec1 (k : BitVec 16) (p : List Nat) : Block := ⟨k, 0, 0, 0, 0, s1.epochO, [], [], p⟩
    let blocks := new.map (fun a => rec1 kindAbandon [a.1, a.2.1.toNat, a.2.2.toNat]) ++
      [rec1 kindSession [s1.epochO.toNat, s1.epochD.toNat, s.uid, s.rd base.batt BATT.ACTIVE_SERIAL.SERIAL]]
    let s2 := s1.each s1.hbMembers (fun s n => s.hbAppend n blocks)
    let s3 : Dev := { s2 with pf := { s2.pf with
      restoring := true, restored := [], bulkPtr := 0, waitList := [], faultIns := [], writing := [], restoreEpoch := epochs
      abandons := new.foldl addRange s.abandonList, reported := ranges, unsaved := ranges
      poison := s.flag base.pf PF.CFG.UNSAVED_POISON, zeroFill := false, serveNd := false } }
    let s4 := ((((((s3.put base.pf PF.RST_STATUS.PHASE 2).put base.pf PF.RST_STATUS.OUTCOME outcome).put base.pf
      PF.RST_PROGRESS.UNITS 0).put base.pf PF.RST_EPOCH.EPOCH d.toNat).put base.pf PF.RST_PF_EPOCH.EPOCH s.maskedEpoch.toNat).put base.pf
      PF.RST_TIME.START_MS s.millis).post base.pf PF.RST_STATUS.SEQ PF.RST_STATUS.EVENT 1
    let s5 := if ranges.isEmpty then s4.showUnsaved
      else (s4.showUnsaved.post base.pf PF.RST_STATUS.SEQ PF.RST_STATUS.EVENT 3).raise srcRestoreUnsaved
    s5.goReady.each [0, 1] (fun s n => s.startResync n)

def execRestoreStart (s : State) : Host.Outcome State Fault Refusal := s.act Dev.restoreStart

/-! ### Restoring a unit (R26, R344, R353, R356) -/

/-- A qualifying version of a line (R344). -/
def Dev.restoredLine (s : Dev) (u i : Nat) : Content :=
  let cls := s.unitClass u
  if cls = clsVolatile || s.inShadow (64 * u) then 0
  else
    let r : Option (BitVec 32) :=
      if cls = clsEpoch then some (match s.regionOfUnit u with | some g => s.pf.restoreEpoch.get (fun _ => 0) g | none => 0) else none
    match s.hbReaders u with
    | n :: _ => match s.hbView n r u i with | some c => withMark c (epochBitsOf c) false | none => 0
    | [] => 0

/-- A unit whose restore content comes from a cartridge: some line has a qualifying version, or no cartridge that could
tell is in reach. Zero content is written without reading one (R346). (DEDUCED, notes/assumptions/53.md) -/
def Dev.needsRead (s : Dev) (u : Nat) : Bool :=
  s.unitClass u != clsVolatile && !s.inShadow (64 * u) &&
    match s.hbReaders u with
    | n :: _ => (s.hbLog n).any (fun b => b.kind = kindVersion && b.unit = u && (List.range 64).any (fun i =>
        match b.tag i with
        | some t => !abandoned s.pf.abandons (s.regionOfUnit u) t && (s.unitClass u != clsEpoch ||
            inView (some (match s.regionOfUnit u with | some g => s.pf.restoreEpoch.get (fun _ => 0) g | none => 0)) t)
        | none => false))
    | [] => true

/-- The unit's restore content can be had (R353). -/
def Dev.canRestore (s : Dev) (u : Nat) (readable : Bool) : Bool := !s.needsRead u || (readable && !(s.hbReaders u).isEmpty)

/-- The restore writes of a unit's lines are issued at L2 order 1, ahead of every request that waits for the unit: its
restore content, or poison with D = 1 where it is reported unsaved or cannot be read (R28, R197, R344, R346, R353).
(DEDUCED, notes/assumptions/60.md) -/
def Dev.writeRestored (s0 : Dev) (u : Nat) (readable : Bool) : Dev :=
  let s : Dev := { s0 with pf := { s0.pf with writing := s0.pf.writing ++ [u] } }
  let put (s : Dev) (c : Nat → Content) : Dev :=
    s.each (List.range 64) (fun s i => s.feedL2 (ownEntry .restoreWrite (64 * u + i) 0 (c i)))
  if s.poisonUnit u || !s.canRestore u readable then
    let s1 := put s (fun i => s.poisoned (64 * u + i))
    (((s1.dirtyUnit (64 * u) s1.epochO).count base.pf PF.RESTORE_POISON.COUNT).post base.pf PF.RST_STATUS.SEQ
      PF.RST_STATUS.EVENT 4).when (!s.poisonUnit u) (fun s => s.raise srcRestorePoison)
  else put s (s.restoredLine u)

/-- The waiting requests of a unit go to their pseudo-channels in order of arrival (R350), and fault-ins of units that
still wait start in the places that are free. -/
def Dev.releaseWaiters (s : Dev) (u : Nat) : Dev :=
  let ws := s.pf.waitList.filter (fun w => w.1 = u)
  let s1 : Dev := { s with pf := { s.pf with waitList := s.pf.waitList.filter (fun w => w.1 != u) } }
  let s2 := s1.each ws (fun s w => s.accept w.2)
  s2.each ((s2.pf.waitList.map Prod.fst).eraseDups) (fun s v => s.startFaultIn v)

/-- A unit's restore writes are done: it counts as restored and releases its requests (R350); the last one ends the restore
(event 2). (DESIGN CHOICE, notes/assumptions/56.md) -/
def Dev.unitRestored (s0 : Dev) (u : Nat) : Dev :=
  let s : Dev := { s0 with pf := { s0.pf with
    writing := s0.pf.writing.filter (fun v => v != u), faultIns := s0.pf.faultIns.filter (fun v => v != u)
    restored := if u < s0.pf.bulkPtr then s0.pf.restored else s0.pf.restored.set (fun _ => false) u true } }
  let s1 := s.put base.pf PF.RST_PROGRESS.UNITS (s.rd base.pf PF.RST_PROGRESS.UNITS + 1)
  let s2 := s1.releaseWaiters u
  if s2.rd base.pf PF.RST_PROGRESS.UNITS < 2 ^ 25 then s2
  else
    let s3 := ({ s2 with pf := { s2.pf with restoring := false, restored := [], bulkPtr := 0 } } : Dev).initDone
      ((List.range 128).filter s2.pcServes)
    ((s3.put base.pf PF.RST_STATUS.PHASE 3).put base.pf PF.RST_TIME.DONE_MS s.millis).post base.pf PF.RST_STATUS.SEQ
      PF.RST_STATUS.EVENT 2

/-- A restore write of a unit has not been issued to the Crown. -/
def Dev.restoreLeft (s : Dev) (u : Nat) : Bool :=
  (List.range 64).any (fun i =>
    let c := s.pc (s.place (64 * u + i)).pc
    (c.feed ++ c.l2).any (fun e => e.op = .restoreWrite && e.line = 64 * u + i))

/-- Units whose last restore write has been issued are restored. -/
def Dev.restoresEnd (s : Dev) : Dev := s.each (s.pf.writing.filter (fun u => !s.restoreLeft u)) (fun s u => s.unitRestored u)

/-- LINE_SLOT, and the units whose restore its write completes. -/
def execLineSlot (pc : Fin 128) (s : State) : Host.Outcome State Fault Refusal :=
  s.act (fun s => (s.lineSlot pc).restoresEnd)

/-- The next unit of the bulk restore: the pointer passes units that fault-ins have restored or are restoring.
(DEDUCED, notes/assumptions/88.md) -/
def Dev.nextBulk (s : Dev) : Nat → Nat → Nat
  | 0, u => u
  | n + 1, u => if s.pf.restored.get (fun _ => false) u || s.pf.faultIns.contains u then s.nextBulk n (u + 1) else u

/-- BULK_RESTORE_UNIT: the next unrestored unit in ascending order (R346); `readable`: a copy could be read (R353). -/
def Dev.bulkUnit (s : Dev) (readable : Bool) : Dev :=
  if !s.pf.restoring || s.pfPhase != pfIdle then s
  else
    let u := s.nextBulk (s.pf.restored.length + s.pf.faultIns.length) s.pf.bulkPtr
    let s1 : Dev := { s with pf := { s.pf with bulkPtr := min (2 ^ 25) (u + 1), restored := s.pf.restored.filter (fun x => u < x.1) } }
    if 2 ^ 25 ≤ u then s1 else s1.writeRestored u readable

def execBulkRestoreUnit (readable : Bool) (s : State) : Host.Outcome State Fault Refusal := s.act (fun s => s.bulkUnit readable)

/-- FAULTIN_DONE: the reads of a demand fault-in that runs are back; its unit is written, and restored once the writes are
done. -/
def Dev.faultinDone (s : Dev) (u : Nat) (readable : Bool) : Dev :=
  if !s.pf.faultIns.contains u || s.pf.writing.contains u || s.pfPhase != pfIdle then s
  else
    let keep (c : NvmeCmd) : Bool := match c.op with | .read v none => v != u | _ => true
    let s1 := s.each [0, 1] (fun s n => s.upHb n (fun h => { h with cmds := h.cmds.filter keep }))
    ((s1.writeRestored u readable).count base.pf PF.FAULTIN.COUNT).perf 11 noInst 4 1

def execFaultinDone (unit : BitVec 25) (readable : Bool) (s : State) : Host.Outcome State Fault Refusal :=
  s.act (fun s => s.faultinDone unit.toNat readable)

end Sys2Proof.Machine
end

