-- ==== Sys2Proof/Machine/Thermal.lean ====
section
/-! DEFINITION. Temperature sensors (R413-R419), bands (R420-R424, R221, R222), the shutdown cut (R425, R426, R340),
compensation (R430), and the coincidences of R431. Temperatures are in quarters of a degree. -/
namespace Sys2Proof.Machine

/-! ### Sensors -/

def sensFld (f : Fld) (i : Nat) : Fld := f.at 4 i
/-- Last used value of a sensor (two's complement). -/
def Dev.temp (s : Dev) (i : Nat) : Int := (BitVec.ofNat 11 (s.rd base.therm (sensFld THERM.SENS.TEMP i))).toInt
def Dev.sensState (s : Dev) (i : Nat) : Nat := s.rd base.therm (sensFld THERM.SENS.STATE i)

/-- States of a sensor: 0 valid, 1 implausible, 2 BROKEN, 3 ABSENT. -/
def sensBroken : Nat := 2
def sensAbsent : Nat := 3

/-- The sensor is neither BROKEN nor ABSENT. -/
def Dev.sensIn (s : Dev) (i : Nat) : Bool := s.sensState i != sensBroken && s.sensState i != sensAbsent
/-- The sensor has a used value that counts. -/
def Dev.sensValid (s : Dev) (i : Nat) : Bool := s.sensIn i && s.therm.hasValue.get (fun _ => false) i

def isBrim (i : Nat) : Bool := i < 12
def isCore (i : Nat) : Bool := 12 ≤ i && i < 76
def isRemote (i : Nat) : Bool := 76 ≤ i
/-- Die and quadrant of a core-die sensor; quadrant of B0-B3. -/
def sensDie (i : Nat) : Nat := (i - 12) / 4
def sensQuad (i : Nat) : Nat := if i < 12 then i % 4 else (i - 12) % 4
/-- Core-die sensors of a quadrant. -/
def quadSensors (q : Nat) : List Nat := (List.range 16).map (fun d => 12 + 4 * d + q)
def brimSensors : List Nat := List.range 12

/-- Neighbours of a sensor (R416). -/
def neighbours (i : Nat) : List Nat :=
  if i < 4 then [i ^^^ 1, i ^^^ 2, 12 + i]
  else if i < 12 then [4 + (i - 4 + 7) % 8, 4 + (i - 4 + 1) % 8]
  else if i < 76 then
    let d := sensDie i
    let q := sensQuad i
    (if d = 0 then [q] else [i - 4]) ++ (if d = 15 then [] else [i + 4]) ++ [12 + 4 * d + (q ^^^ 1), 12 + 4 * d + (q ^^^ 2)]
  else if i = 76 then [77, 79]
  else if i = 77 then [76, 79]
  else if i = 79 then [76, 77]
  else []

/-- Twice the median of the valid neighbours' values; none where there is no valid neighbour (R417).
(DEDUCED, notes/assumptions/110.md) -/
def Dev.median2 (s : Dev) (i : Nat) : Option Int :=
  let vs := ((neighbours i).filter s.sensValid).map s.temp
  let xs := sortBy (fun a b => decide (a ≤ b)) vs
  match xs[(xs.length - 1) / 2]?, xs[xs.length / 2]? with
  | some a, some b => some (a + b)
  | _, _ => none

/-- The coldest used Brim value. -/
def Dev.coldestBrim (s : Dev) : Option Int :=
  ((brimSensors.filter s.sensValid).map s.temp).foldl (fun (a : Option Int) v => match a with | none => some v | some x => some (min x v)) none

/-- Largest difference from the median, in quarters: XCHK_DELTA, 0 acting as 1 (R417). -/
def Dev.xchk (s : Dev) (i : Nat) : Int :=
  let d : Int := max 1 (s.rd base.therm THERM.CFG.XCHK_DELTA)
  if isCore i then 4 * d else if isBrim i then 4 * (d + 5) else 120

/-- A converter value is plausible (R417). -/
def Dev.plausible (s : Dev) (i : Nat) (v : Int) : Bool :=
  decide (-160 ≤ v) && decide (v ≤ 600) && (!s.sensValid i || decide (v - s.temp i ≤ 40 ∧ s.temp i - v ≤ 40)) &&
  (match s.median2 i with
    | some m => decide (2 * v - m ≤ 2 * s.xchk i ∧ m - 2 * v ≤ 2 * s.xchk i)
    | none => true) &&
  (if i = 78 then (match s.coldestBrim with | some c => decide (v ≤ c + 20) | none => true) else true)

/-- The used value of an implausible sample: the higher of the value and the median, rounded up (R419). -/
def Dev.usedAnyway (s : Dev) (i : Nat) (v : Option Int) : Option Int :=
  match v, (s.median2 i).map (fun m => (m + 1) / 2) with
  | some x, some m => some (max x m)
  | some x, none => some x
  | none, m => m

/-! ### Thresholds -/

/-- A threshold in quarters of a degree. -/
def Dev.hotC (s : Dev) : Int := 4 * s.rd base.therm THERM.CFG.HOT_C
def Dev.throttleC (s : Dev) : Int := 4 * s.rd base.therm THERM.CFG.THROTTLE_C
def Dev.thaltC (s : Dev) : Int := 4 * s.rd base.therm THERM.CFG.THALT_C
def Dev.tshutC (s : Dev) : Int := 4 * s.rd base.therm THERM.LIMITS.TSHUT_C
def Dev.brimMaxC (s : Dev) : Int := 4 * s.rd base.therm THERM.LIMITS.BRIM_MAX_C
def Dev.brimThrotC (s : Dev) : Int := 4 * s.rd base.therm THERM.LIMITS.BRIM_THROT_C
def Dev.tdWarnC (s : Dev) (n : Nat) : Int := 4 * s.item itTdWarnC n

/-- Active thresholds of a sensor (R415). -/
def Dev.thresholds (s : Dev) (i : Nat) : List Int :=
  if isCore i then [s.hotC, s.hotC - 12, s.throttleC, s.throttleC - 12, s.thaltC, s.tshutC]
  else if isBrim i then [s.brimThrotC, s.brimMaxC]
  else [s.tdWarnC (i - 76)]

/-- The used value lies within 4 °C of an active threshold. -/
def Dev.fastNow (s : Dev) (i : Nat) : Bool := (s.thresholds i).any (fun t => decide (s.temp i - t ≤ 16 ∧ t - s.temp i ≤ 16))

/-- Every used core-die value is below HOT_C (R339, R516). -/
def Dev.coolEnough (s : Dev) : Bool := ((List.range 64).map (· + 12)).all (fun i => !s.sensValid i || decide (s.temp i < s.hotC))
/-- Some used core-die value is below 0 degrees: Dawn's step 8 waits (package, R516). -/
def Dev.tooCold (s : Dev) : Bool := ((List.range 64).map (· + 12)).any (fun i => s.sensValid i && decide (s.temp i < 0))
/-- Some used core-die value is at or above THALT_C. -/
def Dev.atThalt (s : Dev) (i : Nat) : Bool := isCore i && s.sensValid i && s.sensState i = 0 && decide (s.thaltC ≤ s.temp i)

/-! ### Events and shown state -/

def Dev.thermEvent (s : Dev) (code sensor quad : Nat) : Dev :=
  ((s.put base.therm THERM.STATUS.SENSOR sensor).put base.therm THERM.STATUS.QUAD quad).post base.therm THERM.STATUS.SEQ
    THERM.STATUS.EVENT code

/-- The THERMAL class of in-band interrupts: a change of THERM_N, or a shutdown cut (R438). -/
def Dev.thermIbi (s : Dev) : Dev :=
  s.ibi 2 (s.rd base.therm THERM.STATUS.EVENT) (s.rd base.therm THERM.STATUS.SEQ)

/-- Pseudo-channels of a quadrant's tier. -/
def tierPcs (q t : Nat) : List Nat := (List.range 128).filter (fun p => p / 32 = q && tierOf p = t)

/-- THERM_N is asserted while a quadrant is in the Throttle band, while a remote diode is warm, and from a shutdown cut until the
latch is empty (R423). -/
def Dev.showThermN (s : Dev) : Dev :=
  let n := s.therm.throttled != 0 || s.therm.tdWarn != 0 || !s.therm.latch.isEmpty
  let s1 := s.putFlag base.therm THERM.STATUS.THERM_N n
  if s.flag base.therm THERM.STATUS.THERM_N == n then s1 else s1.thermIbi

/-- QBAND and THERM_N (R421, R423). -/
def Dev.showBands (s : Dev) : Dev :=
  let band (q : Nat) : Nat :=
    if (quadSensors q).any s.atThalt then 3
    else if s.therm.throttled.getLsbD q then 2
    else if [0, 1].any (fun t => (tierPcs q t).any (fun p => s.flag (base.pc p) PC.REF_STATUS.BAND)) then 1 else 0
  let qband := (List.range 4).foldl (fun a q => a + band q * 4 ^ q) 0
  let changed := s.rd base.therm THERM.STATUS.QBAND != qband
  let s1 := (s.put base.therm THERM.STATUS.QBAND qband).showThermN
  if changed then s1.wakeNoon .thermal else s1

/-! ### Thermal levels (R407) -/

def thermFld (q : Nat) : Fld := ⟨0xC, 4 * q, 4⟩
def effFld (q : Nat) : Fld := ⟨0xC, 16 + 4 * q, 4⟩

/-- Effective levels: the larger of the budget level and the thermal level; CAPPED shows that it is above 0 (event 3 of the
pseudo-channel when a cap begins to apply). -/
def Dev.showLevels (s : Dev) : Dev :=
  s.each (List.range 4) (fun s q =>
    let e := max (s.rd base.gov GOV.STATUS.LEVEL) (s.rd base.gov (thermFld q))
    (s.put base.gov (effFld q) e).each ((List.range 32).map (fun k => 32 * q + k)) (fun s p =>
      let s1 := s.putFlag (base.pc p) PC.ARB.CAPPED (e != 0)
      if e != 0 && !s.flag (base.pc p) PC.ARB.CAPPED then s1.pcEvent p 3 else s1))

def Dev.govEvent (s : Dev) (code : Nat) : Dev := s.post base.gov GOV.STATUS.SEQ GOV.STATUS.EVENT code

/-- A quadrant's thermal level changes (event 6). -/
def Dev.setThermLevel (s : Dev) (q v : Nat) : Dev :=
  if s.rd base.gov (thermFld q) = v then s else ((s.put base.gov (thermFld q) v).govEvent 6).showLevels

/-! ### Bands (R420-R422, R221, R222) -/

/-- Condition of the Throttle band: a hot core-die sensor of the quadrant, a hot Brim sensor, or R420. -/
def Dev.wantsThrottle (s : Dev) (q : Nat) : Bool :=
  (quadSensors q).any (fun i => s.sensValid i && decide (s.throttleC ≤ s.temp i)) ||
  brimSensors.any (fun i => s.sensValid i && decide (s.brimThrotC ≤ s.temp i)) || s.therm.forcedThrottle.getLsbD q

/-- Consecutive samples that a core-die sensor has been cool: below THROTTLE_C - 3 (key: sensor), below HOT_C - 3
(key: 80 + sensor). -/
def Dev.coolFor (s : Dev) (key : Nat) : Nat := s.therm.cool.get (fun _ => 0) key

/-- The Throttle band may end (R422). -/
def Dev.throttleEnds (s : Dev) (q : Nat) : Bool :=
  !s.wantsThrottle q && (quadSensors q).all (fun i => !s.sensIn i || 10 ≤ s.coolFor i) &&
  brimSensors.all (fun i => !s.sensValid i || decide (s.temp i < s.brimThrotC - 12))

def setBit4 (v : BitVec 4) (q : Nat) (b : Bool) : BitVec 4 := if b then v ||| (1 <<< q) else v &&& ~~~((1 : BitVec 4) <<< q)

/-- A quadrant enters or leaves the Throttle band. -/
def Dev.throttleCheck (s : Dev) (sensor q : Nat) : Dev :=
  let on := s.therm.throttled.getLsbD q
  if !on && s.wantsThrottle q then
    let s1 : Dev := { s with therm := { s.therm with throttled := setBit4 s.therm.throttled q true } }
    let s2 := (s1.count base.therm THERM.THROTTLE_ENTRY.COUNT).thermEvent 1 sensor q
    s2.setThermLevel q (max (s2.rd base.gov (thermFld q)) (s2.rd base.gov GOV.CFG.THROT_LEVEL))
  else if on && s.throttleEnds q then
    ({ s with therm := { s.therm with throttled := setBit4 s.therm.throttled q false } } : Dev).thermEvent 2 sensor q
  else s

/-- Fewer than 4 core-die sensors left: the quadrant is throttled for good (R420). -/
def Dev.forceCheck (s : Dev) (sensor q : Nat) : Dev :=
  if s.therm.forcedThrottle.getLsbD q || 4 ≤ ((quadSensors q).filter s.sensIn).length then s
  else
    let s1 : Dev := { s with therm := { s.therm with forcedThrottle := setBit4 s.therm.forcedThrottle q true } }
    (s1.thermEvent 7 sensor q).raise srcThermSensor

/-- Sensors of a pseudo-channel: its quadrant on the dies of its tier. -/
def tierSensors (q t : Nat) : List Nat := (List.range 8).map (fun d => 12 + 4 * (8 * t + d) + q)

/-- The refresh temperature and band of a quadrant's tier: Hot by the highest valid reading, with fewer than two valid
readings (event 5), and in the Throttle band (R221-R223). (DEDUCED, notes/assumptions/111.md) -/
def Dev.refreshBand (s : Dev) (q t : Nat) : Dev :=
  let all := tierSensors q t
  let fallback := decide ((all.filter s.sensValid).length < 2)
  let best := (all.filter s.sensValid).foldl (fun (a : Option Nat) i => match a with
    | none => some i
    | some j => some (if s.temp j < s.temp i then i else j)) none
  s.each (tierPcs q t) (fun s p =>
    let s0 := if fallback && !s.flag (base.pc p) PC.REF_TEMP.FALLBACK then s.refEvent p 5 else s
    let s1 := s0.putFlag (base.pc p) PC.REF_TEMP.FALLBACK fallback
    let s2 := match best with
      | some i => (s1.put (base.pc p) PC.REF_TEMP.TEMP ((s.temp i / 4) % 256).toNat).put (base.pc p) PC.REF_TEMP.DIE (sensDie i % 8)
      | none => s1
    let hot := fallback || s.therm.throttled.getLsbD q || (match best with | some i => decide (s.hotC ≤ s.temp i) | none => false)
    let isHot := s2.flag (base.pc p) PC.REF_STATUS.BAND
    if hot && !isHot then s2.enterHot p
    else if isHot && !hot && !s2.flag (base.pc p) PC.REF_CFG.FORCE_HOT && all.all (fun i => !s.sensIn i || 10 ≤ s.coolFor (80 + i)) then
      s2.leaveHot p
    else s2)

/-! ### Compensation (R430) -/

/-- A trim moves at most one step towards its target. -/
def Dev.trimStep (s : Dev) (circuit : Nat) (t : BitVec 11) : Dev :=
  let cur := s.therm.trims.get (fun _ => 0) circuit
  let goal := Config.trimTarget circuit t
  let v := if cur < goal then cur + 1 else if goal < cur then cur - 1 else cur
  { s with therm := { s.therm with trims := s.therm.trims.set (fun _ => 0) circuit v } }

/-- Circuits that a sensor trims: 0 the always-on oscillator, i the self-refresh timer and 100 + i the TSV receiver
references of core-die sensor i. -/
def Dev.trims (s : Dev) (i : Nat) : List Nat :=
  if i = 0 || (i = 1 && s.sensState 0 = sensBroken) then [0] else if isCore i then [i, 100 + i] else []

/-! ### A sample (R415-R424) -/

/-- Event of a remote diode at or above TD_WARN_C, at its first such sample. -/
def Dev.tdCheck (s : Dev) (i : Nat) : Dev :=
  if !isRemote i then s
  else
    let n := i - 76
    let warm := s.sensValid i && decide (s.tdWarnC n ≤ s.temp i)
    let was := s.therm.tdWarn.getLsbD n
    let s1 : Dev := { s with therm := { s.therm with tdWarn := setBit4 s.therm.tdWarn n warm } }
    if warm && !was then ((s1.count base.therm THERM.TD_WARN.COUNT).thermEvent 6 i 0).raise (srcThermTd n) else s1

/-- Thalt is reached at the first plausible used core-die value at or above THALT_C (event 3).
(DEDUCED, notes/assumptions/114.md) -/
def Dev.thaltCheck (s : Dev) (i : Nat) : Dev :=
  let on := ((List.range 64).map (· + 12)).any s.atThalt
  let s1 : Dev := { s with therm := { s.therm with thalt := on } }
  if on && !s.therm.thalt then (s1.thermEvent 3 i (sensQuad i)).raise srcThalt else s1

/-- Counts of consecutive cool samples of a core-die sensor. (DEDUCED, notes/assumptions/113.md) -/
def Dev.coolCount (s : Dev) (i : Nat) : Dev :=
  if !isCore i then s
  else
    let f (c : Tab Nat) (k : Nat) (cool : Bool) : Tab Nat := c.set (fun _ => 0) k (if cool then c.get (fun _ => 0) k + 1 else 0)
    let c := f (f s.therm.cool i (decide (s.temp i < s.throttleC - 12))) (80 + i) (decide (s.temp i < s.hotC - 12))
    { s with therm := { s.therm with cool := c } }

/-- Every band is evaluated with the used values as they now are: of the sensor's quadrant, for a Brim sensor of all. -/
def Dev.evalBands (s : Dev) (i : Nat) : Dev :=
  let qs := if isCore i then [sensQuad i] else if isBrim i then [0, 1, 2, 3] else []
  let s1 := if isCore i then s.forceCheck i (sensQuad i) else s
  let s2 := s1.each qs (fun s q => ((s.throttleCheck i q).refreshBand q 0).refreshBand q 1)
  ((s2.thaltCheck i).tdCheck i).showBands

/-- A sensor takes a used value. -/
def Dev.takeValue (s : Dev) (i : Nat) (v : Int) : Dev :=
  let t := BitVec.ofInt 11 v
  let s1 := s.put base.therm (sensFld THERM.SENS.TEMP i) t.toNat
  let s2 : Dev := { s1 with therm := { s1.therm with hasValue := s1.therm.hasValue.set (fun _ => false) i true } }
  let s3 := s2.putFlag base.therm (sensFld THERM.SENS.FAST i) (s2.fastNow i)
  ((s3.each (s3.trims i) (fun s c => s.trimStep c t)).coolCount i)

/-- An implausible sample: a strike, BROKEN at the third in a row, else a used value for the bands that cost bandwidth. -/
def Dev.implausible (s : Dev) (i : Nat) (v : Option Int) : Dev :=
  let s1 := s.count base.therm THERM.IMPLAUSIBLE.COUNT
  let n := s.rd base.therm (sensFld THERM.SENS.STRIKES i) + 1
  if 3 ≤ n then
    let s2 := ((s1.put base.therm (sensFld THERM.SENS.STATE i) sensBroken).count base.therm THERM.BROKEN.COUNT).thermEvent 4 i (sensQuad i)
    (s2.raise srcThermSensor).evalBands i
  else
    let s2 := (s1.put base.therm (sensFld THERM.SENS.STRIKES i) n).put base.therm (sensFld THERM.SENS.STATE i) 1
    match s.usedAnyway i v with
    | some u => (s2.takeValue i u).evalBands i
    | none => s2.evalBands i

/-- The sensors run: not in Midnight, nor in the safe state of a power-fail flush (R337, R339, R394). -/
def Dev.sensorsRun (s : Dev) : Bool := (s.rung != rungMidnight || s.rungPhase = rpExiting) && (s.pfPhase != pfSafe || s.pf.thaltSafe)

/-- One sample of a sensor. (DESIGN CHOICE, notes/assumptions/112.md) -/
def Dev.sensorSample (s : Dev) (i : Nat) (x : Sample) : Dev :=
  if !s.sensorsRun || s.sensState i = sensBroken then s
  else
    match x with
    | .shortedToReturn =>
      if isRemote i then (s.put base.therm (sensFld THERM.SENS.STATE i) sensAbsent).evalBands i else s.implausible i none
    | .openOrShort => s.implausible i none
    | .value t =>
      if s.plausible i t.toInt then
        let s1 := (s.put base.therm (sensFld THERM.SENS.STRIKES i) 0).put base.therm (sensFld THERM.SENS.STATE i) 0
        (s1.takeValue i t.toInt).evalBands i
      else s.implausible i (some t.toInt)

/-- SENSOR_RESTORE: a BROKEN sensor is used again; the count of implausible samples restarts (R418, R431). -/
def Dev.sensorRestore (s : Dev) (i : Nat) : Dev :=
  let s1 := (s.put base.therm (sensFld THERM.SENS.STRIKES i) 0).put base.therm (sensFld THERM.SENS.RESTORE i) 0
  if s.sensState i = sensBroken then (s1.put base.therm (sensFld THERM.SENS.STATE i) 0).thermEvent 5 i (sensQuad i) else s1

def execSensorRestore (sensor : Fin 80) (s : State) : Host.Outcome State Fault Refusal := s.act (fun s => s.sensorRestore sensor)

/-! ### The shutdown cut (R340, R425, R426) -/

/-- LATCH shows its oldest record. -/
def Dev.showLatch (s : Dev) : Dev :=
  let x := s.therm.latch.headD ⟨0, 0, 0, 0⟩
  (((s.put base.therm THERM.LATCH.COUNT s.therm.latch.length).put base.therm THERM.LATCH.CAUSE x.cause.toNat).put base.therm
    THERM.LATCH.SENSOR x.sensor).put base.therm THERM.LATCH.VALUE x.value.toNat

/-- The latch takes a record, or counts an overflow. -/
def Dev.latchRecord (s : Dev) (i : Nat) (v : BitVec 11) : Dev :=
  if s.therm.latch.length < 4 then
    let r : LatchRec := ⟨if isBrim i then 2 else 1, i, v, BitVec.ofNat 32 (s.now / 1000000000)⟩
    ({ s with therm := { s.therm with latch := s.therm.latch ++ [r] } } : Dev).showLatch
  else s.put base.therm THERM.LATCH.OVERFLOW (min 15 (s.rd base.therm THERM.LATCH.OVERFLOW + 1))

/-- TSHUT_CUT: a plausible value at or above TSHUT_C or BRIM_MAX_C opens the Crown and SerDes switches at once: nothing is
flushed, Hatbox commands are abandoned, the ports are lost. -/
def Dev.tshutCut (s : Dev) (i : Nat) (v : BitVec 11) : Dev :=
  let trips := if isBrim i then decide (s.brimMaxC ≤ v.toInt) else isCore i && decide (s.tshutC ≤ v.toInt)
  if !trips || s.sensState i = sensBroken || !s.plausible i v.toInt || !s.sensorsRun then s
  else
    let s1 := (s.latchRecord i v)
    if s1.therm.cut then s1.showBands
    else
      let s2 := s1.supplyCut
      ({ s2 with therm := { s2.therm with cut := true } } : Dev).thermIbi.showBands

end Sys2Proof.Machine
end

