-- ==== Sys2Proof/Machine/Mgmt.lean ====
section
/-! DEFINITION. The management complex: the core and its watchdog (R432-R434), firmware slots
and updates (R442-R447), the I3C target's common command codes and interrupts (R435, R439), and lifecycle transitions
(R450-R452). -/
namespace Sys2Proof.Machine

/-! ### The management core (R432-R434) -/

def coreBoot : Nat := 0
def coreRuns : Nat := 1
def coreHalted : Nat := 2

def Dev.coreState (s : Dev) : Nat := s.rd base.core CORE.STATUS.STATE
def Dev.coreEvent (s : Dev) (code : Nat) : Dev := s.post base.core CORE.STATUS.SEQ CORE.STATUS.EVENT code

/-- The FIRMWARE class of in-band interrupts (R438). -/
def Dev.coreIbi (s : Dev) (code : Nat) : Dev := s.ibi 5 code (s.rd base.core CORE.STATUS.SEQ)

/-- Claims of mailboxes that the core holds are freed (R433). -/
def Dev.freeCoreClaims (s : Dev) : Dev :=
  let free (m : Mbx) : Mbx := if m.owner = some .core then { m with owner := none } else m
  { s with mbx := s.mbx.foldl (fun (t : Tab Mbx) x => t.set (fun _ => Mbx.reset) x.1 (free x.2)) [] }

/-- A core restart: the boot ROM starts, the core's claims are freed, the watchdog stops. -/
def Dev.coreReset (s : Dev) : Dev :=
  let s1 := s.freeCoreClaims
  let s2 := if s1.rd base.batt BATT.STAGE_OWNER.OWNER = 3 && !s1.battRuns then s1.battFree else s1
  let s3 : Dev := { s2 with mgmt := { s2.mgmt with wdtRuns := false, coreAnswer := (0, 0) } }
  (((s3.put base.core CORE.STATUS.STATE coreBoot).put base.core CORE.STATUS.TRIAL 0).put base.core CORE.FW_VERSION.VERSION 0)

/-- Watchdog restarts in the last 60 s (R434). -/
def Dev.restartsLately (s : Dev) : Nat := (s.mgmt.wdtTimes.filter (fun t => s.now < t + 60000000000)).length

/-- A watchdog restart; the third within 60 s halts the core (R434). A Batt command under way is given up (R71). -/
def Dev.watchdogRestart (s : Dev) : Dev :=
  let ts := s.now :: s.mgmt.wdtTimes.filter (fun t => s.now < t + 60000000000)
  let s1 := ({ s with mgmt := { s.mgmt with wdtTimes := ts } } : Dev).battAbort
  let s2 := ((s1.coreReset.put base.core CORE.STATUS.RESTARTS (min 3 ts.length)).coreEvent 2).raise srcWdt
  let s3 := s2.coreIbi 2
  if ts.length < 3 then s3
  else ((((s3.put base.core CORE.STATUS.STATE coreHalted).coreEvent 4).raise srcWdtHalt)).coreIbi 4

/-- WDT_KICK: 0xC3 restarts the count. -/
def Dev.wdtKick (s : Dev) (v : BitVec 8) : Dev :=
  if v = 0xC3 then { s with mgmt := { s.mgmt with kickedAt := s.now } } else s

def execWdtKick (v : BitVec 8) (s : State) : Host.Outcome State Fault Refusal := s.act (fun s => s.wdtKick v)

/-- CORE_RESTART: RESTART, which also leaves HALTED. -/
def Dev.coreRestart (s : Dev) : Dev := (((s.put base.core CORE.WDT.RESTART 0).coreReset).coreEvent 3).coreIbi 3

def execCoreRestart (s : State) : Host.Outcome State Fault Refusal := s.act Dev.coreRestart

/-- The boot ROM has reported FW_NONE (event 7) and stays. -/
def Dev.noFirmware (s : Dev) : Bool := s.coreState = coreBoot && s.rd base.core CORE.STATUS.EVENT = 7

/-! ### Firmware images (R442-R445) -/

/-- Start of a firmware slot (R441). -/
def fwBase (slot : Nat) : Nat := 0x40000 + 0x100000 * slot

/-- The image in a slot: TOTAL_LEN bytes, or the header alone where that is no length of an image. -/
def Dev.fwBytes (s : Dev) (slot : Nat) : List Nat :=
  let n := ofBytes (s.norBytes (fwBase slot + 8) 4)
  s.norBytes (fwBase slot) (if n < 256 || 393472 < n then 64 else n)

def fwOk : Nat := 0
def fwLenErr : Nat := 1
def fwFormatErr : Nat := 2
def fwKeyErr : Nat := 3
def fwSigErr : Nat := 4
def fwBindErr : Nat := 5
def fwRollback : Nat := 6
def fwSpiErr : Nat := 7
def fwDenied : Nat := 8

/-- The checks of R443, in order; a bad length has the result that FWUP.STATUS names for it.
(DEDUCED, notes/assumptions/195.md) -/
def Dev.fwCheck (s : Dev) (slot : Nat) : Nat :=
  let bs := s.fwBytes slot
  let n := fieldAt bs 8 4
  if !s.mgmt.norUsable then fwSpiErr
  else if n < 256 || 393472 < n || n % 8 != 0 then fwLenErr
  else if fieldAt bs 0 4 != 0x4957465A || fieldAt bs 4 2 != 1 then fwFormatErr
  else
    let pub := toBytes ((bs.drop (n - 192)).take 96)
    if s.fwKeyHash != some (Config.sha384 pub) then fwKeyErr
    else if !Config.ecdsaVerify pub (Config.sha384 (toBytes (bs.take (n - 96)))) (toBytes (bs.drop (n - 96))) then fwSigErr
    else if (fieldAt bs 0x18 8 != 0 && fieldAt bs 0x18 8 != s.uid) ||
        !(fieldAt bs 0x20 2).testBit (s.rd base.chipId CHIPID.REV.STEPPING) then fwBindErr
    else if fieldAt bs 0x10 1 < s.otp.rollback then fwRollback
    else fwOk

/-! ### FWSTATE (R444) -/

/-- Start of FWSTATE; a record's place is one of 2,048, of 32 bytes, 1,024 in each half. -/
def fwStateBase : Nat := 0x30000

/-- Places of FWSTATE that are not blank. -/
def Dev.fwPlaces (s : Dev) : List Nat :=
  (s.mgmt.nor.filter (fun e => fwStateBase ≤ e.1 && e.1 < fwStateBase + 0x10000)).map (fun e => (e.1 - fwStateBase) / 32)

/-- The record at a place. -/
def Dev.fwRecordAt (s : Dev) (k : Nat) : List Nat := s.norBytes (fwStateBase + 32 * k) 32

/-- Neither torn nor damaged (R448), and a record. -/
def fwRecordOk (r : List Nat) : Bool :=
  r.getD 0x1F 0xFF != 0xFF && fieldAt r 0 2 = 0x5346 && fieldAt r 4 4 != 0 && fieldAt r 0x18 4 = crc32c (r.take 0x18)

/-- The record in force: the highest SEQ. -/
def Dev.fwInForce (s : Dev) : Option (Nat × List Nat) :=
  (s.fwPlaces.eraseDups.map (fun k => (k, s.fwRecordAt k))).foldl (fun (best : Option (Nat × List Nat)) r =>
    if !fwRecordOk r.2 then best
    else match best with
      | some b => if fieldAt b.2 4 4 < fieldAt r.2 4 4 then some r else best
      | none => some r) none

/-- The boot ROM reads FWSTATE. -/
def Dev.fwLoad (s : Dev) : Dev :=
  match s.fwInForce with
  | none => { s with mgmt := { s.mgmt with fwActive := 0, fwTry := 0xFF, fwTries := 0 } }
  | some r => { s with mgmt := { s.mgmt with
      fwActive := BitVec.ofNat 8 (r.2.getD 8 0), fwTry := BitVec.ofNat 8 (r.2.getD 9 0xFF), fwTries := BitVec.ofNat 8 (r.2.getD 10 0) } }

/-- Bytes 0x00 to 0x17 of a record. -/
def fwRecordHead (seq active trial tries verA verB : Nat) : List Nat :=
  bytesOf 0x5346 2 ++ [0, 0] ++ bytesOf seq 4 ++ [active, trial, tries, 0] ++ bytesOf verA 4 ++ bytesOf verB 4 ++ [0, 0, 0, 0]

/-- Where the next record goes, and whether that is into the other half: behind the last place used in the half in force. -/
def Dev.fwNextPlace (s : Dev) : Nat × Bool :=
  let half := match s.fwInForce with | some r => r.1 / 1024 | none => 0
  let next := (s.fwPlaces.filter (fun k => k / 1024 = half)).foldl (fun n k => max n (k + 1)) (1024 * half)
  if next = 1024 * half + 1024 then (1024 * (1 - half), true) else (next, false)

/-- A FWSTATE record with what the core holds: programmed but for COMMIT, then committed; once it is in the other half, the
full half is erased. -/
def Dev.fwStore (s : Dev) : Dev :=
  if !s.mgmt.norUsable then s else
  let seq := match s.fwInForce with | some r => (nextRecSeq (BitVec.ofNat 32 (fieldAt r.2 4 4))).toNat | none => 1
  let ver (k : Nat) : Nat := ofBytes (s.norBytes (fwBase k + 0xC) 4)
  let head := fwRecordHead seq s.mgmt.fwActive.toNat s.mgmt.fwTry.toNat s.mgmt.fwTries.toNat (ver 0) (ver 1)
  let p := s.fwNextPlace
  let a := fwStateBase + 32 * p.1
  let s1 := (s.norWrite a (head ++ bytesOf (crc32c head) 4)).norWrite (a + 0x1F) [0x00]
  if p.2 then s1.norErase (fwStateBase + 32 * (1024 - p.1)) 0x8000 else s1

/-- FWSTATE takes new values: the fields, and a record. -/
def Dev.fwSet (s : Dev) (active trial tries : BitVec 8) : Dev :=
  ({ s with mgmt := { s.mgmt with fwActive := active, fwTry := trial, fwTries := tries } } : Dev).fwStore

/-- Firmware of a slot comes into service. -/
def Dev.fwStart (s : Dev) (slot : Nat) (trial : Bool) : Dev :=
  let s1 := ((((s.put base.core CORE.STATUS.STATE coreRuns).put base.core CORE.STATUS.SLOT slot).putFlag base.core
    CORE.STATUS.TRIAL trial).put base.core CORE.FW_VERSION.VERSION (fieldAt (s.fwBytes slot) 0xC 4)).coreEvent 1
  { s1 with mgmt := { s1.mgmt with wdtRuns := true, kickedAt := s.now, trapPending := [] } }

/-- FIRMWARE_HANDOVER: TRY is booted once, else ACTIVE; a slot that fails is skipped for the other (R445). With a NOR that
fails R440 no firmware is read. -/
def Dev.handover (s : Dev) : Dev :=
  if s.coreState != coreBoot || s.noFirmware || !s.dawnDone 1 then s
  else
    let s0 := s.fwLoad
    let trying := s0.mgmt.fwTry != 0xFF && s0.mgmt.fwTries = 0
    let reverts := s0.mgmt.fwTry != 0xFF && !trying
    let s1 := if trying then s0.fwSet s0.mgmt.fwActive s0.mgmt.fwTry 1
      else if reverts then (s0.fwSet s0.mgmt.fwActive 0xFF s0.mgmt.fwTries).coreEvent 5 else s0
    let first := (if trying then s0.mgmt.fwTry else s0.mgmt.fwActive).toNat % 2
    if s1.fwCheck first = fwOk then s1.fwStart first trying
    else if s1.fwCheck (1 - first) = fwOk then s1.fwStart (1 - first) false
    else (s1.coreEvent 7).raise srcFwNone

def execFirmwareHandover (s : State) : Host.Outcome State Fault Refusal := s.act Dev.handover

/-! ### Updates (R446, R447) -/

/-- The slot that is not ACTIVE. -/
def Dev.fwInactive (s : Dev) : Nat := 1 - s.mgmt.fwActive.toNat % 2

/-- An operation ends. -/
def Dev.fwEnd (s : Dev) (result : Nat) : Dev :=
  ((({ s with mgmt := { s.mgmt with fwOp := none } } : Dev).put base.fwup FWUP.STATUS.RUNNING 0).put base.fwup
    FWUP.STATUS.RESULT result).bump base.fwup FWUP.STATUS.SEQ

/-- One word of the program buffer goes to the NOR: programming only clears bits. -/
def Dev.fwProgram (s : Dev) : Dev :=
  match s.mgmt.progBuf with
  | [] => s
  | (a, w) :: t =>
    let old := s.norBytes a 4
    let new := (bytesOf w.toNat 4).zipWith (fun x y => x &&& y) old
    ({ s with mgmt := { s.mgmt with progBuf := t } } : Dev).norWrite a new

/-- Bytes of the NOR between FWSTATE operations: BEGIN erases the inactive slot as it starts (R446). -/
def Dev.fwErase (s : Dev) : Dev :=
  let s1 : Dev := { s with mgmt := { s.mgmt with progBuf := [] } }
  (s1.norErase (fwBase s.fwInactive) 0x100000).put base.fwup FWUP.ADDR.ADDR 0

/-- The rollback counter advances towards a security version (R447). -/
def Dev.advanceRollback (s : Dev) (svn : Nat) : Dev :=
  let n := min svn 64
  if s.otp.lifecycle != 2 && s.otp.lifecycle != 3 then s
  else
    let s1 := if n ≤ s.otp.rollback then s
      else
        let s2 := s.otpBurn 1 (BitVec.ofNat 72 (2 ^ n - 1))
        let c := popcount 64 ((s2.otpArray 1).toNat % 2 ^ 64)
        ({ s2 with otp := { s2.otp with rollback := c } } : Dev).put base.fwup FWUP.STATUS.COUNTER c
    if 64 < svn then s1.raise srcRollbackFull else s1

/-- The core runs a trial, and it is the core that asks (R447). -/
def Dev.fwTrialBy (s : Dev) (m : Master) : Bool :=
  m = .core && s.coreState = coreRuns && s.flag base.core CORE.STATUS.TRIAL

def fwOpBegin : Nat := 0
def fwOpVerify : Nat := 1
def fwOpActivate : Nat := 2
def fwOpConfirm : Nat := 3
def fwOpAbort : Nat := 4

/-- An operation starts and runs until the SPI controller ends it; what R446 and R447 turn away ends at once.
(DESIGN CHOICE, notes/assumptions/117.md) -/
def Dev.fwGo (s : Dev) (op : Nat) (m : Master) : Dev :=
  if fwOpAbort < op then s.fwEnd fwFormatErr
  else if op = fwOpConfirm && !s.fwTrialBy m then s.fwEnd fwDenied
  else if op = fwOpBegin && !s.mgmt.norUsable then s.fwEnd fwSpiErr
  else
    let slot := if op = fwOpConfirm then s.rd base.core CORE.STATUS.SLOT else s.fwInactive
    let s1 := if op = fwOpBegin then s.fwErase else s
    ({ s1 with mgmt := { s1.mgmt with fwOp := some (op, slot) } } : Dev).put base.fwup FWUP.STATUS.RUNNING 1

/-- GO with an operation: taken at once, or held while one runs (R446). -/
def Dev.fwTake (s : Dev) (op : Nat) (m : Master) : Dev :=
  if s.mgmt.fwOp.isSome then ({ s with mgmt := { s.mgmt with fwHeld := some (op, m) } } : Dev).put base.fwup FWUP.CMD.GO 1
  else (s.put base.fwup FWUP.CMD.GO 0).fwGo op m

/-- VERIFY: R443 on the slot. -/
def Dev.fwVerify (s : Dev) (slot : Nat) : Dev := s.fwEnd (s.fwCheck slot)

/-- ACTIVATE: verified, the slot goes on trial. -/
def Dev.fwActivate (s : Dev) (slot : Nat) : Dev :=
  let r := s.fwCheck slot
  if r != fwOk then s.fwEnd r else (s.fwSet s.mgmt.fwActive (BitVec.ofNat 8 slot) 0).fwEnd fwOk

/-- CONFIRM: the slot on trial is ACTIVE, and the rollback counter follows. -/
def Dev.fwConfirm (s : Dev) (slot : Nat) : Dev :=
  let s1 := s.fwSet (BitVec.ofNat 8 slot) 0xFF s.mgmt.fwTries
  let s2 := (s1.put base.core CORE.STATUS.TRIAL 0).coreEvent 6
  (s2.advanceRollback (fieldAt (s.fwBytes slot) 0x10 1)).fwEnd fwOk

/-- ABORT: a trial is no longer set. -/
def Dev.fwAbort (s : Dev) : Dev :=
  (if s.mgmt.fwTry = 0xFF then s else s.fwSet s.mgmt.fwActive 0xFF s.mgmt.fwTries).fwEnd fwOk

/-- The operation that runs comes to its end. -/
def Dev.fwFinish (s : Dev) (op slot : Nat) : Dev :=
  if op = fwOpBegin then s.fwEnd fwOk
  else if op = fwOpVerify then s.fwVerify slot
  else if op = fwOpActivate then s.fwActivate slot
  else if op = fwOpConfirm then s.fwConfirm slot
  else s.fwAbort

/-- The update path of the SPI controller: the program buffer first, then the operation's end, then a held GO. -/
def Dev.fwTick (s : Dev) : Dev :=
  match s.mgmt.fwOp with
  | none => s
  | some o =>
    let s1 := s.fwFinish o.1 o.2
    match s1.mgmt.fwHeld with
    | some h => ({ s1 with mgmt := { s1.mgmt with fwHeld := none } } : Dev).fwTake h.1 h.2
    | none => s1

/-- What the SPI controller does next, in the order of priority: the update path, then the event journal. -/
def Dev.spiTick (s : Dev) : Dev :=
  if !s.mgmt.progBuf.isEmpty then s.fwProgram
  else if s.mgmt.fwOp.isSome then s.fwTick
  else s.journalStep

def execFwupBegin (m : Master) (s : State) : Host.Outcome State Fault Refusal :=
  s.act (fun s => s.owned m base.fwup (fun s => s.fwTake fwOpBegin m))
def execFwupVerify (m : Master) (s : State) : Host.Outcome State Fault Refusal :=
  s.act (fun s => s.owned m base.fwup (fun s => s.fwTake fwOpVerify m))
def execFwupActivate (m : Master) (s : State) : Host.Outcome State Fault Refusal :=
  s.act (fun s => s.owned m base.fwup (fun s => s.fwTake fwOpActivate m))
def execFwupConfirm (m : Master) (s : State) : Host.Outcome State Fault Refusal :=
  s.act (fun s => s.owned m base.fwup (fun s => s.fwTake fwOpConfirm m))
def execFwupAbort (m : Master) (s : State) : Host.Outcome State Fault Refusal :=
  s.act (fun s => s.owned m base.fwup (fun s => s.fwTake fwOpAbort m))

/-- GO in FWUP.CMD takes OP. -/
def Dev.fwCmd (s : Dev) (m : Master) : Dev := s.fwTake (s.rd base.fwup FWUP.CMD.OP) m

/-- A write to DATA finds the 4 KiB program buffer full. -/
def Dev.fwFull (s : Dev) : Bool := 1024 ≤ s.mgmt.progBuf.length

/-- FWUP_DATA_WRITE: the word waits in the program buffer and ADDR advances; a full buffer turns it away (BUSY). -/
def Dev.fwData (s : Dev) (v : BitVec 32) : Dev :=
  if s.fwFull then s
  else
    let a := s.rd base.fwup FWUP.ADDR.ADDR / 4 * 4
    let s1 : Dev := { s with mgmt := { s.mgmt with progBuf := s.mgmt.progBuf ++ [(fwBase s.fwInactive + a, v)] } }
    (s1.put base.fwup FWUP.DATA.DATA v.toNat).put base.fwup FWUP.ADDR.ADDR (a + 4)

def execFwupDataWrite (m : Master) (v : BitVec 32) (s : State) : Host.Outcome State Fault Refusal :=
  s.act (fun s => s.owned m base.fwup (fun s => s.fwData v))

/-! ### I3C: common command codes and interrupts (R435, R438, R439) -/

def Dev.i3cEvent (s : Dev) (code : Nat) : Dev := s.post base.i3c I3C.STATUS.SEQ I3C.STATUS.EVENT code

/-- The 48-bit PID (R435): manufacturer, part, strap value. -/
def Dev.i3cPid (s : Dev) : BitVec 48 :=
  (BitVec.ofNat 15 0x3A6) ++ (0 : BitVec 1) ++ (0x0016 : BitVec 16) ++ (BitVec.zeroExtend 4 s.mgmt.straps) ++ (0 : BitVec 12)

/-- PID as it goes over the bus, most significant byte first. -/
def Dev.pidBytes (s : Dev) : List (BitVec 8) := ((bytesOf s.i3cPid.toNat 6).map (BitVec.ofNat 8)).reverse

def Dev.cccReply (s : Dev) (bs : List (BitVec 8)) : Dev := { s with mgmt := { s.mgmt with cccAnswer := bs } }

/-- The target takes a dynamic address (event 1) where it has none. -/
def Dev.takeAddress (s : Dev) (da : BitVec 7) : Dev :=
  if s.rd base.i3c I3C.STATUS.DA != 0 then s else (s.put base.i3c I3C.STATUS.DA da.toNat).i3cEvent 1

/-- ENTDAA: PID, BCR and DCR are sent, and the address is taken. -/
def execEntdaa (da : BitVec 7) (s : State) : Host.Outcome State Fault Refusal :=
  s.act (fun s => if s.rd base.i3c I3C.STATUS.DA != 0 then s else (s.takeAddress da).cccReply (s.pidBytes ++ [0x06, 0x00]))

def execSetdasa (da : BitVec 7) (s : State) : Host.Outcome State Fault Refusal := s.act (fun s => s.takeAddress da)

def execRstdaa (s : State) : Host.Outcome State Fault Refusal := s.act (fun s => (s.put base.i3c I3C.STATUS.DA 0).i3cEvent 2)

/-- ENEC: interrupts are enabled, pending ones raised again. -/
def execEnec (ev : BitVec 8) (s : State) : Host.Outcome State Fault Refusal :=
  s.act (fun s => if ev.getLsbD 0 then (s.putFlag base.i3c I3C.STATUS.IBI_EN true).ibiRaise else s)

def execDisec (ev : BitVec 8) (s : State) : Host.Outcome State Fault Refusal :=
  s.act (fun s => if ev.getLsbD 0 then s.putFlag base.i3c I3C.STATUS.IBI_EN false else s)

def execGetpid (s : State) : Host.Outcome State Fault Refusal := s.act (fun s => s.cccReply s.pidBytes)
def execGetbcr (s : State) : Host.Outcome State Fault Refusal := s.act (fun s => s.cccReply [0x06])
def execGetdcr (s : State) : Host.Outcome State Fault Refusal := s.act (fun s => s.cccReply [0x00])

/-- GETSTATUS and GETMXDS: the spec states no bytes of these answers, so they are free values.
(DESIGN CHOICE, notes/assumptions/118.md) -/
def Dev.cccFree (s : Dev) : Dev :=
  let f := s.freeValue
  f.2.cccReply [f.1.extractLsb' 0 8, f.1.extractLsb' 8 8]

def execGetstatus (s : State) : Host.Outcome State Fault Refusal := s.act Dev.cccFree
def execGetmxds (s : State) : Host.Outcome State Fault Refusal := s.act Dev.cccFree

/-- RSTACT: peripheral reset only, which gives up the transfer under way. (DEDUCED, notes/assumptions/119.md) -/
def execRstact (act : BitVec 8) (s : State) : Host.Outcome State Fault Refusal :=
  s.act (fun s => if act = 0x01 then { s with mgmt := { s.mgmt with readBuf := [], lastStatus := 0 } } else s)

def execIbiRetry (s : State) : Host.Outcome State Fault Refusal := s.act Dev.ibiRaise

/-! ### JTAG (R490) -/

/-- A JTAG instruction is in the register; the pins are under boundary scan only for the instructions that take them. -/
def Dev.jtagLoad (s : Dev) (ir boundary : BitVec 8) : Dev :=
  { s with mgmt := { s.mgmt with jtagIr := ir, boundary := boundary } }

/-! ### Lifecycle (R450-R452) -/

/-- Masters that may ask for the step from a state. -/
def lcMaster (m : Master) : Nat → Bool
  | 0 => m = .jtag
  | 1 => m = .jtag || m = .core
  | 2 => true
  | 3 => true
  | 4 => m = .jtag || m = .core
  | _ => false

/-- The condition of a step (COND). (DEDUCED, notes/assumptions/164.md) -/
def Dev.lcCond (s : Dev) : Nat → Bool
  | 1 => s.battKeyHash.isSome && s.fwKeyHash.isSome && s.caKeyHash.isSome
  | 2 => s.rootKey.isSome && s.certOk
  | 3 => match s.caKeyHash with | some h => Config.returnToken h s.uid (s.wideOf base.lc 2) | none => false
  | _ => true

/-- Dawn runs: neither ready, nor in the no-image state, nor waiting for a Hatbox (R520). -/
def Dev.dawnRuns (s : Dev) : Bool := s.dawnPhase != dawnReady && !s.noImage && s.dawnPhase != dawnWaitHatbox

/-- Array BIST with PRESERVE runs. -/
def Dev.preserving (s : Dev) : Bool := match s.bist with | some r => r.array && r.preserve | none => false

def Dev.lcEnd (s : Dev) (result : Nat) : Dev :=
  ((s.put base.lc LC.CMD.GO 0).put base.lc LC.STATUS.RESULT result).bump base.lc LC.STATUS.SEQ

/-- LC_TRANSITION: the next state is burned and waits for the next chip reset. (DEDUCED, notes/assumptions/115.md) -/
def Dev.lcCmd (s : Dev) (m : Master) : Dev :=
  let st := s.otp.lifecycle
  if !lcMaster m st then s.lcEnd 1
  else if s.dawnRuns || s.pfPhase != pfIdle || s.restoreRuns || s.preserving || s.otp.pendingLc.isSome then s.lcEnd 2
  else if !s.lcCond st then s.lcEnd 3
  else
    let s1 := s.otpBurn 0 (BitVec.ofNat 72 (0xFF * 2 ^ (8 * st)))
    let s2 : Dev := { s1 with otp := { s1.otp with pendingLc := some (st + 1) } }
    let s3 := (s2.put base.lc LC.STATUS.PENDING 1).lcEnd 0
    s3.ibi 5 (st + 1) (s3.rd base.lc LC.STATUS.SEQ)

def execLcTransition (m : Master) (s : State) : Host.Outcome State Fault Refusal :=
  s.act (fun s => s.owned m base.lc (fun s => s.lcCmd m))

end Sys2Proof.Machine
end

