-- ==== Sys2Proof/Machine/Dawn.lean ====
section
/-! DEFINITION. Dawn (R508-R520): power-up, power-good, the ten steps and their order, the no-image state (R60), the
copy of the shutdown latch (R427-R429), the repair maps (R259, R504, R505), the endings of step 10 (R512-R514), and the
exit from Midnight and from the safe state, which ends as Dawn does (R338, R342). -/
namespace Sys2Proof.Machine

/-! ### Loading an image (R48, R59, R60, R68, R155) -/

/-- Every controller of a quadrant is at the image's TSV point before the Crown is trained. -/
def Dev.loadPoint (s : Dev) (q : Nat) : Dev :=
  let r := s.item itTsvRate q
  (s.put (base.qme q) QME.TRAIN.POINT r).each ((List.range 32).map (fun k => 32 * q + k)) (fun s p =>
    (s.put (base.pc p) PC.ARB.RATE r).put (base.pc p) PC.ARB.L0_DEPTH (l0DepthAt r))

def Dev.loadPoints (s : Dev) : Dev := s.each (List.range 4) (fun s q => s.loadPoint q)

/-- FULLER.MIR shows which regions are MIRRORED; one that is not matched awaits its exchange (R41).
(DEDUCED, notes/assumptions/136.md) -/
def Dev.loadMirrors (s : Dev) : Dev :=
  s.each (List.range 64) (fun s r =>
    let mirrored := s.rgnValid r && s.classOf r = clsMirrored
    if mirrored && s.fuller.matched.contains r then s
    else (s.setMirState r (if mirrored then mirUnmatched else mirNone)).put base.mir (MIR.STATUS.RESYNC.at 4 r) 0)

/-- EFF follows the budget and energy items that have come into force (R68, R330). -/
def Dev.reEff (s : Dev) : Dev := if s.pf.audited then s.followEl else if s.pf.auditing then s.setEff 1 else s

/-- The image in force, or the values of the no-image state, take effect in every register that shows them. -/
def Dev.loadImage (s : Dev) : Dev :=
  ((((((s.loadMap.loadMirrors).loadUnits).loadPoints).loadTunable).loadNode).showActive).showNextDawn.reEff

/-! ### Phases and failures -/

/-- Steps 9 and 10 are held (R515). -/
def Dev.held (s : Dev) : Bool := s.flag base.bist BIST.POLICY.HELD

/-- PHASE while nothing else is to be shown: HELD or RUNNING. -/
def Dev.dawnGoing (s : Dev) : Dev := s.setDawnPhase (if s.held then dawnHeld else dawnRunning)

/-- A step fails (event 3, R519). (DEDUCED, notes/assumptions/97.md) -/
def Dev.stepFailed (s : Dev) (k : Nat) : Dev :=
  (s.put base.dawn DAWN.STATUS.FAILSTEP k).post base.dawn DAWN.STATUS.SEQ DAWN.STATUS.EVENT 3

/-- Dawn runs: power is good, and it has neither stopped nor reached its end. -/
def Dev.dawnLive (s : Dev) : Bool :=
  s.power.inRange && s.power.resetN && s.pfPhase = pfIdle && s.dawnPhase != dawnStopped && s.power.crownOn

/-! ### Step 10 (R512-R514) -/

/-- Some valid region persists. -/
def Dev.persistent (s : Dev) : Bool := !(s.regionsOf (fun c => c != clsVolatile)).isEmpty

/-- Some pseudo-channel trains. -/
def Dev.anyTraining (s : Dev) : Bool := (List.range 128).any (fun p => (s.pc p).training.isSome)

/-- Step 10 of Dawn may start, or the end of a Midnight exit: the Crown is trained. -/
def Dev.mayEnd (s : Dev) : Bool :=
  if s.rungPhase = rpExiting then s.dawnDone 10 && !s.anyTraining
  else !s.dawnDone 10 && s.dawnDone 6 && s.dawnDone 8 && !s.held

/-- The cartridges have been asked: step 7 has ended, or at a Midnight exit every link is up or has failed. -/
def Dev.hatboxesAsked (s : Dev) : Bool := if s.rungPhase = rpExiting then !s.power.linksPending else s.dawnDone 7

/-- R512 is applied: zero-fill, restore start, or the wait for the Hatboxes. -/
def Dev.tryEnding (s : Dev) : Dev :=
  if s.batt.active.isNone || s.rstPhase != 0 || s.pf.zeroFill || !s.dawnLive || !s.mayEnd then s
  else if !s.persistent then { s with pf := { s.pf with zeroFill := true } }
  else if !s.hatboxesAsked then s
  else if s.restorable then
    let s1 := s.put base.pf PF.RST_STATUS.PHASE 1
    if s.dawnPhase = dawnWaitHatbox then s1.dawnGoing else s1
  else (s.put base.pf PF.RST_STATUS.OUTCOME 4).setDawnPhase dawnWaitHatbox

/-- ZERO_FILL_DONE: every line reads as zero, the Fuller has no history (R513), or is non-durable (R514). -/
def Dev.zeroFillDone (s : Dev) : Dev :=
  if !s.pf.zeroFill || s.pfPhase != pfIdle then s
  else
    let nd := s.pf.serveNd
    let s1 : Dev := { s with crown := [], pf := { s.pf with zeroFill := false, serveNd := false } }
    let s2 := s1.openEpochs (if nd then s1.highestEpoch else 0) 0
    let s3 := if nd then ((s2.putFlag base.fcore FULLER.STATUS.NONDURABLE true).fullerEvent 6).raise srcNondurable else s2
    let s4 := s3.goReady
    (s4.initDone ((List.range 128).filter s4.pcServes)).each [0, 1] (fun s n => s.startResync n)

def execZeroFillDone (s : State) : Host.Outcome State Fault Refusal := s.act Dev.zeroFillDone

/-- SERVE_NONDURABLE: ends the wait of R514 with a zero-fill; ignored in any other PHASE. -/
def Dev.serveNondurable (s : Dev) : Dev :=
  let s1 := s.put base.dawn DAWN.CTL.SERVE_NONDURABLE 0
  if s.dawnPhase != dawnWaitHatbox then s1
  else ({ s1 with pf := { s1.pf with zeroFill := true, serveNd := true } } : Dev).dawnGoing

def execServeNondurable (s : State) : Host.Outcome State Fault Refusal := s.act Dev.serveNondurable

/-! ### Repair maps and the Crown (R239, R259, R504, R505, R516) -/

/-- One lane entry of a repair segment. -/
def Dev.applyLane (s : Dev) (e : Nat) : Dev :=
  let p := bitsOf e 0 7
  let lane := bitsOf e 7 6
  let kind := bitsOf e 13 2
  if bitsOf e 15 1 = 0 then s
  else if kind < 2 then
    if 39 < lane || s.laneErased p lane then s
    else if kind = 0 && s.pcr p (assignFld (lane / 10)) = 0xF then s.failLane p lane 0
    else s.eraseLane p lane
  else if kind = 2 && 40 ≤ lane && lane < 44 then s.spareFailed p (lane - 40)
  else s

/-- A segment: the die word, then 60 lane entries, four to a word. -/
def Dev.applySegment (s : Dev) (r : OtpRegion) : Dev :=
  let w := (s.otpData r.first).toNat
  let s1 := s.each [0, 1] (fun s t => if bitsOf w (4 * t + 3) 1 = 1 then s.enterErase t (bitsOf w (4 * t) 3) 0 else s)
  s1.each (List.range 60) (fun s m => s.applyLane (bitsOf (s.otpData (r.first + 1 + m / 4)).toNat (16 * (m % 4)) 16))

/-- The segments in use, in ascending order. -/
def Dev.applyRepairs (s : Dev) : Dev :=
  s.each (List.range 8) (fun s k => match s.otpInUse (8 + k) with | some r => s.applySegment r | none => s)

/-- Some used core-die value is at or above THALT_C. -/
def Dev.tooHot (s : Dev) : Bool := ((List.range 64).map (· + 12)).any s.atThalt

/-- The dies load their fuse maps, the repair maps are applied and every pseudo-channel trains in full (R252, R259). -/
def Dev.startCrown (s : Dev) : Dev :=
  ({ s with ecc := { s.ecc with spared := s.ecc.fuses } } : Dev).applyRepairs.each (List.range 128) (fun s p => if s.pcState p = pcInit then s.startTraining p false else s)

/-- Step 8 starts, or waits for the core dies to cool, or to reach 0 degrees (R516; 23_package_pins_and_limits.md). -/
def Dev.crownStep (s : Dev) : Dev :=
  if s.tooHot || s.tooCold then
    ({ s with therm := { s.therm with hotWait := s.tooHot } } : Dev).setDawnPhase dawnThermalWait
  else s.startCrown

/-- THERMAL_WAIT ends once every used core-die value has reached 0 degrees and, after one at or above THALT_C, every one is
below HOT_C. The no-image state shows itself again (R60). -/
def Dev.thermalRelease (s : Dev) : Dev :=
  if s.dawnPhase != dawnThermalWait then s
  else
    let hot := (s.therm.hotWait && !s.coolEnough) || s.tooHot
    let s1 : Dev := { s with therm := { s.therm with hotWait := hot } }
    if hot || s.tooCold then s1
    else (if s1.noImage then s1.setDawnPhase dawnNoImage else s1.dawnGoing).startCrown

/-! ### Fabric (step 9) -/

/-- Every port whose role is not DISABLED trains in full. -/
def Dev.startFabric (s : Dev) : Dev :=
  s.each ((List.range 6).filter (fun n => !s.fpDisabled n)) (fun s n => s.fullTrain n)

/-- Every enabled port is ACTIVE or DOWN. -/
def Dev.fabricSettled (s : Dev) : Bool :=
  (List.range 6).all (fun n => s.fpDisabled n || s.fpState n = fpActive || s.fpState n = fpDown)

/-- TIME1.FABRIC: the first port ACTIVE. -/
def Dev.fabricTime (s : Dev) : Dev :=
  if s.rd base.dawn DAWN.TIME1.FABRIC = 0 && s.dawnDone 6 && (List.range 6).any (fun n => s.fpState n = fpActive) then
    s.put base.dawn DAWN.TIME1.FABRIC s.tenths
  else s

/-! ### Supplies and reset (R395, R508) -/

/-- POWER_UP: VAUX rises; the always-on registers are cleared, and nothing that is not non-volatile is left. -/
def Dev.powerUp (s : Dev) : Dev :=
  let d := s.nonVolatile Dev.reset
  { d with free := s.free, power := { Power.reset with vaux := true } }

def execPowerUp (s : State) : Host.Outcome State Fault Refusal := s.act Dev.powerUp

/-- Step 1 begins: CHIP.DAWN is cleared, the Crown and SerDes supplies are on, a master's OTP command is held (R506). -/
def Dev.dawnBegin (s : Dev) (straps : BitVec 2) : Dev :=
  let s1 : Dev := { s with
    regs := s.regs.filter (fun r => r.1 < base.dawn || base.dawn + 0x14 ≤ r.1)
    power := { s.power with vaux := true, inRange := true, resetN := true, crownOn := true, serdesOn := true, goodAt := s.now }
    otp := { s.otp with held := true }
    mgmt := { s.mgmt with straps := straps } }
  s1

/-- POWER_GOOD: every supply in range and RESET_N deasserted (R509). -/
def Dev.powerGood (s : Dev) (straps : BitVec 2) : Dev :=
  if s.power.inRange && s.power.resetN then s else s.dawnBegin straps

def execPowerGood (straps : BitVec 2) (s : State) : Host.Outcome State Fault Refusal := s.act (fun s => s.powerGood straps)

/-- RESET_ASSERT: an OTP burn pulse has ended (a burn is one step here); then step 0. -/
def Dev.resetAssert (s : Dev) : Dev :=
  let d := s.chipReset
  { d with power := { d.power with resetN := false } }

def execResetAssert (s : State) : Host.Outcome State Fault Refusal := s.act Dev.resetAssert

/-- PLL_LOCK_TIMEOUT: Dawn stops in step 1 and the always-on domain asserts ERR_N (R519). -/
def Dev.pllTimeout (s : Dev) : Dev :=
  if s.dawnDone 1 || !s.dawnLive then s
  else
    let s1 := (s.stepFailed 1).setDawnPhase dawnStopped
    ({ s1 with coll := { s1.coll with errAon := true } } : Dev).putFlag base.fault FAULT.ERRN.ASSERTED true

def execPllLockTimeout (s : State) : Host.Outcome State Fault Refusal := s.act Dev.pllTimeout

/-! ### Step 3: the journal and the shutdown latch (R427-R429, R449) -/

/-- Words of the thermal journal. -/
def journalWords : List Nat := (List.range 128).map (· + 0x40)

/-- A slot as it reads: data bits. -/
def Dev.slotWord (s : Dev) (a : Nat) : BitVec 64 := (s.otpCell a).extractLsb' 0 64

/-- NEXT and TORN of PWR.THERM.JOURNAL. -/
def Dev.showJournal (s : Dev) : Dev :=
  let torn := (journalWords.filter (fun a => s.slotWord a != 0 && !(s.slotWord a).getLsbD 63)).length
  let next := match journalWords.find? (fun a => s.slotWord a = 0) with | some a => a - 0x40 | none => 128
  (s.put base.therm THERM.JOURNAL.TORN torn).put base.therm THERM.JOURNAL.NEXT next

/-- Slot content of a latch record. -/
def slotOf (r : LatchRec) (boot : Nat) : BitVec 64 :=
  BitVec.ofNat 64 (r.cause.toNat + r.sensor % 128 * 2 ^ 2 + r.value.toNat * 2 ^ 9 + r.seconds.toNat * 2 ^ 20 + boot % 16 * 2 ^ 52 + 2 ^ 63)

/-- One latched record goes to its slot and to the event journal; the answer says whether it may leave the latch.
(DEDUCED, notes/assumptions/98.md) -/
def Dev.copyLatched (s : Dev) (r : LatchRec) (verified : Bool) : Bool × Dev :=
  let w := slotOf r (s.rd base.dawn DAWN.COUNT.COUNT)
  let s1 := s.journal 2 srcThermShutdown (BitVec.zeroExtend 256 w)
  match journalWords.find? (fun a => s.slotWord a = 0) with
  | none =>
    (true, if s1.flag base.therm THERM.JOURNAL.FULL then s1 else (s1.putFlag base.therm THERM.JOURNAL.FULL true).raise srcJournalFull)
  | some a =>
    let s2 := s1.otpBurn a (otpWord a w)
    if verified then (true, s2) else (false, (s2.raise srcBurnFail).count base.otp OTP.BURN_FAIL.COUNT)

/-- The latch is copied, oldest record first; `bad` names the records whose slot failed its verify. -/
def Dev.copyLatch (s : Dev) (bad : List Nat) : Dev :=
  let step (a : List LatchRec × Dev) (x : LatchRec × Nat) : List LatchRec × Dev :=
    let r := a.2.copyLatched x.1 (!bad.contains x.2)
    (if r.1 then a.1 else a.1 ++ [x.1], r.2.raise srcThermShutdown)
  let r := s.therm.latch.zipIdx.foldl step ([], s)
  ({ r.2 with therm := { r.2.therm with latch := r.1 } } : Dev).showLatch.showJournal.showThermN

/-- The Dawn count: BOOT of the newest record plus 1, or 1 (R449). -/
def Dev.dawnCount (s : Dev) : Nat :=
  match s.newestRecord with
  | some r => (r.boot.toNat + 1) % 2 ^ 32
  | none => 1

/-- Torn records that the boot ROM meets: it reads the first record of each sector and the newest sector (R449). -/
def Dev.tornFound (s : Dev) : Nat :=
  let inNewest := (s.mgmt.jrnlPos + sectorRecords - 1) % sectorRecords + 1
  ((s.mgmt.journal.zipIdx).filter (fun x => x.1.torn && (x.2 < inNewest ||
    (x.2 - inNewest) % sectorRecords = sectorRecords - 1))).length

/-- The NOR is read, or fails R440. -/
def Dev.bootJournal (s : Dev) (norBad : Bool) (badSlots : List Nat) : Dev :=
  let next : BitVec 32 := match s.mgmt.journal with | r :: _ => nextRecSeq r.seq | [] => 1
  let s1 : Dev := { s with mgmt := { s.mgmt with norUsable := !norBad, nextSeq := next } }
  let s2 := (s1.put base.dawn DAWN.COUNT.COUNT (if norBad then 0 else s1.dawnCount)).put base.log LOG.LOG_TORN.COUNT
    (if norBad then 0 else min 0xFFFF s1.tornFound)
  let s3 := if norBad then (s2.raise srcSpiNor).stepFailed 3 else s2
  let s4 := s3.copyLatch badSlots
  let s5 := if s4.therm.latch.isEmpty then s4 else s4.stepFailed 3
  ((s5.put base.otp OTP.STATUS.STATE 0).stepDone 3).otpRelease

/-! ### Steps 2, 4, 5, 6 -/

/-- A region has copies, and none that is usable (R496). -/
def Dev.regionLost (s : Dev) (i : Nat) : Bool :=
  match otpRegions[i]? with
  | some r => (s.otpInUse i).isNone && (s.otpSealed r || s.otpSealed r.twin)
  | none => false

def Dev.otpStep (s : Dev) (weak : List Nat) : Dev :=
  let s1 := (s.otpReadAll otpDawnWords weak).otpLoad
  (if (List.range 16).any s1.regionLost then s1.stepFailed 2 else s1).stepDone 2

/-- Analogue items 0-3 fail as the bits say (R476): the failing fabric lanes start their next training as failed, a sensor
whose reference fails is BROKEN, every other failure is reported only. -/
def Dev.analogFail (s : Dev) (bits : Nat) (lanes sensors : List Nat) : Dev :=
  let s1 := s.each lanes (fun s l => s.upFp (l / 9) (fun p => { p with startFailed := p.startFailed ||| (1 <<< (l % 9)) }))
  let s2 := s1.each sensors (fun s i => (((s.put base.therm (sensFld THERM.SENS.STATE i) sensBroken).count base.therm
    THERM.BROKEN.COUNT).raise srcThermSensor).evalBands i)
  let s3 := s2.put base.bist BIST.ANALOG.FAIL (s2.rd base.bist BIST.ANALOG.FAIL / 16 * 16 + bits % 16)
  if bits % 16 = 0 then s3 else (s3.raise srcBistFail).count base.bist BIST.FAILS.COUNT

/-- Step 4: analogue items 0-3; with step 6 over, step 9 starts. The report names failing units: 0-53 fabric lanes, 54 the PCIe PHYs, 55 the PLLs, 56 the
references, 100 + i a sensor whose reference fails. (DESIGN CHOICE, notes/assumptions/145.md) -/
def Dev.analogStep (s : Dev) (units : List Nat) : Dev :=
  let lanes := units.filter (· < 54)
  let sensors := (units.filter (fun u => 100 ≤ u && u < 180)).map (· - 100)
  let bit (b : Bool) (k : Nat) : Nat := if b then 2 ^ k else 0
  let bits := bit (!lanes.isEmpty) 0 + bit (units.contains 54) 1 + bit (units.contains 55) 2 +
    bit (units.contains 56 || !sensors.isEmpty) 3
  let s1 := s.analogFail bits lanes sensors
  let s2 := (if bits = 0 then s1 else s1.stepFailed 4).stepDone 4
  if s2.dawnDone 6 && !s2.held then s2.startFabric else s2

/-- A port whose link is up and whose cartridge has been asked takes its state (R511).
(DEDUCED, notes/assumptions/96.md) -/
def Dev.classifyPorts (s : Dev) : Dev :=
  if !s.dawnDone 6 || !s.dawnDone 7 then s
  else s.each ([0, 1].filter (fun n => (s.hb n).cart.isSome && s.hbr n HB.STATUS.SPEED != 3 && s.hbState n = hbAbsent))
    (fun s n => s.classifyPort n)

/-- Steps that the end of step 6 lets start: 8, and 9 unless it is held. -/
def Dev.afterBatt (s : Dev) : Dev :=
  let s1 := ((s.put base.dawn DAWN.TIME0.BATT s.tenths).classifyPorts).crownStep
  if s1.dawnDone 4 && !s1.held then s1.startFabric else s1

/-- The no-image state (R60). -/
def Dev.enterNoImage (s : Dev) : Dev :=
  let s1 : Dev := { s with batt := { s.batt with active := none } }
  let s2 := ((s1.loadImage.put base.batt BATT.STATUS.STATE battIdle).raise srcBattLoad).stepFailed 6
  let s3 := (s2.stepDone 6).afterBatt
  if s3.dawnPhase = dawnThermalWait then s3 else s3.setDawnPhase dawnNoImage

/-- Step 6: the slots are tried in the order of R59. -/
def Dev.battStep (s : Dev) : Dev :=
  let show1 (s : Dev) (slot : Nat) (f : BattFail) : Dev :=
    ((((s.put base.batt BATT.STATUS.SOURCE slot).put base.batt BATT.STATUS.RESULT f.code).put base.batt BATT.STATUS.SECTION
      f.sec).put base.batt BATT.FAIL_OFFSET.OFFSET f.off).bump base.batt BATT.STATUS.SEQ
  match s.dawnImage with
  | some (im, slot) =>
    let s1 := (show1 s slot ⟨0, 0, 0⟩).put base.batt BATT.STATUS.STATE battIdle
    ((({ s1 with batt := { s1.batt with active := some im } } : Dev).loadImage).stepDone 6).afterBatt
  | none =>
    let last := s.slotOrder.getLast?.getD 0
    let f : BattFail := match battCheck (s.slotBytes last) s.battCtx with | .inr f => f | .inl _ => ⟨0, 0, 0⟩
    (show1 s last f).enterNoImage

/-- Step 5: firmware is in service, or none is. -/
def Dev.firmwareStep (s : Dev) : Dev :=
  let s1 := ((s.put base.dawn DAWN.TIME0.FIRMWARE s.tenths).when s.noFirmware (fun s => s.stepFailed 5)).stepDone 5
  let s2 := s1.when (s1.rootKey.isSome && s1.caKeyHash.isSome && !s1.certOk) (fun s => s.raise srcCert)
  if s.noFirmware then s2.enterNoImage else s2.put base.batt BATT.STATUS.STATE 1

/-! ### Steps 1, 7, 8, 9 -/

/-- Step 1: every PLL has locked, the core is in its boot ROM, the hold-up audit starts. -/
def Dev.clocksStep (s : Dev) : Dev := (((s.put base.clk CLK.PLL.reg 0x1FFF).put base.otp OTP.STATUS.STATE 3).coreReset.auditStart).stepDone 1

/-- Step 7: a cartridge that fails it is FAILED (R361, R367). -/
def Dev.hatboxStep (s : Dev) (bad : List Nat) : Dev :=
  let ports := [0, 1].filter (fun n => bad.contains n && (s.hb n).cart.isSome)
  let s1 := s.each ports (fun s n => ((s.setHbState n hbFailed).raise (srcHbFailed n)).stepFailed 7)
  ((s1.stepDone 7).classifyPorts).tryEnding

/-- Step 8: a pseudo-channel whose lane groups all failed stays OUT. (DEDUCED, notes/assumptions/121.md) -/
def Dev.crownEnd (s : Dev) (bad : List Nat) : Dev :=
  let s1 := s.each (bad.filter (· < 128)) (fun s p => ((s.setPcState p pcOut).raise (srcQuad (p / 32) (0x20 + p % 32))).stepFailed 8)
  (s1.stepDone 8).tryEnding

/-- Step 9: a port that could not train is DOWN. -/
def Dev.fabricEnd (s : Dev) : Dev :=
  let s1 := if (List.range 6).any (fun n => !s.fpDisabled n && s.fpState n = fpDown) then s.stepFailed 9 else s
  (s1.fabricTime).stepDone 9

/-- DAWN_STEP_END: a step that runs ends, and those that depend on it start. -/
def Dev.dawnStepEnd (s : Dev) (k : Nat) (rep : StepReport) : Dev :=
  let d := s.dawnDone
  if !s.dawnLive || (k != 0 && d k) then s
  else if k = 1 then (if rep.failed then s.pllTimeout else s.clocksStep)
  else if k = 2 && d 1 then s.otpStep rep.units
  else if k = 3 && d 2 then s.bootJournal rep.failed rep.units
  else if k = 4 && d 1 then s.analogStep rep.units
  else if k = 5 && d 2 && d 3 && (s.coreState = coreRuns || s.noFirmware) then s.firmwareStep
  else if k = 6 && d 5 then s.battStep
  else if k = 7 && d 2 && d 4 then s.hatboxStep rep.units
  else if k = 8 && d 2 && d 6 && !s.anyTraining && s.dawnPhase != dawnThermalWait then s.crownEnd rep.units
  else if k = 9 && d 4 && d 6 && !s.held && s.fabricSettled then s.fabricEnd
  else if k = 10 then (if s.pf.zeroFill then s.zeroFillDone else s.restoreStart)
  else s

/-! ### DAWN_HOLD and DAWN_RELEASE (R515, R520) -/

/-- DAWN_HOLD: ignored once step 9 has started. -/
def Dev.dawnHold (s : Dev) : Dev :=
  if (s.dawnDone 4 && s.dawnDone 6) || s.held || s.dawnPhase = dawnStopped || s.dawnDone 10 then s
  else
    let s1 := s.putFlag base.bist BIST.POLICY.HELD true
    if s1.dawnPhase = dawnRunning then s1.setDawnPhase dawnHeld else s1

def execDawnHold (s : State) : Host.Outcome State Fault Refusal := s.act (fun s => (s.jtagLoad 0x11 0).dawnHold)

/-- DAWN_RELEASE: steps 9 and 10 start at once. -/
def Dev.dawnRelease (s : Dev) : Dev :=
  if !s.held then s
  else
    let s1 := s.putFlag base.bist BIST.POLICY.HELD false
    let s2 := if s1.dawnPhase = dawnHeld then s1.setDawnPhase dawnRunning else s1
    let s3 := if s2.dawnDone 4 && s2.dawnDone 6 && s2.dawnLive then s2.startFabric else s2
    s3.tryEnding

def execDawnRelease (s : State) : Host.Outcome State Fault Refusal := s.act (fun s => (s.jtagLoad 0x12 0).dawnRelease)

/-! ### The way back from Midnight and from the safe state (R338, R339, R342) -/

/-- What the restore starts from: the Crown powered and untrained, the Fuller and the controllers without history. -/
def Dev.crownBack (s : Dev) : Dev :=
  let s1 : Dev := { s with
    crown := [], pcs := [], fuller := Fuller.reset
    ecc := { Ecc.reset with fuses := s.ecc.fuses }
    pf := { s.pf with
      thaltSafe := false, wakeHeld := false, endIssued := false, pfSeen := false, restoring := false, writing := [], restored := []
      waitList := [], faultIns := [], zeroFill := false, serveNd := false, stage0Held := false }
    power := { s.power with crownOn := true, serdesOn := true, goodAt := s.now, wakeSeen := none } }
  s1.loadMirrors.each (List.range 128) (fun s p => s.put (base.pc p) PC.STATUS.STATE pcInit)

/-- Hatbox links are down and come up again. -/
def Dev.hatboxesBack (s : Dev) : Dev :=
  let s1 := s.each [0, 1] (fun s n => s.upHb n (fun h => { h with cold := h.cart.isSome, cmds := [], resetting := false, ejecting := false }))
  let s2 := s1.each ([0, 1].filter (fun n => s1.hbState n != hbAbsent && s1.hbState n != hbFailed && s1.hbState n != hbEjected))
    (fun s n => s.setHbState n hbAbsent)
  { s2 with power := { s2.power with linksPending := [0, 1].any (fun n => (s2.hb n).cart.isSome) } }

/-- The exit starts: RUNG.STATUS shows it, RST_STATUS.MIDNIGHT is set. -/
def Dev.showExit (s : Dev) (src : WakeSrc) : Dev :=
  let s1 := (s.put base.pf PF.STATUS.PHASE pfIdle).put base.pf PF.STATUS.CAUSE 0
  let s2 := ((s1.put base.pf PF.RST_STATUS.PHASE 0).putFlag base.pf PF.RST_STATUS.MIDNIGHT true)
  (((s2.put base.rung RUNG.STATUS.PHASE rpExiting).put base.rung RUNG.STATUS.PENDING 0).put base.rung RUNG.STATUS.WAKE_SRC
    (wakeCode src)).count base.rung RUNG.WAKE.COUNT

/-- Midnight exit, and the exit from the safe state: the Crown is powered and trained in full, the Hatbox ports come up,
and the device restores. Device time comes back from the always-on count at 1 µs resolution where the Brim was off.
(DEDUCED, notes/assumptions/89.md) -/
def Dev.midnightExit (s : Dev) (src : WakeSrc) : Dev :=
  if !s.dawnDone 10 then (s.chipReset).dawnBegin s.mgmt.straps
  else
    let warm := s.pf.thaltSafe
    let s0 : Dev := if warm then s else { s with now := s.now / 1000 * 1000 }
    let s1 := (s0.crownBack).showExit src
    let s2 := if warm then s1 else ((s1.put base.clk CLK.PLL.reg 0x1FFF).otpLoad).coreReset.loadImage.auditStart
    let s3 := (s2.hatboxesBack).startCrown
    (if warm then s3 else s3.startFabric).tryEnding

end Sys2Proof.Machine
end

