-- ==== Sys2Proof/Machine/Rung.lean ====
section
/-! DEFINITION. Power rungs (R394-R404), the governor (R405-R409), thermal levels (R407), and the wake events that follow
a sensor's sample (R339, R516). -/
namespace Sys2Proof.Machine

/-! ### Quiet (R396) -/

/-- A pseudo-channel is SERVING or OUT with nothing queued, merging or in flight. -/
def Dev.pcQuiet (s : Dev) (p : Nat) : Bool :=
  let c := s.pc p
  (s.pcState p = pcServing || s.pcState p = pcOut) && c.l0.isEmpty && c.l1.isEmpty && c.l2.isEmpty && c.wq.isEmpty &&
  c.xbarQ.isEmpty && c.feed.isEmpty && c.mergeBuf.isEmpty && c.inFlight.isEmpty && c.decodeQ.isEmpty && c.revisitQ.isEmpty &&
  c.training.isNone

/-- An ACTIVE port has nothing unacknowledged and nothing to send, and its peer is idle. -/
def Dev.portQuiet (s : Dev) (n : Nat) : Bool :=
  let f := s.fp n
  s.fpState n != fpActive || (f.replay.isEmpty && f.txq.isEmpty && f.rxq.isEmpty && f.lctl.isEmpty && f.peerIdle &&
    (List.range 4).all (fun v => (f.sending.get (fun _ => []) v).isEmpty))

/-- A write that has timed out waits at the crossing to a domain that Dusk gates (R396, R543). -/
def Dev.crossingBusy (s : Dev) : Bool :=
  s.mgmt.late.any (fun x => let d := x.2.1.toNat / 0x100000; (1 ≤ d && d ≤ 5) || d = 7 || d = 8)

/-- The Fuller has no deferred command, no restore, fault-in, heal or mirror work; the Hatboxes are at rest. -/
def Dev.fullerQuiet (s : Dev) : Bool :=
  let f := s.fuller
  f.deferred.isEmpty && f.waits.isEmpty && f.flushes.isEmpty && f.xbarCmds.isEmpty && f.sealAt.isNone && f.mirOut.isEmpty &&
  f.mirWait.isEmpty && f.chunks.isEmpty && !s.restoreRuns && s.pf.faultIns.isEmpty && s.ecc.heals.isEmpty && s.ecc.healWait.isEmpty &&
  [0, 1].all (fun n => (s.hb n).cmds.isEmpty && s.hbState n != hbResync && s.hbState n != hbPairing)

/-- The conditions of R396, but for DUSK_IDLE and for the dirty set. -/
def Dev.quiet (s : Dev) : Bool :=
  s.flag base.rung RUNG.CFG.DUSK_EN && s.rung = rungNoon && s.dawnPhase = dawnReady && (List.range 128).all s.pcQuiet &&
  (List.range 6).all s.portQuiet && s.fullerQuiet && s.bist.isNone && s.icStart.isNone && !s.battRuns && !s.crossingBusy &&
  (List.range 4).all (fun q => (s.qme q).changing.isNone) && !s.tooHot && s.pfPhase = pfIdle

/-! ### Dusk -/

/-- The REFmu in flight ends. -/
def Dev.muEnd (s : Dev) (p : Nat) : Dev :=
  match (s.pc p).muInFlight with
  | none => s
  | some b =>
    let t := max (s.pc p).clock (s.freeFrom p ((s.pc p).bank b))
    (s.settle p t).upPc p (fun c => { c with muInFlight := none, clock := t })

/-- A bank's debt is paid with one REFmu, one in flight at a time; a debt above 8, which a forced make-up leaves, with two
(R214, R225, R229). -/
def Dev.payBank (s : Dev) (p b : Nat) : Dev :=
  let one (s : Dev) : Dev := if s.debt p b = 0 then s else (s.muEnd p).refresh1 p b (min 8 (s.debt p b)) true
  one (one s)

/-- A pseudo-channel's debts are paid, its rows closed and its dies put in power-down; a forced make-up is complete. -/
def Dev.payPc (s : Dev) (p : Nat) : Dev :=
  let s1 := (((s.each ((List.range 32).map dueBank) (fun s b => s.payBank p b)).muEnd p).closeRows p).pdEnter p
  let s2 := s1.upPc p (fun c => { c with forced := [] })
  if s2.flag (base.pc p) PC.REF_STATUS.FORCED then (s2.put (base.pc p) PC.REF_STATUS.FORCED 0).refEvent p 3 else s2

/-- Every pseudo-channel pays its debts (R228, R229, R396). -/
def Dev.payDebts (s : Dev) : Dev := s.each (List.range 128) (fun s p => s.payPc p)

/-- DUSK_ENTER: the conditions have held for DUSK_IDLE; a Night request that is held goes first (R404). -/
def Dev.duskEnter (s : Dev) : Dev :=
  if !s.quiet || !s.fuller.map.isEmpty || !s.fuller.jobs.isEmpty || s.rungPhase != rpSteady then s
  else
    let s1 := (s.each (List.range 128) (fun s p => s.calPause p)).payDebts
    let s2 := s1.each (List.range 6) (fun s n => s.idleTx n)
    ((s2.put base.rung RUNG.STATUS.RUNG rungDusk).count base.rung RUNG.DUSK_ENTRY.COUNT).rungEvent 1

def execDuskEnter (s : State) : Host.Outcome State Fault Refusal := s.act Dev.duskEnter

/-! ### Night (R399) -/

/-- Ports with a cartridge that goes to D3cold. -/
def Dev.hbAwake (s : Dev) : List Nat :=
  [0, 1].filter (fun n => (s.hb n).cart.isSome && s.hbState n != hbAbsent && s.hbState n != hbEjected && s.hbState n != hbFailed)

/-- Night is reached: D3cold, self-refresh, fabric idle. (DEDUCED, notes/assumptions/126.md) -/
def Dev.nightReached (s : Dev) : Dev :=
  let s1 := s.each s.hbAwake (fun s n => (s.put (base.hb n) HB.STATUS.STATE hbAbsent).upHb n (fun h => { h with cold := true }))
  let s2 := (s1.each (List.range 6) (fun s n => s.idleTx n)).each (List.range 128) (fun s p => s.calPause p)
  let s3 := s2.payDebts.each (List.range 128) (fun s p => s.upPc p (fun c => { c with powerDown := false }))
  let s4 : Dev := { s3 with power := { s3.power with entryStep := 0 } }
  (((((s4.put base.rung RUNG.STATUS.RUNG rungNight).put base.rung RUNG.STATUS.PHASE rpSteady).put base.rung RUNG.STATUS.PENDING
    0).put base.rung RUNG.STATUS.RESULT 0).count base.rung RUNG.NIGHT_ENTRY.COUNT).rungEvent 2

/-- Entry moves on where its step has ended: the dirty set is destaged, then the cartridges are flushed and shut down. -/
def Dev.nightAdvance (s : Dev) : Dev :=
  if s.rungPhase != rpEntering || s.pfPhase != pfIdle then s
  else if s.power.entryStep = 1 then
    if !s.fuller.map.isEmpty || !s.fuller.jobs.isEmpty || s.epState = epSealing then s
    else
      let s1 : Dev := { s with power := { s.power with entryStep := 2 } }
      s1.each s1.hbAwake (fun s n => s.nvmeIssue n 0 .flush)
  else if s.power.entryStep = 2 then
    if [0, 1].all (fun n => (s.hb n).cmds.isEmpty) then s.nightReached else s
  else s

/-- NIGHT_ENTER: a held Night request whose conditions hold. -/
def Dev.nightEnter (s : Dev) : Dev :=
  if s.rungPhase != rpHeld || s.rd base.rung RUNG.STATUS.PENDING != 2 || !s.quiet then s
  else
    let s1 : Dev := { s with power := { s.power with entryStep := 1 } }
    (s1.put base.rung RUNG.STATUS.PHASE rpEntering).nightAdvance

def execNightEnter (s : State) : Host.Outcome State Fault Refusal := s.act Dev.nightEnter

/-! ### Requests (R399, R403, R404, R520) -/

/-- A request ends with a result: BUSY and REFUSED are refusals (event 6). (DEDUCED, notes/assumptions/122.md) -/
def Dev.rungEnd (s : Dev) (result : Nat) : Dev :=
  let s1 := (s.put base.rung RUNG.REQ.GO 0).put base.rung RUNG.STATUS.RESULT result
  if result = 1 || result = 2 then s1.rungEvent 6 else s1

/-- What makes a request BUSY. -/
def Dev.rungBusy (s : Dev) : Bool :=
  s.battRuns || s.pfPhase != pfIdle || s.restoreRuns || s.preserving || s.rungPhase = rpExiting || s.dawnPhase != dawnReady

/-- The request that is held is given up. -/
def Dev.dropHeld (s : Dev) : Dev :=
  if s.rungPhase = rpHeld then (s.put base.rung RUNG.STATUS.PHASE rpSteady).put base.rung RUNG.STATUS.PENDING 0 else s

/-- NIGHT_REQ_TIMEOUT: the conditions did not hold within 100 ms. -/
def Dev.nightTimeout (s : Dev) : Dev :=
  if s.rungPhase != rpHeld || s.rd base.rung RUNG.STATUS.PENDING != 2 then s else s.dropHeld.rungEnd 2

def execNightReqTimeout (s : State) : Host.Outcome State Fault Refusal := s.act Dev.nightTimeout

/-- RUNG_REQ_NIGHT: held until its conditions hold; RESULT is OK once Night is reached. (DEDUCED, notes/assumptions/123.md) -/
def Dev.reqNight (s : Dev) : Dev :=
  if s.rungBusy then s.rungEnd 1
  else
    let s1 := s.put base.rung RUNG.REQ.GO 0
    if s.rungPhase = rpEntering then s1
    else (s1.put base.rung RUNG.STATUS.PHASE rpHeld).put base.rung RUNG.STATUS.PENDING 2

def execRungReqNight (s : State) : Host.Outcome State Fault Refusal := s.act Dev.reqNight

/-- RUNG_REQ_MIDNIGHT: the device wakes to Noon first, then the Midnight point of R341.
(DEDUCED, notes/assumptions/124.md) -/
def Dev.reqMidnight (s : Dev) : Dev :=
  if s.rungBusy then s.rungEnd 1
  else
    let s1 := (s.dropHeld.wakeNoon .mgmt).put base.rung RUNG.REQ.GO 0
    (s1.put base.rung RUNG.STATUS.PHASE rpEntering).flushPoint 3

def execRungReqMidnight (s : State) : Host.Outcome State Fault Refusal := s.act Dev.reqMidnight

/-- The device lies in Midnight, or in the safe state of a Thalt flush. -/
def Dev.asleep (s : Dev) : Bool := s.pfPhase = pfSafe && (s.rung = rungMidnight || s.pf.thaltSafe)

/-- Sources that wake the device from Midnight (R402). -/
def Dev.wakesMidnight (s : Dev) (src : WakeSrc) : Bool :=
  src = .timer || src = .reqNoon || (src = .fabric && s.rd base.rung RUNG.CFG.WAKE_PORTS != 0)

/-- MIDNIGHT_WAKE: the exit starts; after a Thalt flush the request is held while a core die is hot (R339). -/
def Dev.midnightWake (s : Dev) (src : WakeSrc) : Dev :=
  if !s.asleep || !s.wakesMidnight src then s
  else if !s.pf.thaltSafe || s.coolEnough then s.midnightExit src
  else if s.pf.wakeHeld then s
  else
    let s1 : Dev := { s with pf := { s.pf with wakeHeld := true }, power := { s.power with wakeSeen := some src } }
    (s1.put base.rung RUNG.STATUS.PHASE rpHeld).put base.rung RUNG.STATUS.PENDING 0

def execMidnightWake (src : WakeSrc) (s : State) : Host.Outcome State Fault Refusal := s.act (fun s => s.midnightWake src)

/-- A held wake request goes ahead once every core die is below HOT_C. -/
def Dev.heldWake (s : Dev) : Dev :=
  if s.asleep && s.pf.wakeHeld && s.coolEnough then s.midnightExit (s.power.wakeSeen.getD .reqNoon) else s

/-- RUNG_REQ_NOON: cancels a held request, or wakes the device. -/
def Dev.reqNoon (s : Dev) : Dev :=
  if s.asleep then (s.put base.rung RUNG.REQ.GO 0).midnightWake .reqNoon
  else if s.rungBusy then s.rungEnd 1
  else if s.rungPhase = rpEntering then (s.put base.rung RUNG.REQ.GO 0).wakeNoon .reqNoon
  else (s.dropHeld.wakeNoon .reqNoon).rungEnd 0

def execRungReqNoon (s : State) : Host.Outcome State Fault Refusal := s.act Dev.reqNoon

/-- GO in PWR.RUNG.REQ takes TARGET; 1 ends at once with REFUSED. -/
def Dev.rungReq (s : Dev) : Dev :=
  match s.rd base.rung RUNG.REQ.TARGET with
  | 0 => s.reqNoon
  | 2 => s.reqNight
  | 3 => s.reqMidnight
  | _ => s.rungEnd 2

/-! ### Wake events (R397, R402, R404) -/

/-- WAKE_EVENT: Dusk or Night ends, or an entry is abandoned; after a Midnight point the event is recorded. A Carder
interval wakes Dusk only, with CARDER_WAKE. -/
def Dev.wakeEvent (s : Dev) (src : WakeSrc) : Dev :=
  if s.asleep then s.midnightWake src
  else if s.pfPhase != pfIdle then
    if s.pfCause = 3 && s.wakesMidnight src then { s with power := { s.power with wakeSeen := some src } } else s
  else if src = .carder && !(s.rung = rungDusk && s.flag base.rung RUNG.CFG.CARDER_WAKE) then s
  else s.wakeNoon src

def execWakeEvent (src : WakeSrc) (s : State) : Host.Outcome State Fault Refusal := s.act (fun s => s.wakeEvent src)

/-- WAKE_TIMER_EXPIRE: MS ms after entry to Night or Midnight; 0 disables it. -/
def Dev.wakeTimer (s : Dev) : Dev :=
  if s.rd base.rung RUNG.WAKE_TIMER.MS = 0 || s.rung = rungDusk || (s.rung = rungNoon && s.pfPhase = pfIdle) then s
  else s.wakeEvent .timer

def execWakeTimerExpire (s : State) : Host.Outcome State Fault Refusal := s.act Dev.wakeTimer

/-! ### The ends of closing and of the safe state (R337, R338) -/

/-- CLOSING_DONE: the safe state, or Midnight; a wake event recorded during entry starts the exit at once. -/
def Dev.closed (s : Dev) : Dev :=
  let s1 := s.closingDone
  match s1.power.wakeSeen with
  | some src => if s.pfPhase = pfClosing && s1.rung = rungMidnight then s1.midnightExit src else s1
  | none => s1

def execClosingDone (s : State) : Host.Outcome State Fault Refusal := s.act Dev.closed

/-- SAFE_STATE_EXIT: PWRFAIL_N has been deasserted for 10 ms. (DEDUCED, notes/assumptions/90.md) -/
def Dev.safeExit (s : Dev) : Dev :=
  if s.pfPhase != pfSafe || s.rung = rungMidnight || s.pf.thaltSafe || s.pf.low || s.now < s.pf.roseAt + 10000000 then s
  else s.midnightExit .pwrfail

def execSafeStateExit (s : State) : Host.Outcome State Fault Refusal := s.act Dev.safeExit

/-! ### The governor (R405, R406, R409) -/

/-- The budget level changes (events 1 and 2). -/
def Dev.setLevel (s : Dev) (v code : Nat) : Dev :=
  ((s.put base.gov GOV.STATUS.LEVEL v).govEvent code).showLevels

/-- The quadrant with the highest estimate, the lowest number on a tie. -/
def hottestQuad (quads : List Nat) : Nat :=
  (List.range 4).foldl (fun a q => if quads.getD a 0 < quads.getD q 0 then q else a) 0

/-- Level 15 for 1 ms with P100 still above the budget: a lower TSV point, where every pseudo-channel holds its store. -/
def Dev.lowerPoint (s : Dev) (q : Nat) : Dev :=
  let r := s.point q + 1
  if 2 < r || (s.qme q).changing.isSome || !((List.range 32).all (fun k => s.storeValid (32 * q + k) r)) then s
  else (({ s with power := { s.power with at15 := 0 } } : Dev).requestPoint q r).govEvent 4

/-- Level 0 for 100 ms: one lowered quadrant goes back up a point. -/
def Dev.raisePoint (s : Dev) : Dev :=
  match (List.range 4).find? (fun q => s.item itTsvRate q < s.point q && (s.qme q).changing.isNone) with
  | some q => (({ s with power := { s.power with at0 := 0 } } : Dev).requestPoint q (s.point q - 1)).govEvent 5
  | none => s

/-- GOV_INTERVAL: P100 and the last estimate in units of 0.1 W, and the estimates of the quadrants.
(DESIGN CHOICE, notes/assumptions/125.md) -/
def Dev.govInterval (s : Dev) (p100 inst : Nat) (quads : List Nat) : Dev :=
  if s.rung != rungNoon then s
  else
    let b := 10 * s.rd base.gov GOV.CFG.BUDGET
    let lv := s.rd base.gov GOV.STATUS.LEVEL
    let above := decide (b < p100)
    let below := if p100 + 20 < b then s.power.belowCount + 1 else 0
    let s1 := ((s.put base.gov GOV.POWER.AVG p100).put base.gov GOV.POWER.INST inst).setWide base.gov 1
      ((s.wideOf base.gov 1 + 10 * p100) % 2 ^ 64)
    let s2 : Dev := { s1 with power := { s1.power with
      belowCount := if below = 10 then 0 else below
      at15 := if lv = 15 then s.power.at15 + 1 else 0
      at0 := if lv = 0 then s.power.at0 + 1 else 0 } }
    let s3 :=
      if above then (if lv < 15 then s2.setLevel (lv + 1) 1 else (s2.govEvent 3).raise srcGovLimit)
      else if below = 10 && 0 < lv then s2.setLevel (lv - 1) 2 else s2
    if !s.flag base.gov GOV.CFG.POINT_EN then s3
    else if above && 10 ≤ s3.power.at15 then s3.lowerPoint (hottestQuad quads)
    else if 1000 ≤ s3.power.at0 then s3.raisePoint else s3

def execGovInterval (p100 inst : Nat) (quads : List Nat) (s : State) : Host.Outcome State Fault Refusal :=
  s.act (fun s => s.govInterval p100 inst quads)

/-- THERMAL_LEVEL_TICK: every 1 ms (R407). -/
def Dev.thermTick (s : Dev) (q : Nat) : Dev :=
  let v := s.rd base.gov (thermFld q)
  if s.rung != rungNoon then s
  else if s.therm.throttled.getLsbD q then
    if (quadSensors q).any (fun i => s.sensValid i && decide (s.throttleC + 8 ≤ s.temp i)) then s.setThermLevel q (min 15 (v + 1)) else s
  else s.setThermLevel q (v - 1)

def execThermalLevelTick (q : Fin 4) (s : State) : Host.Outcome State Fault Refusal := s.act (fun s => s.thermTick q)

/-! ### A sensor's sample and what waits for it -/

/-- SENSOR_SAMPLE. -/
def execSensorSample (sensor : Fin 80) (smp : Sample) (s : State) : Host.Outcome State Fault Refusal :=
  s.act (fun s => ((s.sensorSample sensor smp).thermalRelease).heldWake)

end Sys2Proof.Machine
end

