-- ==== Sys2Proof/Machine/HbPort.lean ====
section
/-! DEFINITION. Hatbox ports as their links and commands go (R361, R365-R367, R390-R393, R401). -/
namespace Sys2Proof.Machine

/-! ### Losing a cartridge (R390, R393) -/

/-- A read that a lost port carried goes to another port that can serve it, else a heal fails; a fault-in waits. -/
def Dev.rereadElsewhere (s : Dev) (n : Nat) (op : NvmeOp) : Dev :=
  match op with
  | .read u h =>
    match (s.hbReaders u).find? (fun m => m != n), h with
    | some m, _ => s.nvmeIssue m 6 op
    | none, some l => s.healEnd l none
    | none, none => s
  | _ => s

/-- Destages whose writes went to a port of a mode that keeps one copy are given up: the units stay dirty. -/
def Dev.dropJobs (s : Dev) (n : Nat) : Dev :=
  if s.hbMode = 1 then s
  else { s with fuller := { s.fuller with jobs := s.fuller.jobs.filter (fun j => !j.cmds.any (fun c => c.1 = n)) } }

/-- What follows once a port has changed: durability, a rebuild of a target whose source is gone, the flush, Dawn. -/
def Dev.portChanged (s : Dev) : Dev :=
  let s1 := s.evalDurability
  let s2 := s1.each ([0, 1].filter (fun m => s1.started && s1.pfPhase = pfIdle && s1.hbState m = hbResync && (s1.resyncSource m).isNone))
    (fun s m => s.rebuild m)
  s2.pfAdvance.tryEnding

/-- Commands of a port are abandoned, and a PAIR or EJECT under way ends. -/
def Dev.abandonCmds (s : Dev) (n : Nat) : Dev :=
  let h := s.hb n
  let s1 := s.upHb n (fun h => { h with cmds := [], ejecting := false, pairing := 0, resetting := false })
  let s2 := (s1.dropJobs n).each h.cmds (fun s c => s.rereadElsewhere n c.op)
  if h.ejecting || h.pairing != 0 then s2.hbCmdEnd n hbRefused else s2

/-- A cartridge is FAILED (R361, R367, R390). (DEDUCED, notes/assumptions/93.md) (DEDUCED, notes/assumptions/94.md) -/
def Dev.hbFail (s : Dev) (n : Nat) : Dev :=
  let s1 := (s.put (base.hb n) HB.STATUS.SPEED 3).setHbState n hbFailed
  ((s1.raise (srcHbFailed n)).abandonCmds n).portChanged

/-! ### Links -/

/-- A link is up or has failed: after Night, once none is outstanding, a flush whose stage 0 waited for them goes on
(R401). -/
def Dev.linksSettled (s : Dev) (n : Nat) : Dev :=
  let s1 := s.upHb n (fun h => { h with cold := false })
  let p := [0, 1].any (fun m => (s1.hb m).cold && (s1.hb m).cart.isSome)
  let s2 : Dev := { s1 with power := { s1.power with linksPending := s1.power.linksPending && p } }
  if !s2.pf.stage0Held || s2.power.linksPending then s2
  else
    let s3 : Dev := { s2 with pf := { s2.pf with stage0Held := false } }
    if s3.pfPhase = pfDrain && !s3.pf.drainWindow then s3.stage0.pfAdvance else s3

/-- The links run: not in Night's D3cold, Midnight or the safe state. -/
def Dev.linksRun (s : Dev) : Bool := s.pfPhase != pfSafe && s.rung != rungNight && s.power.crownOn

/-- HB_LINK_UP: the cartridge in the port comes into reach. A port that holds none, or whose cartridge was ejected, gets
the one that the link brings. -/
def Dev.hbLinkUp (s : Dev) (n speed : Nat) (wide usable : Bool) (cart : Cart) : Dev :=
  let st := s.hbState n
  if !s.linksRun || (st != hbAbsent && st != hbFailed && st != hbEjected) then s
  else
    let s0 := s.upHb n (fun h => { h with cart := if h.cart.isNone || st = hbEjected then some cart else h.cart })
    if !usable || speed = 3 then (s0.hbFail n).linksSettled n
    else
      let poor := speed != 0 || !wide
      let s1 := ((s0.put (base.hb n) HB.STATUS.SPEED speed).putFlag (base.hb n) HB.STATUS.DEGRADED poor).when poor (fun s => s.raise (srcHbLink n))
      if !(s1.dawnDone 6 && s1.dawnDone 7) then s1
      else (((s1.classifyPort n).linksSettled n).startResync n).portChanged

def execHbLinkUp (n : Fin 2) (speed : BitVec 2) (wide usable : Bool) (cart : Cart) (s : State) :
    Host.Outcome State Fault Refusal := s.act (fun s => s.hbLinkUp n speed.toNat wide usable cart)

/-- HB_LINK_DOWN: removal leaves the port ABSENT; any other loss leaves its cartridge FAILED (R390). -/
def Dev.hbLinkDown (s : Dev) (n : Nat) (removed : Bool) : Dev :=
  let st := s.hbState n
  if !removed then (if st = hbAbsent || st = hbEjected || st = hbFailed then s else s.hbFail n)
  else if (s.hb n).cart.isNone then s
  else
    let s1 := ((s.put (base.hb n) HB.STATUS.SPEED 3).put (base.hb n) HB.STATUS.DEGRADED 0).upHb n (fun h => { h with cart := none })
    let s2 := if st = hbAbsent then s1 else s1.setHbState n hbAbsent
    let s3 := if st = hbEjected || st = hbFailed || st = hbAbsent then s2 else s2.raise (srcHbFailed n)
    (((s3.abandonCmds n).linksSettled n).portChanged)

def execHbLinkDown (n : Fin 2) (removed : Bool) (s : State) : Host.Outcome State Fault Refusal :=
  s.act (fun s => s.hbLinkDown n removed)

/-- HB_LINK_TRAIN_TIMEOUT: a link not trained within 100 ms leaves its cartridge FAILED (R361); a port without one stays
ABSENT. -/
def Dev.hbTrainTimeout (s : Dev) (n : Nat) : Dev :=
  if !s.linksRun || s.hbState n != hbAbsent || s.hbr n HB.STATUS.SPEED != 3 || (s.hb n).cart.isNone then s
  else (s.hbFail n).linksSettled n

def execHbLinkTrainTimeout (n : Fin 2) (s : State) : Host.Outcome State Fault Refusal := s.act (fun s => s.hbTrainTimeout n)

/-! ### Commands (R363, R365, R367) -/

/-- A command leaves its port's list. -/
def Dev.hbTake (s : Dev) (n cid : Nat) : Dev :=
  s.upHb n (fun h => { h with cmds := h.cmds.filter (fun c => c.cid != cid), resetting := false })

/-- After 1 GiB of log a checkpoint is due (R381). -/
def Dev.checkpointDue (s : Dev) (n : Nat) : Dev := if 262144 ≤ (s.hb n).logSinceCkpt then s.hbCheckpoint n else s

/-- A completion of an operation. -/
def Dev.hbDone (s : Dev) (n cid : Nat) (op : NvmeOp) (ok : Bool) : Dev :=
  match op with
  | .writeUnit _ bs =>
    if ok then (s.hbAppend n bs).checkpointDue n
    else
      let keep (j : Destage) : Bool := !j.cmds.contains (n, cid)
      ({ s with fuller := { s.fuller with jobs := s.fuller.jobs.filter keep } } : Dev).count (base.hb n) HB.WRITE_ERR.COUNT
  | .writeRecord k b =>
    if ok then
      let s1 := s.hbAppend n [b]
      if k = .flushEnd then s1.hbCheckpoint n else s1.checkpointDue n
    else (s.count (base.hb n) HB.WRITE_ERR.COUNT).nvmeIssue n 7 op
  | .read u h => if ok then { s with aesLast := n } else (s.count (base.hb n) HB.READ_ERR.COUNT).rereadElsewhere n (.read u h)
  | .format => s.pairFormatted n ok
  | .resync u => if ok then s.resyncCopied n u else (s.count (base.hb n) HB.WRITE_ERR.COUNT).nvmeIssue n 8 op
  | .super => s
  | .flush => s

/-- Count event of an operation: 1 a write, 2 a read; 3 an error (R523). -/
def nvmeEvent : NvmeOp → Nat
  | .read _ _ => 2
  | _ => 1

/-- NVME_COMPLETION. -/
def Dev.nvmeCompletion (s : Dev) (n cid : Nat) (ok : Bool) : Dev :=
  match (s.hb n).cmds.find? (fun c => c.cid = cid) with
  | none => s
  | some c =>
    let s1 := ((s.hbTake n cid).perf (12 + n) c.qid (nvmeEvent c.op) 1).when (!ok) (fun s => s.perf (12 + n) c.qid 3 1)
    ((s1.hbDone n cid c.op ok).ejectEnd n).nightAdvance

def execNvmeCompletion (n : Fin 2) (cid : Nat) (ok : Bool) (s : State) : Host.Outcome State Fault Refusal :=
  s.act (fun s => s.nvmeCompletion n cid ok)

/-- The controller is reset (event 3); what it abandons is issued again. (DEDUCED, notes/assumptions/92.md) -/
def Dev.ctrlReset (s : Dev) (n : Nat) : Dev :=
  if (s.hb n).cart.isNone || s.hbState n = hbAbsent || s.hbState n = hbFailed || s.hbState n = hbEjected then s
  else
    let s1 := s.upHb n (fun h => { h with cmds := h.cmds.map (fun c => { c with aborted := false }), resetting := !h.cmds.isEmpty })
    (s1.count (base.hb n) HB.CTRL_RESET.COUNT).hbEvent n 3

/-- CONTROLLER_FATAL_STATUS: CSTS.CFS is set. -/
def execControllerFatalStatus (n : Fin 2) (s : State) : Host.Outcome State Fault Refusal := s.act (fun s => s.ctrlReset n)

/-- NVME_CMD_TIMEOUT: Abort first; then, and for a Format at once, a controller reset; a controller that does not come
back leaves its cartridge FAILED. -/
def Dev.nvmeTimeout (s : Dev) (n cid : Nat) : Dev :=
  match (s.hb n).cmds.find? (fun c => c.cid = cid) with
  | none => s
  | some c =>
    if (s.hb n).resetting then s.hbFail n
    else
      let s1 := (s.count (base.hb n) HB.CMD_TIMEOUT.COUNT).raise (srcHbTimeout n)
      if c.aborted || c.op = .format then s1.ctrlReset n
      else s1.upHb n (fun h => { h with cmds := h.cmds.map (fun x => if x.cid = cid then { x with aborted := true } else x) })

def execNvmeCmdTimeout (n : Fin 2) (cid : Nat) (s : State) : Host.Outcome State Fault Refusal :=
  s.act (fun s => s.nvmeTimeout n cid)

/-! ### Supplies (R564) -/

/-- SUPPLY_OVERVOLT: a monitor reads above its range and raises its source only. -/
def execSupplyOvervolt (rail : Fin 12) (s : State) : Host.Outcome State Fault Refusal := s.act (fun s => s.raise (srcSupply rail))

end Sys2Proof.Machine
end

