-- ==== Sys2Proof/Machine/BattCmd.lean ====
section
/-! DEFINITION. Batt commands (R61-R72): the staging buffer, VALIDATE, APPLY and APPLY_STORE, quiescing, and the step in
which the new values take effect (R43-R45, R67). -/
namespace Sys2Proof.Machine

/-! ### The staging buffer (R61, R62, R72) -/

/-- A master may access the buffer: it is free, or the master's. -/
def Dev.battOpen (s : Dev) (m : Master) : Bool := s.rd base.batt BATT.STAGE_OWNER.OWNER = 0 || s.battOwns m

/-- An access by a master that may: a free buffer becomes its own. -/
def Dev.battClaim (s : Dev) (m : Master) : Dev :=
  (s.put base.batt BATT.STAGE_OWNER.OWNER (masterCode m)).put base.batt BATT.STAGE_OWNER.NODE (masterNode m).toNat

/-- Word offset of STAGE_ADDR. -/
def Dev.stageAt (s : Dev) : Nat := s.rd base.batt BATT.STAGE_ADDR.ADDR / 4

/-- An access to STAGE_DATA: its status, the value read, and its effect. The word at ADDR moves and ADDR advances. -/
def Dev.stageData (s : Dev) (m : Master) (w : Option Word) : Nat × Word × Dev :=
  if !s.battOpen m || (s.battRuns && w.isSome) then (stBusy, 0, s)
  else
    let s1 := s.battClaim m
    let i := s1.stageAt
    let s2 : Dev := match w with
      | some v => { s1 with batt := { s1.batt with staging := s1.batt.staging.set (fun _ => 0) i v } }
      | none => s1
    (stOk, s1.batt.staging.get (fun _ => 0) i, s2.put base.batt BATT.STAGE_ADDR.ADDR (4 * (i + 1)))

/-- An access to STAGE_ADDR. Bits [1:0] read as 0. -/
def Dev.stageAddr (s : Dev) (m : Master) (w : Option Word) : Nat × Word × Dev :=
  if !s.battOpen m || (s.battRuns && w.isSome) then (stBusy, 0, s)
  else
    let s1 := s.battClaim m
    match w with
    | some v => (stOk, 0, s1.put base.batt BATT.STAGE_ADDR.ADDR (v.toNat / 4 * 4))
    | none => (stOk, s1.reg (base.batt + BATT.STAGE_ADDR.reg.off), s1)

def execBattStageData (m : Master) (write : Option (BitVec 32)) (s : State) : Host.Outcome State Fault Refusal :=
  s.act (fun s => s.owned m base.batt (fun s => (s.stageData m write).2.2))

def execBattStageAddr (m : Master) (write : Option (BitVec 32)) (s : State) : Host.Outcome State Fault Refusal :=
  s.act (fun s => s.owned m base.batt (fun s => (s.stageAddr m write).2.2))

/-- RELEASE: by the owner only. -/
def Dev.battRelease (s : Dev) (m : Master) : Dev := if s.battOwns m then s.battFree else s

def execBattRelease (m : Master) (s : State) : Host.Outcome State Fault Refusal :=
  s.act (fun s => s.owned m base.batt (fun s => s.battRelease m))

/-- BATT_STAGE_TIMEOUT: 10 s without an access by the owner. (DEDUCED, notes/assumptions/131.md) -/
def execBattStageTimeout (s : State) : Host.Outcome State Fault Refusal := s.act Dev.battFree

/-! ### Scopes (R64, R67) -/

def Scopes.codes (x : Scopes) : List Nat :=
  (if x.device then [0] else []) ++ x.quads.map (· + 1) ++ x.ports.map (· + 5) ++ (if x.hatbox then [11] else []) ++
  x.regions.map (· + 12)

/-- A destage unit has a line in a quadrant. -/
def Dev.unitInQuad (s : Dev) (u q : Nat) : Bool := (List.range 64).any (fun i => quadOf (s.place (64 * u + i)).pc = q)

/-- The dirty set has been flushed. -/
def Dev.flushed (s : Dev) : Bool := s.fuller.map.isEmpty && s.fuller.jobs.isEmpty

/-- Requests and responses in flight on a port have drained. -/
def Dev.portDrained (s : Dev) (n : Nat) : Bool :=
  let f := s.fp n
  f.replay.isEmpty && f.txq.isEmpty && f.rxq.isEmpty && (List.range 4).all (fun v => (f.sending.get (fun _ => []) v).isEmpty)

/-- A scope, by its code, is quiesced. -/
def Dev.scopeQuiet (s : Dev) (c : Nat) : Bool :=
  if c = 0 then s.flushed && (List.range 128).all (fun p => (s.pc p).empty)
  else if c ≤ 4 then
    !((s.fuller.map.map Prod.fst ++ s.fuller.jobs.map Destage.unit).any (fun u => s.unitInQuad u (c - 1))) &&
    (List.range 32).all (fun k => (s.pc (32 * (c - 1) + k)).empty)
  else if c ≤ 10 then s.portDrained (c - 5)
  else if c = 11 then s.batt.flushing.isEmpty && s.fuller.jobs.isEmpty
  else !s.fuller.mirOut.any (fun m => m.region = c - 12)

/-! ### The new values take effect (R43-R45, R67) -/

/-- Line of a Crown key under the active map. -/
def Dev.lineOfKey (s : Dev) (k : Nat) : Nat := s.lineAtPlace ⟨k / 2 ^ 24, k / 2 ^ 19 % 32, k / 2 ^ 5 % 2 ^ 14, k % 32⟩

/-- A line whose contents the Hatboxes hold. -/
def Dev.persists (s : Dev) (l : Nat) : Bool := s.lineClass l != clsVolatile && !s.inShadow l

/-- Units that have a version on some cartridge. -/
def Dev.versionUnits (s : Dev) : List Nat :=
  ([0, 1].map (fun n => (s.hbLog n).filterMap (fun b => if b.kind = kindVersion then some b.unit else none))).flatten.eraseDups

/-- A line of a unit as a reload restores it: its latest version, clean; zero where it has none. -/
def Dev.reloadedLine (s : Dev) (u i : Nat) : Content :=
  match s.hbReaders u with
  | n :: _ => match s.hbView n none u i with | some c => withMark c (epochBitsOf c) false | none => 0
  | [] => 0

/-- The Crown of a device that was `s` and is `new` with its image in force: lines that the reload re-initialises are
restored from the Hatboxes where they persist and are zero where not; the others stay (R43, R44, R67). A persisted line
whose unit no cartridge can tell keeps its codeword. (DEDUCED, notes/assumptions/130.md) -/
def Dev.reloaded (new s : Dev) (lost : Nat → Bool) : Tab Line :=
  let stays (l : Nat) : Bool := !lost l || (new.persists l && s.persists l && (new.hbReaders (l / 64)).isEmpty)
  let old := (s.crown.map (fun x => (s.lineOfKey x.1, x.2))).filter (fun x => stays x.1)
  let back := (new.versionUnits.filter (fun u => new.persists (64 * u) && !(new.hbReaders u).isEmpty)).map (fun u =>
    ((List.range 64).filter (fun i => lost (64 * u + i))).map (fun i => (64 * u + i, encodeLine (new.reloadedLine u i))))
  tabOf (fun _ => 0) ((old ++ back.flatten).map (fun x => (new.keyOf x.1, x.2)))

/-- Lines that a reload re-initialises take their new contents; what the Carder holds of them is stale (R249), and the
pseudo-channels that it re-initialises whole have INIT_DONE set (R211). -/
def Dev.reinit (new s : Dev) (lost : Nat → Bool) (pcs whole : List Nat) : Dev :=
  (({ new with crown := new.reloaded s lost } : Dev).each pcs (fun s p => s.carderStale p (fun _ => true))).initDone whole

/-- Blocks of 16 MiB whose class differs between two tables. -/
def Dev.classChanges (s new : Dev) : List Nat :=
  (List.range 8192).filter (fun b => s.lineClass (b * 2 ^ 18) != new.lineClass (b * 2 ^ 18))

/-- Units of a block of 16 MiB. -/
def blockUnits (b : Nat) : List Nat := (List.range 4096).map (· + 4096 * b)

/-- The D bits of a block's lines are cleared: a codeword with D = 1 becomes that of the line with D = 0 (R39). -/
def Dev.clearDirty (s : Dev) (b : Nat) : Dev :=
  let dirty (w : Line) : Bool := pendingOf (match decodeWith w [] with | some d => contentOf d.line | none => contentOf w)
  { s with crown := (s.crown.map (fun x =>
      (x.1, if s.lineOfKey x.1 / 2 ^ 18 = b && dirty x.2 then x.2 ^^^ encodeLine (withMark 0 0 true) else x.2))).filter (fun x => x.2 != 0) }

/-- R45 for one block of 16 MiB whose class has changed: to VOLATILE its Hatbox copies go, those of writes under way as
well, and its lines and units are clean; from
VOLATILE its units become seed units; between the persistent classes its dirty units take the new class's state.
(DEDUCED, notes/assumptions/135.md) -/
def Dev.blockReclassed (s old : Dev) (b : Nat) : Dev :=
  let was := old.lineClass (b * 2 ^ 18)
  let is := s.lineClass (b * 2 ^ 18)
  let inBlock (u : Nat) : Bool := u / 4096 = b
  if is = clsVolatile then
    let versions (bs : List Block) : List Block := bs.filter (fun x => !(x.kind = kindVersion && inBlock x.unit))
    let s1 := (s.clearDirty b).each [0, 1] (fun s n => s.upHb n (fun h => { h with
      cart := h.cart.map (fun c => { c with log := versions c.log })
      cmds := h.cmds.map (fun c => match c.op with | .writeUnit u bs => { c with op := .writeUnit u (versions bs) } | _ => c) }))
    { s1 with fuller := { s1.fuller with
      map := s1.fuller.map.filter (fun x => !inBlock x.1)
      seeds := s1.fuller.seeds.filter (fun u => !inBlock u)
      jobs := s1.fuller.jobs.filter (fun j => !inBlock j.unit)
      flushes := s1.fuller.flushes.map (fun f => { f with units := f.units.filter (fun u => !inBlock u) }) } }
  else if was = clsVolatile then
    { s with fuller := { s.fuller with seeds := sortBy (fun a b => a ≤ b) (s.fuller.seeds ++ blockUnits b) } }
  else
    let st : BitVec 2 := if is = clsEpoch then labelOf s.epochO else 1
    { s with fuller := { s.fuller with map := s.fuller.map.map (fun x => if inBlock x.1 then (x.1, st) else x) } }

/-- EPOCH regions appear or are gone: the Fuller's epochs follow; what waits for an epoch that no longer exists, a
WAIT_DURABLE as well, ends with STATE_ERR (R119). (DEDUCED, notes/assumptions/135.md) -/
def Dev.epochsFollow (s : Dev) : Dev :=
  let none := (s.regionsOf (fun c => c = clsEpoch)).isEmpty
  if none && s.epState != epNone then
    let s1 := s.fold
    let ws := s1.fuller.sealers ++ s1.fuller.deferred ++ s1.fuller.waits.map Prod.snd
    let s2 : Dev := { s1 with fuller := { s1.fuller with highest := s1.epochO, sealAt := .none, sealers := [], deferred := [], waits := [] } }
    (s2.each ws (fun s w => s.endWaiter w stStateErr 0)).setEpochs epNone 0 0 0
  else if !none && s.epState = epNone then s.openEpochs s.fuller.highest 0
  else s

/-- Region entries in force have changed. -/
def Dev.regionsReloaded (s old : Dev) (rgns : List Nat) : Dev :=
  let s1 := s.epochsFollow
  let s2 := s1.each (old.classChanges s1) (fun s b => s.blockReclassed old b)
  let s3 : Dev := { s2 with fuller := { s2.fuller with
    matched := s2.fuller.matched.filter (fun r => !rgns.contains r)
    chunks := s2.fuller.chunks.filter (fun c => !rgns.contains c.1) } }
  s3.loadMirrors.bpCheck.endFlushes

/-- Every pseudo-channel of a quadrant retrains at the new settings, seeded from its store (R67, R272). A new TSV_RATE is
a change of the point (R188): the controllers stop with their rows closed, and training waits for the PHY to report the
point, as one that R288 holds does. (DEDUCED, notes/assumptions/137.md) -/
def Dev.quadReloaded (s old : Dev) (q : Nat) : Dev :=
  let r := s.item itTsvRate q
  let ps := (List.range 32).map (fun k => 32 * q + k)
  let s0 : Dev := { s with batt := { s.batt with rejoining := s.batt.rejoining ++ [q + 1] } }
  if r = old.item itTsvRate q || r = s.point q then s0.each ps (fun s p => s.startTraining p true)
  else
    let s1 := (s0.put (base.qme q) QME.TRAIN.PENDING 0).upQme q (fun m => { m with changing := some (BitVec.ofNat 2 r) })
    s1.each ps (fun s p => ((s.calPause p).closeRows p).upPc p (fun c => { c with stopped := true, training := some ⟨true, 0, true⟩ }))

/-- A port trains at its new role and rate; a disabled one leaves the link. -/
def Dev.portReloaded (s : Dev) (n : Nat) : Dev :=
  if s.fpDisabled n then
    let s1 := (s.clearLink n).put (base.fp n) FP.STATUS.STATE fpDown
    ((s1.put (base.rport n) RPORT.NBR.HEARD 0).put (base.rport n) RPORT.NBR.MISMATCH 0).evalRoutable n
  else if s.held || !s.power.serdesOn then s
  else s.fullTrain n

/-- Members of the old mode become members of the new one, to be rebuilt from the Crown; others are foreign (R67, R374,
R392). (DEDUCED, notes/assumptions/138.md) -/
def Dev.hatboxReloaded (s : Dev) : Dev :=
  let used (n : Nat) : Bool := s.hbState n = hbResync || s.hbState n = hbInService
  let inMode (n : Nat) : Bool := s.hbMode < 2 || n = s.hbMode - 2
  let s1 := s.each [0, 1] (fun s n =>
    if used n && inMode n then
      ((s.reSuper n (fun f => { f with mode := s.hbMode, member := if s.hbMode < 2 then n else 0, synced := false })).showSuper n).setHbState n hbResync
    else if used n || s.hbState n = hbRestoreOnly then (s.setHbState n hbForeign).raise (srcHbForeign n)
    else s)
  s1.evalDurability.each ([0, 1].filter (fun n => s1.hbState n = hbResync)) (fun s n => if s.started then s.rebuild n else s)

/-- The no-image state ends: Dawn goes on with the image, and the ports are asked again (R60).
(DEDUCED, notes/assumptions/139.md) -/
def Dev.leaveNoImage (s : Dev) : Dev :=
  let ports := [0, 1].filter (fun n => s.hbState n != hbAbsent && s.hbState n != hbFailed && s.hbState n != hbEjected &&
    s.hbState n != hbPairing)
  ((if s.dawnPhase = dawnThermalWait then s else s.dawnGoing).each ports (fun s n => s.classifyPort n)).tryEnding

/-- Every register that shows the image, in one step. -/
def Dev.loadForce (s : Dev) (im : Image) : Dev :=
  (({ s with batt := { s.batt with active := some im } } : Dev).loadMap).loadUnits

/-- The image takes effect in every scope in one step; each scope then returns to service on its own. The device scope
zero-fills VOLATILE lines, and a new map re-initialises every line (R67). (DEDUCED, notes/assumptions/129.md) -/
def Dev.applyImage (s : Dev) (im : Image) : Dev :=
  let x := s.scopesOf im
  let fresh := s.batt.active.isNone
  let map := s.mapDiffers im
  let s0 := (s.put base.batt BATT.STATUS.STATE 4).when x.any (fun s => s.injCancel)
  let s1 := s0.loadForce im
  let lost (l : Nat) : Bool := map || x.quads.contains (quadOf (s1.place l).pc) || (x.device && s1.lineClass l = clsVolatile)
  let pcs := (List.range 128).filter (fun p => x.device || x.quads.contains (p / 32))
  let s2 := if fresh then s1 else s1.reinit s lost pcs (pcs.filter (fun p => map || x.quads.contains (p / 32)))
  let s3 := if x.regions.isEmpty then s2.loadMirrors else if fresh then s2.loadMirrors else s2.regionsReloaded s x.regions
  let s4 := s3.each x.quads (fun t q => t.quadReloaded s q)
  let s5 := s4.each x.ports (fun s n => s.portReloaded n)
  let s6 := if x.hatbox && !fresh then s5.hatboxReloaded else s5
  let s7 := ((s6.loadTunable.loadNode).showActive).showNextDawn.reEff
  (if fresh then s7.leaveNoImage else s7).battEnd 0

/-! ### Commands (R57, R63-R72, R520) -/

/-- What makes a command with structural changes BUSY (R69); Dawn's steps 7 to 10 count as a restore (R520), in the
no-image state steps 7 to 9. -/
def Dev.structuralBusy (s : Dev) : Bool :=
  s.restoreRuns || !s.pf.faultIns.isEmpty || s.pfPhase != pfIdle || s.rungPhase = rpExiting || s.preserving ||
  (if s.batt.active.isNone then !(s.dawnDone 7 && s.dawnDone 8 && (s.dawnDone 9 || s.held)) else s.dawnRuns)

/-- A command ends with the result, SECTION and FAIL_OFFSET that its check or a condition gives.
(DEDUCED, notes/assumptions/133.md) -/
def Dev.battFinish (s : Dev) (f : BattFail) : Dev :=
  ((s.put base.batt BATT.STATUS.SECTION f.sec).put base.batt BATT.FAIL_OFFSET.OFFSET f.off).battEnd f.code

/-- Slots whose bytes are the image in force. -/
def Dev.slotHolds (s : Dev) (k : Nat) : Bool :=
  match s.batt.active with
  | some im => toBytes (s.slotBytes k) = im.bytes
  | none => false

/-- The slot that APPLY_STORE writes (R65). -/
def Dev.storeTarget (s : Dev) : Nat :=
  let second := s.slotOrder.getD 1 1
  let ok (k : Nat) : Bool := match battCheck (s.slotBytes k) s.battCtx with | .inl _ => true | .inr _ => false
  if s.slotHolds 0 != s.slotHolds 1 then (if s.slotHolds 0 then 1 else 0)
  else if s.slotHolds 0 then second
  else if !ok 0 then 0
  else if !ok 1 then 1
  else second

/-- The scopes that differ quiesce: peers are told that a quiesced port routes no more (R177); with no scope the image takes
effect at once. -/
def Dev.startQuiesce (s : Dev) (im : Image) : Dev :=
  let cs := (s.scopesOf im).codes
  if cs.isEmpty then s.applyImage im
  else
    let s1 : Dev := { s with batt := { s.batt with
      cmd := some (im, false), quiesced := cs, began := s.order, holdForward := s.identityDiffers im
      flushing := if cs.contains 11 then s.fuller.map.map Prod.fst else [] } }
    (s1.put base.batt BATT.STATUS.STATE 3).each ((List.range 6).filter (fun n => cs.contains (5 + n))) (fun s n => s.evalRoutable n)

/-- The store begins: the slot is erased. -/
def Dev.startStore (s : Dev) (im : Image) : Dev :=
  if !s.mgmt.norUsable then s.battFinish ⟨0xA, 0, 0⟩
  else
    let k := s.storeTarget
    let s1 := s.norErase (battSlotBase k) 0x10000
    (({ s1 with batt := { s1.batt with cmd := some (im, true), storeSlot := BitVec.ofNat 1 k } } : Dev).put base.batt BATT.STATUS.STATE 5).showNextDawn

/-- A checked image goes on as its operation says. -/
def Dev.battChecked (s : Dev) (op : Nat) (im : Image) : Dev :=
  let x := s.scopesOf im
  let s1 := s.showScopes x
  if op = 0 then s1.battFinish ⟨0, 0, 0⟩
  else if (x.any && s.structuralBusy) || (s.pfPhase != pfIdle && s.pfCause = 1) then s1.battFinish ⟨9, 0, 0⟩
  else
    let s2 := (s1.put base.batt BATT.STATUS.SECTION 0).put base.batt BATT.FAIL_OFFSET.OFFSET 0
    if op = 2 then s2.startStore im else s2.startQuiesce im

/-- A command is taken. (DESIGN CHOICE, notes/assumptions/103.md) (DEDUCED, notes/assumptions/132.md) -/
def Dev.battTake (s : Dev) (op : Nat) (m : Master) : Dev :=
  let s0 : Dev := ({ s with batt := { s.batt with held := none, starter := some m } } : Dev).put base.batt BATT.CMD.GO 0
  if op = 3 then s0.battFinish ⟨6, 0, 0⟩
  else if !(s.item itBattPush 0).testBit (masterCode m - 1) then s0.battFinish ⟨0xC, 0, 0⟩
  else if !s.dawnDone 6 then s0.battFinish ⟨9, 0, 0⟩
  else
    let s1 := (s0.wakeNoon .mgmt).put base.batt BATT.STATUS.SOURCE 2
    match battCheck s.stagedBytes s.battCtx with
    | .inr f => s1.battFinish f
    | .inl im => s1.battChecked op im

/-- GO by a master that may access the buffer: it claims a free buffer; the command is held while another executes, and a
VALIDATE until the Dawn load has ended (R72, R520). -/
def Dev.battStart (s : Dev) (op : Nat) (m : Master) : Dev :=
  if !s.battOpen m then s
  else
    let s1 := (s.battClaim m).put base.batt BATT.CMD.OP op
    if s.battRuns || s.batt.held.isSome || (op = 0 && !s.dawnDone 6) then
      ({ s1 with batt := { s1.batt with held := some m } } : Dev).put base.batt BATT.CMD.GO 1
    else s1.battTake op m

/-- The GO that is held is taken once nothing holds it. (DEDUCED, notes/assumptions/134.md) -/
def Dev.battHeldGo (s : Dev) : Dev :=
  match s.batt.held with
  | some m =>
    if s.battRuns || (s.rd base.batt BATT.CMD.OP = 0 && !s.dawnDone 6) then s else s.battTake (s.rd base.batt BATT.CMD.OP) m
  | none => s

def execBattValidate (m : Master) (s : State) : Host.Outcome State Fault Refusal :=
  s.act (fun s => s.owned m base.batt (fun s => s.battStart 0 m))

def execBattApply (m : Master) (s : State) : Host.Outcome State Fault Refusal :=
  s.act (fun s => s.owned m base.batt (fun s => s.battStart 1 m))

def execBattApplyStore (m : Master) (s : State) : Host.Outcome State Fault Refusal :=
  s.act (fun s => s.owned m base.batt (fun s => s.battStart 2 m))

/-- BATT_STORE_DONE: the image stands in its slot and the scopes quiesce, or the store has failed (R65). -/
def Dev.battStored (s : Dev) (ok : Bool) : Dev :=
  match s.batt.cmd with
  | some (im, true) =>
    if !ok then s.battEnd 0xA
    else ((s.norWrite (battSlotBase s.batt.storeSlot.toNat) (im.bytes.map BitVec.toNat)).showNextDawn).startQuiesce im
  | _ => s

def execBattStoreDone (ok : Bool) (s : State) : Host.Outcome State Fault Refusal := s.act (fun s => (s.battStored ok).battHeldGo)

/-- BATT_QUIESCE_DONE: with every scope quiesced the new values take effect. -/
def Dev.battQuiesced (s : Dev) : Dev :=
  match s.batt.cmd with
  | some (im, false) => if s.batt.quiesced.all s.scopeQuiet then s.applyImage im else s
  | _ => s

def execBattQuiesceDone (s : State) : Host.Outcome State Fault Refusal := s.act (fun s => s.battQuiesced.battHeldGo)

/-! ### Rows that may end a command: a GO that it held is taken in the same step (R72, R520) -/

/-- PWRFAIL_ASSERT (R332). -/
def execPwrfailAssert (s : State) : Host.Outcome State Fault Refusal := s.act (fun s => (s.pwrfail true).battHeldGo)

/-- SUPPLY_UNDERVOLT (R564). -/
def execSupplyUndervolt (rail : Fin 12) (s : State) : Host.Outcome State Fault Refusal :=
  s.act (fun s => (s.undervolt rail).battHeldGo)

/-- TSHUT_CUT (R425). -/
def execTshutCut (sensor : Fin 80) (value : BitVec 11) (s : State) : Host.Outcome State Fault Refusal :=
  s.act (fun s => (s.tshutCut sensor value).battHeldGo)

/-- WATCHDOG_EXPIRE: PERIOD ms without a kick, while firmware is in service (R434). -/
def execWatchdogExpire (s : State) : Host.Outcome State Fault Refusal :=
  s.act (fun s => (if s.mgmt.wdtRuns then s.watchdogRestart else s).battHeldGo)

/-- BOOT_ROM_TIMEOUT: a boot ROM that has neither handed over nor reported FW_NONE within 150 ms (R434). -/
def execBootRomTimeout (s : State) : Host.Outcome State Fault Refusal :=
  s.act (fun s => (if s.coreState = coreBoot && !s.noFirmware && s.dawnDone 1 then s.watchdogRestart else s).battHeldGo)

/-- DAWN_STEP_END: with step 6 a VALIDATE held until then is taken (R520). -/
def execDawnStepEnd (k : Fin 11) (rep : StepReport) (s : State) : Host.Outcome State Fault Refusal :=
  s.act (fun s => (s.dawnStepEnd k rep).battHeldGo)

/-- Quadrants that have retrained serve again (R67), and their mirrors exchange (R41). -/
def Dev.quadsRejoin (s : Dev) : Dev :=
  let left := s.batt.rejoining.filter (fun c => !(s.trainingPcs (c - 1)).isEmpty)
  if left.length = s.batt.rejoining.length then s else ({ s with batt := { s.batt with rejoining := left } } : Dev).xchgTick

end Sys2Proof.Machine
end

