-- ==== Sys2Proof/Machine/Fault.lean ====
section
/-! DEFINITION. The fault collector (R453-R469, R573): sampling of events, reactions, the capture, ERR_N and ALERT, forced
faults. -/
namespace Sys2Proof.Machine

/-! ### Source registers -/

def Dev.srcr (s : Dev) (n : Nat) (f : Fld) : Nat := s.rd base.fault (f.at 4 n)
def Dev.srcFlag (s : Dev) (n : Nat) (f : Fld) : Bool := s.srcr n f != 0

/-- The collector runs in Noon, Dusk and Night; in Midnight and in the safe state it is off. -/
def Dev.collectorOn (s : Dev) : Bool := s.pfPhase != pfSafe

/-- The event that a source holds. -/
def Dev.heldEvent (s : Dev) (n : Nat) : Option Signal := s.coll.signals.find? (fun g => g.src = n)

/-- A source's event pair returns to rest. -/
def Dev.dropEvent (s : Dev) (n : Nat) : Dev :=
  { s with coll := { s.coll with signals := s.coll.signals.filter (fun g => g.src != n) } }

/-- A held event changes. -/
def Dev.upEvent (s : Dev) (n : Nat) (f : Signal → Signal) : Dev :=
  { s with coll := { s.coll with signals := s.coll.signals.map (fun g => if g.src = n then f g else g) } }

/-- The reaction to an event (R468). -/
def Dev.reaction (s : Dev) (g : Signal) : Nat :=
  if s.srcFlag g.src FAULT.SRC.FTEST && g.info.forced && !g.info.real then 0 else s.srcr g.src FAULT.SRC.REACT

/-- A reaction contains an action. -/
def reacts (r act : Nat) : Bool := r / act % 2 = 1

/-! ### The capture (R461-R463) -/

/-- Record bits [159:0] of an event at its time. -/
def eventRecord (g : Signal) (t : Nat) : Nat :=
  g.src + g.info.forced.toNat * 2 ^ 9 + g.info.real.toNat * 2 ^ 10 + g.info.addr.isSome.toNat * 2 ^ 11 +
  g.info.access.toNat * 2 ^ 12 + g.info.master.toNat * 2 ^ 16 + (g.info.addr.getD 0).toNat * 2 ^ 32 + t % 2 ^ 64 * 2 ^ 96

/-- Selectors of CAP_RECORD and CAP_MERGE. -/
def selCapRecord : Nat := 1
def selCapMerge : Nat := 2

/-- The capture is unhandled. -/
def Dev.unhandled (s : Dev) : Bool := s.flag base.fault FAULT.CAP0.UNHANDLED

/-- A free capture takes an event. -/
def Dev.capFill (s : Dev) (g : Signal) : Dev :=
  let i := g.info
  let s1 := ((((((s.put base.fault FAULT.CAP0.SOURCE g.src).putFlag base.fault FAULT.CAP0.FORCED i.forced).putFlag base.fault
    FAULT.CAP0.REAL i.real).putFlag base.fault FAULT.CAP0.ADDR_VALID i.addr.isSome).put base.fault FAULT.CAP0.ACCESS
    i.access.toNat).put base.fault FAULT.CAP0.UNHANDLED 1).put base.fault FAULT.CAP1.MASTER i.master.toNat
  (((s1.put base.fault FAULT.CAP1.MERGED 0).setWide base.fault selCapRecord (eventRecord g s.stamp)).setWide base.fault
    selCapMerge 0).bump base.fault FAULT.CAP0.SEQ

/-- An unhandled capture merges an event (R462). -/
def Dev.capMerge (s : Dev) (g : Signal) : Dev :=
  let m := min 0xFFFF (s.rd base.fault FAULT.CAP1.MERGED + 1)
  let old := s.wideOf base.fault selCapRecord
  let doms := bitsOf old 176 16 ||| 2 ^ srcDomain g.src
  (((s.put base.fault FAULT.CAP1.MERGED m).setWide base.fault selCapRecord (old % 2 ^ 160 + m * 2 ^ 160 + doms * 2 ^ 176)).setWide
    base.fault selCapMerge (s.wideOf base.fault selCapMerge ||| 2 ^ g.src)).bump base.fault FAULT.CAP0.SEQ

def Dev.capture (s : Dev) (g : Signal) : Dev := if s.unhandled then s.capMerge g else s.capFill g

/-! ### ERR_N and ALERT (R465, R466, R181) -/

/-- ERR_N follows its rules. -/
def Dev.errPin (s : Dev) : Dev :=
  s.putFlag base.fault FAULT.ERRN.ASSERTED (s.coll.errMin || (s.coll.errHeld && s.unhandled) || s.coll.errAon)

/-- An ALERT goes out, for the newest event and all since the last. -/
def Dev.sendAlert (s : Dev) (g : Signal) : Dev :=
  let arg := g.src + g.info.forced.toNat * 2 ^ 9 + g.info.real.toNat * 2 ^ 10 + s.unhandled.toNat * 2 ^ 11 +
    srcDomain g.src * 2 ^ 12 + min 0xFF s.coll.alertCount * 2 ^ 16
  let r : Req := ⟨0, 15, false, s.coll.alertTag, BitVec.ofNat 12 s.node, BitVec.ofNat 49 (0xFFF * 2 ^ 37), false, 0, 0,
    BitVec.ofNat 32 arg⟩
  let s1 : Dev := { s with coll := { s.coll with
    alertGap := true, alertCount := 0, alertLast := none, alertTag := s.coll.alertTag + 1 } }
  (s1.each (s1.bcastPorts none) (fun s n => s.emit n vcMgt [reqSlot opcAlert r])).count base.fault FAULT.ALERT_TX.COUNT

/-- An event with ERR_PIN: ERR_N for at least 1 us, and an ALERT unless one has gone out within 100 us.
(DEDUCED, notes/assumptions/142.md) -/
def Dev.errEvent (s : Dev) (g : Signal) : Dev :=
  let s1 : Dev := { s with coll := { s.coll with
    errMin := true, errHeld := true, alertCount := s.coll.alertCount + 1, alertLast := some g } }
  let s2 := s1.errPin
  if !s2.flag base.fault FAULT.ERRN.ALERT_EN then s2
  else if s2.coll.alertGap then s2.count base.fault FAULT.ALERT_SUPPRESSED.COUNT
  else s2.sendAlert g

/-- ALERT_TIMER: the gap has ended. -/
def Dev.alertTimer (s : Dev) : Dev :=
  match s.coll.alertLast with
  | some g =>
    if s.flag base.fault FAULT.ERRN.ALERT_EN && s.coll.alertGap then s.sendAlert g
    else { s with coll := { s.coll with alertGap := false } }
  | none => { s with coll := { s.coll with alertGap := false } }

def execAlertTimer (s : State) : Host.Outcome State Fault Refusal := s.act Dev.alertTimer

/-- ERRN_RELEASE: the minimum 1 us has passed. -/
def execErrnRelease (s : State) : Host.Outcome State Fault Refusal :=
  s.act (fun s => ({ s with coll := { s.coll with errMin := false } } : Dev).errPin)

/-! ### Reactions (R456, R457) -/

/-- A quadrant's maintenance engine restarts: windows are discarded, what its decode queues held is read again.
(DEDUCED, notes/assumptions/144.md) -/
def Dev.qmeRestart (s : Dev) (q : Nat) : Dev :=
  let ps := (List.range 32).map (fun k => 32 * q + k)
  let s1 := s.upQme q (fun m => { Qme.reset with changing := m.changing })
  s1.each ps (fun s p =>
    let again := (s.pc p).decodeQ.map InFlight.entry
    ((s.calPause p).upPc p (fun c => { c with decodeQ := [] })).each again (fun s e => s.feedL2 e))

/-- BLOCK_RESET: the unit that R456 names for a source. -/
def Dev.blockReset (s : Dev) (n : Nat) : Dev :=
  if n < 0x02A then s.coreReset.coreIbi n
  else if n < 0x140 then s.qmeRestart ((n - 0x040) / 0x40)
  else if n < 0x188 then (let p := (n - 0x140) / 0x0C; if s.fpDisabled p then s else s.portLost p)
  else s.ctrlReset ((n - 0x1A8) / 8)

/-- CHIP_RESET: the journal is written out, the source recorded, and the chip resets as RESET_N does.
(DEDUCED, notes/assumptions/143.md) -/
def Dev.faultReset (s : Dev) (n : Nat) : Dev :=
  let s1 := s.journalFlush
  let s2 := (s1.put base.fault FAULT.RESET_SRC.SOURCE n).put base.fault FAULT.RESET_SRC.VALID 1
  s2.chipReset.dawnBegin s.mgmt.straps

/-- The core has firmware in service: INT and TRAP are delivered to it (R459). -/
def Dev.trap (s : Dev) (n : Nat) : Dev :=
  if s.coreState = coreRuns then s
  else { s with mgmt := { s.mgmt with trapPending := s.mgmt.trapPending ++ [n] } }

/-- An event's reaction is applied, and it fills or merges into the capture. -/
def Dev.react (s : Dev) (g : Signal) (r : Nat) : Dev :=
  if r = 0 then s
  else
    let s1 := (s.capture g).wakeNoon .internal
    let s2 := if reacts r actInt then
        let x := s1.put base.fault FAULT.CAP0.INT_PENDING 1
        x.ibi 1 g.src (x.rd base.fault FAULT.CAP0.SEQ)
      else s1
    let s3 := if reacts r actTrap then s2.trap g.src else s2
    let s4 := if reacts r actErrPin then s3.errEvent g else s3
    let s5 := if reacts r actBlockReset && srcHasBlockReset g.src then s4.blockReset g.src else s4
    if reacts r actChipReset then s5.faultReset g.src else s5

/-- The journal record of an event (R448, R457). -/
def Dev.journalEvent (s : Dev) (g : Signal) : Dev := s.journal 1 g.src (BitVec.ofNat 256 (eventRecord g s.stamp))

/-- The collector samples an event: record, COUNT, reaction. An event that was not forced ends; a forced one holds its pair
until FORCED_EVENT_END. -/
def Dev.sample (s : Dev) (g : Signal) : Dev :=
  let r := s.reaction g
  let s1 := if g.info.forced && g.info.addr.isNone then s.upEvent g.src (fun x => { x with sampled := true, escalated := x.info.real })
    else s.dropEvent g.src
  (((s1.journalEvent g).count base.fault (FAULT.SRC.COUNT.at 4 g.src))).react g r

/-- The qualifier of a held forced event turns real (R469). -/
def Dev.escalate (s : Dev) (n : Nat) : Dev :=
  match s.heldEvent n with
  | none => s
  | some g =>
    let g1 : Signal := { g with info := { g.info with real := true } }
    if !g.info.forced || g.escalated then s
    else if !g.sampled then s.upEvent n (fun _ => g1)
    else
      let s1 := s.upEvent n (fun _ => { g1 with escalated := true })
      if s.srcFlag n FAULT.SRC.FTEST then (s1.journalEvent g1).react g1 (s.srcr n FAULT.SRC.REACT) else s1

/-- FAULT_EVENT: a source's event is sampled. `external`: an event that only the hardware's own checkers see. A source that
is not implemented, or whose pairs are ignored after an integrity fault, has none. -/
def Dev.faultEvent (s : Dev) (n : Nat) (external : Option FaultInfo) : Dev :=
  if !srcImpl n then s
  else if !s.collectorOn || s.srcFlag n FAULT.SRC.INTEGRITY then s.dropEvent n
  else
    let s1 := match external with | some i => s.signal n i | none => s
    match s1.heldEvent n with
    | none => s1
    | some g => if g.sampled then (if g.info.real then s1.escalate n else s1) else s1.sample g

def execFaultEvent (src : Fin 512) (external : Option FaultInfo) (s : State) : Host.Outcome State Fault Refusal :=
  s.act (fun s => s.faultEvent src external)

/-! ### Integrity faults (R455) -/

/-- FAULT_INTEGRITY: COLLECTOR_INTEGRITY is raised once, and the source is ignored.
(DEDUCED, notes/assumptions/141.md) -/
def Dev.integrity (s : Dev) (n : Nat) : Dev :=
  if !srcImpl n || s.srcFlag n FAULT.SRC.INTEGRITY || !s.collectorOn then s
  else
    let s1 := (((s.putFlag base.fault (FAULT.SRC.INTEGRITY.at 4 n) true).dropEvent n).put base.fault (FAULT.SRC.FORCE.at 4 n) 0).count
      base.fault FAULT.INTEGRITY.COUNT
    s1.signal srcCollector ⟨false, true, none, 0, BitVec.ofNat 16 (0xC000 + n)⟩

def execFaultIntegrity (src : Fin 512) (s : State) : Host.Outcome State Fault Refusal := s.act (fun s => s.integrity src)

/-- INTEGRITY_RECOVER: both pairs have read legal values for 1 ms. -/
def execIntegrityRecover (src : Fin 512) (s : State) : Host.Outcome State Fault Refusal :=
  s.act (fun s => s.put base.fault (FAULT.SRC.INTEGRITY.at 4 src) 0)

/-! ### Forced faults (R467) -/

/-- FAULT_FORCE: the source signals one event without a real condition. -/
def Dev.force (s : Dev) (n : Nat) : Dev :=
  let s1 := s.put base.fault (FAULT.SRC.FORCE.at 4 n) 0
  if !srcImpl n then s
  else if s.srcFlag n FAULT.SRC.INTEGRITY || !s.collectorOn then s1
  else
    match s1.heldEvent n with
    | some g => if g.info.forced then s1 else s1.upEvent n (fun g => { g with info := { g.info with forced := true } })
    | none => s1.signal n ⟨true, false, none, 0, 0⟩

def execFaultForce (src : Fin 512) (s : State) : Host.Outcome State Fault Refusal := s.act (fun s => s.force src)

/-- FORCED_EVENT_END: the 1 us hold is over; what the collector has not sampled yet it samples first. -/
def Dev.forcedEnd (s : Dev) (n : Nat) : Dev :=
  match s.heldEvent n with
  | none => s
  | some g =>
    if !g.info.forced then s
    else
      let s1 := if g.sampled then (if g.info.real && !g.escalated then s.escalate n else s) else s.faultEvent n none
      s1.dropEvent n

def execForcedEventEnd (src : Fin 512) (s : State) : Host.Outcome State Fault Refusal := s.act (fun s => s.forcedEnd src)

def execFaultEscalate (src : Fin 512) (s : State) : Host.Outcome State Fault Refusal := s.act (fun s => s.escalate src)

/-! ### Handling (R463) -/

/-- A write of CAP0: a matching write-back of SEQ frees the capture, clears INT_PENDING and releases ERR_N.
(DEDUCED, notes/assumptions/128.md) -/
def Dev.handle (s : Dev) (v : Nat) : Dev :=
  if v != s.rd base.fault FAULT.CAP0.SEQ then s
  else
    let s1 := (s.put base.fault FAULT.CAP0.UNHANDLED 0).put base.fault FAULT.CAP0.INT_PENDING 0
    ({ s1 with coll := { s1.coll with errHeld := false } } : Dev).errPin

def execCaptureHandle (m : Master) (v : BitVec 32) (s : State) : Host.Outcome State Fault Refusal :=
  s.act (fun s => s.owned m base.fault (fun s => s.handle (v.toNat % 256)))

end Sys2Proof.Machine
end

