-- ==== Sys2Proof/Machine/Bist.lean ====
section
/-! DEFINITION. Self-test (R472-R485), scan and secrets (R486-R489), and the JTAG instructions (R490, R491) but for
MGMT_ACCESS. -/
namespace Sys2Proof.Machine

/-! ### Starting and refusing (R472, R473, R484) -/

/-- Both conditions of R473 hold. -/
def condOk (c : Conditions) : Bool := c.qclkInRange && c.suppliesInRange

/-- A GO with a KIND is taken. -/
def Dev.bistTake (s : Dev) (kind : Nat) : Dev := (s.put base.bist BIST.CMD.GO 0).put base.bist BIST.CMD.KIND kind

/-- A GO is held while a run of its KIND is in progress. -/
def Dev.bistHold (s : Dev) (kind : Nat) (c : Conditions) : Dev :=
  (({ s with bistWait := some (kind, c) } : Dev).put base.bist BIST.CMD.KIND kind).put base.bist BIST.CMD.GO 1

/-- A run begins. -/
def Dev.bistBegin (s : Dev) (kind : Nat) : Dev :=
  ((s.put base.bist BIST.STATUS.STATE 1).put base.bist BIST.STATUS.KIND kind).count base.bist BIST.RUNS.COUNT

/-- A run that does not begin ends at once. -/
def Dev.bistRefuse (s : Dev) (kind result : Nat) : Dev := s.bistEnd kind result 0 s.now

/-! ### Interconnect BIST (R474, R475) -/

/-- TSV lanes that a pass covers: ten data lanes and the spare of each live die pair of a pseudo-channel in service. -/
def Dev.tsvCovered (s : Dev) (p pair : Nat) : Bool := s.pcServes p && s.pairLive p pair

/-- A receive direction that a pass covers: the port is ACTIVE and its spare neither in REPLACE nor FAILED. -/
def Dev.fabricCovered (s : Dev) (n : Nat) : Bool := s.fpState n = fpActive && s.rd (base.fp n) FP.STATUS.RX_SPARE < 2

def Dev.pcieCovered (s : Dev) (n : Nat) : Bool := s.hbState n = hbInService || s.hbState n = hbResync

/-- COVER of a pass: per cent of 5,702 lanes. -/
def Dev.icCover (s : Dev) : Nat :=
  let tsv := ((List.range 128).map (fun p => 11 * ((List.range 4).filter (fun x => s.tsvCovered p x)).length)).sum
  let fab := 9 * ((List.range 6).filter s.fabricCovered).length
  let pcie := 8 * ((List.range 2).filter s.pcieCovered).length
  100 * (tsv + fab + pcie) / 5702

/-- A pass starts, in Noon. -/
def Dev.icBegin (s : Dev) (c : Conditions) : Dev :=
  if s.rung != rungNoon || s.dawnPhase != dawnReady || s.pfPhase != pfIdle then s.bistRefuse 0 bistRefused
  else if !condOk c then s.bistRefuse 0 bistRefusedCond
  else ({ s with icStart := some s.now } : Dev).bistBegin 0

/-- BIST_INTERCONNECT: GO with KIND INTERCONNECT, held while a pass is in progress. -/
def Dev.bistInterconnect (s : Dev) (c : Conditions) : Dev :=
  if s.icStart.isSome then s.bistHold 0 c else (s.bistTake 0).icBegin c

def execBistInterconnect (cond : Conditions) (s : State) : Host.Outcome State Fault Refusal := s.act (fun s => s.bistInterconnect cond)

/-- IC_PASS_TIMER: every IC_PERIOD seconds with IC_EN = 1; only where the pass may run. -/
def Dev.icTimer (s : Dev) (c : Conditions) : Dev :=
  if !s.flag base.bist BIST.CFG.IC_EN || s.icStart.isSome || s.rung != rungNoon || s.dawnPhase != dawnReady || s.pfPhase != pfIdle
  then s else s.icBegin c

def execIcPassTimer (cond : Conditions) (s : State) : Host.Outcome State Fault Refusal := s.act (fun s => s.icTimer cond)

/-- A covered lane that a pass finds failing (R474). -/
def Dev.icLane (s : Dev) (x : LaneFault) : Bool × Dev :=
  match x with
  | .tsv p l =>
    let pair := pairOf l
    if !s.tsvCovered p pair then (false, s)
    else (true, if l.val < 40 then s.failLane p l 3 else s.spareFailed p pair)
  | .fabric n pl => if s.fabricCovered n then (true, s.laneFail n pl) else (false, s)
  | .pcie n => (s.pcieCovered n, s)

/-- INTERCONNECT_PASS_END. -/
def Dev.icEnd (s : Dev) (failing : List LaneFault) : Dev :=
  match s.icStart with
  | none => s
  | some t =>
    let cover := s.icCover
    let r := failing.foldl (fun (a : Bool × Dev) x => let y := a.2.icLane x; (a.1 || y.1, y.2)) (false, s)
    ({ r.2 with icStart := none } : Dev).bistEnd 0 (if r.1 then bistFailed else bistPass) cover t

/-! ### Analogue BIST (R476-R478) -/

/-- Analogue BIST may run: before fabric discovery, in recovery before restore start, or in test hold. -/
def Dev.analogAllowed (s : Dev) : Bool :=
  if s.rungPhase = rpExiting then s.rstPhase = 0 || s.rstPhase = 1
  else s.dawnLive && !s.dawnDone 10 && (if s.held then s.otp.lifecycle ≤ 1 else !(s.dawnDone 4 && s.dawnDone 6))

/-- BIST_ANALOG: items 0 to 3 at once; item 4, the audit, starts with them. -/
def Dev.bistAnalog (s : Dev) (c : Conditions) (bits : Nat) (lanes sensors : List Nat) : Dev :=
  let s0 := s.bistTake 1
  if !s.analogAllowed then s0.bistRefuse 1 bistRefused
  else if !condOk c then s0.bistRefuse 1 bistRefusedCond
  else
    let s1 := (s0.bistBegin 1).analogFail bits lanes sensors
    let s2 := if s1.pf.auditing then s1 else s1.auditStart
    let s3 := (s2.put base.bist BIST.STATUS.KIND 1).put base.bist BIST.DETAIL.COVER 100
    let r := if bits % 16 = 0 then bistPass else bistFailed
    let s4 := ((s3.put base.bist BIST.STATUS.STATE 0).put base.bist BIST.STATUS.RESULT r).put base.bist BIST.DETAIL.DURATION 0
    let s5 := s4.bump base.bist BIST.STATUS.SEQ
    s5.journal (Config.journalClass base.bist) r (BitVec.zeroExtend 256 (s5.reg (base.bist + 0x10) ++ s5.reg (base.bist + 0xC) ++ s5.reg (base.bist + 0x4)))

def execBistAnalog (cond : Conditions) (failing : BitVec 4) (lanes : List (Fin 54)) (sensors : List (Fin 80)) (s : State) :
    Host.Outcome State Fault Refusal :=
  s.act (fun s => s.bistAnalog cond failing.toNat (lanes.map Fin.val) (sensors.map Fin.val))

/-! ### Array BIST (R479-R483) -/

/-- Something that an array BIST with PRESERVE must not meet is in progress. -/
def Dev.arrayBusy (s : Dev) : Bool :=
  s.nonDurable || s.battRuns || s.pfPhase != pfIdle || s.restoreRuns || s.rungPhase != rpSteady

/-- BIST_ARRAY. Without PRESERVE the pseudo-channel must be OUT and free; the test starts at once. -/
def Dev.bistArray (s : Dev) (c : Conditions) : Dev :=
  if s.bist.isSome then s.bistHold 2 c
  else
    let s0 := s.bistTake 2
    let p := s.rd base.bist BIST.CMD.PC
    let keep := s.flag base.bist BIST.CMD.PRESERVE
    let run : BistRun := ⟨true, p, keep, s.flag base.bist BIST.CMD.TEST, if keep then 1 else 3, false, false, false, s.now⟩
    if keep then
      if s.rung != rungNoon || s.pcState p != pcServing then s0.bistRefuse 2 bistRefused
      else if s.arrayBusy then s0.bistRefuse 2 bistBusy
      else if !condOk c then s0.bistRefuse 2 bistRefusedCond
      else (({ s0 with bist := some run } : Dev).bistBegin 2).takeOut p
    else if s.pcState p = pcServing then s0.bistRefuse 2 bistBusy
    else if s.pcState p != pcOut || (s.pc p).training.isSome then s0.bistRefuse 2 bistRefused
    else if !condOk c then s0.bistRefuse 2 bistRefusedCond
    else ({ s0 with bist := some run } : Dev).bistBegin 2

def execBistArray (cond : Conditions) (s : State) : Host.Outcome State Fault Refusal := s.act (fun s => s.bistArray cond)

/-- A held GO is taken once the run of its KIND has ended. -/
def Dev.bistHeldGo (s : Dev) : Dev :=
  match s.bistWait with
  | none => s
  | some (kind, c) =>
    if kind = 0 then (if s.icStart.isSome then s else ({ s with bistWait := none } : Dev).bistInterconnect c)
    else if s.bist.isSome then s
    else ({ s with bistWait := none } : Dev).bistArray c

def execInterconnectPassEnd (failing : List LaneFault) (s : State) : Host.Outcome State Fault Refusal :=
  s.act (fun s => (s.icEnd failing).bistHeldGo)

/-- The run goes to a step. -/
def Dev.bistGoto (s : Dev) (r : BistRun) (step : Nat) : Dev :=
  ({ s with bist := some { r with step := step } } : Dev).put base.bist BIST.STATUS.STATE (bistStateOf step)

/-- Lines of a unit that a pseudo-channel holds, by their place in the unit. -/
def Dev.unitLinesOn (s : Dev) (p u : Nat) : List Nat := (List.range 64).filter (fun i => (s.place (64 * u + i)).pc = p)

/-- Units that hold a line of a pseudo-channel. -/
def Dev.unitsOn (s : Dev) (p : Nat) : List Nat := (List.range (2 ^ 25)).filter (fun u => !(s.unitLinesOn p u).isEmpty)

/-- What the save finds in a line: its content; of a line that cannot be corrected, its version on a cartridge where the unit
is clean (R244), else poison. (DEDUCED, notes/assumptions/147.md) -/
def Dev.savedContent (s : Dev) (u i : Nat) : Content :=
  match decodeWith (s.lineAt (s.keyOf (64 * u + i))) [] with
  | some d => contentOf d.line
  | none =>
    match if s.unitState u = 0 then (s.hbReaders u).head?.bind (fun n => s.hbView n none u i) else none with
    | some c => c
    | none => s.poisoned (64 * u + i)

/-- One unit is saved (step 2): a VERSION block with each of the pseudo-channel's lines, whose D is cleared. -/
def Dev.saveUnit (s : Dev) (p u : Nat) : Dev :=
  let is := s.unitLinesOn p u
  let content := s.savedContent u
  let b := mkBlock u s.blockEpoch (is.map (fun i => (i, s.lineCode u (content i), withMark (content i) (epochBitsOf (content i)) false)))
  let s1 := s.each (s.hbWriters u) (fun s n => s.hbAppend n [b])
  let s2 := s1.each is (fun s i => s.setLine (s.keyOf (64 * u + i)) (encodeLine (withMark (content i) (epochBitsOf (content i)) false)))
  let rest := (List.range 64).any (fun i => !is.contains i && s2.stillDirty ⟨u, s.order, [], [], 0, [], true⟩ (64 * u + i))
  if s.unitState u = 0 || rest then s2 else (s2.setUnitState u 0).afterDurable u s.order

/-- Candidate of a failing cell (R480): its column where enough rows of the COL position fail, else its row. -/
def Dev.cellCandidate (s : Dev) (p : Nat) (all : List FailCell) (x : FailCell) : Candidate :=
  let d := 8 * tierOf p + x.die
  let rows := ((all.filter (fun y => y.die = x.die && y.bank = x.bank && y.col = x.col)).map FailCell.row).eraseDups
  if max 1 (s.rd base.ecc ECC.CFG.COL_STRIKES) ≤ rows.length then ⟨d, p, x.bank, true, x.col.toNat⟩
  else ⟨d, p, x.bank, false, x.row.toNat⟩

/-- The pseudo-channel's lines read as zero (R26); what the Carder holds of them is stale (R249). -/
def Dev.zeroPc (s : Dev) (p : Nat) : Dev :=
  ({ s with crown := s.crown.filter (fun x => x.1 / 2 ^ 24 != p) } : Dev).carderStale p (fun _ => true)

/-- Step 4: each line is written with its latest version, or poisoned where none can be read; without a complete save the
lines are zero. -/
def Dev.restoreSaved (s : Dev) (r : BistRun) : Dev :=
  if !(r.preserve && r.saved) then s.zeroPc r.pc
  else
    s.each (s.unitsOn r.pc) (fun s u =>
      s.each (s.unitLinesOn r.pc u) (fun s i =>
        match s.hbReaders u with
        | n :: _ =>
          let c := (s.hbView n none u i).getD 0
          s.setLine (s.keyOf (64 * u + i)) (encodeLine (withMark c (epochBitsOf c) false))
        | [] =>
          let s1 := s.setLine (s.keyOf (64 * u + i)) (encodeLine (s.poisoned (64 * u + i)))
          ((s1.dirtyUnit (64 * u + i) s1.epochO).count base.pf PF.RESTORE_POISON.COUNT).raise srcRestorePoison))

/-- The run ends: every line is restored or zero, and INIT_DONE is set (R211); a run with PRESERVE rejoins (step 5).
(DEDUCED, notes/assumptions/146.md) -/
def Dev.bistFinish (s : Dev) (r : BistRun) : Dev :=
  let s1 := ({ s with bist := none } : Dev).upPc r.pc (fun c => { c with bistHeld := false })
  let s2 := (s1.put (base.pc r.pc) PC.SVC.INIT_DONE 1).when r.preserve (fun s => s.rejoin r.pc)
  s2.bistEnd 2 (if r.aborted then bistAborted else if r.failed then bistFailed else bistPass) (if r.aborted then 0 else 100) r.startedAt

/-- BIST_STEP_DONE: the step under way has ended. (DESIGN CHOICE, notes/assumptions/147.md) -/
def Dev.bistStep (s : Dev) (failing : List FailCell) : Dev :=
  match s.bist with
  | none => s
  | some r =>
    if r.step = 1 then (if s.pcState r.pc = pcOut then s.bistGoto r 2 else s)
    else if r.step = 2 then
      let s1 := s.each (s.unitsOn r.pc) (fun s u => s.saveUnit r.pc u)
      (s1.upPc r.pc (fun c => { c with bistHeld := true })).bistGoto { r with saved := true } 3
    else if r.step = 3 then
      let s1 := s.each failing (fun s x => s.candidate (s.cellCandidate r.pc failing x))
      (s1.zeroPc r.pc).bistGoto { r with failed := !failing.isEmpty } 4
    else if r.step = 4 then (s.restoreSaved r).bistFinish r
    else s

def execBistStepDone (failing : List FailCell) (s : State) : Host.Outcome State Fault Refusal := s.act (fun s => (s.bistStep failing).bistHeldGo)

/-- Steps 2 and 3 end and the run goes to its restore. -/
def Dev.bistCut (s : Dev) : Dev :=
  match s.bist with
  | some r => if r.step = 2 || r.step = 3 then s.bistGoto { r with aborted := true } 4 else s
  | none => s

/-- BIST_ABORT: ABORT in CMD. -/
def execBistAbort (s : State) : Host.Outcome State Fault Refusal := s.act (fun s => (s.put base.bist BIST.CMD.ABORT 0).bistCut)

/-- An array run whose check fails: its restore still runs; one that has only taken the pseudo-channel out gives it back.
(DEDUCED, notes/assumptions/108.md) -/
def Dev.arrayAborted (s : Dev) : Dev :=
  match s.bist with
  | none => s
  | some r =>
    if r.aborted then s
    else
      let s1 := s.raise srcBistRefused
      if r.step = 1 then
        let s2 : Dev := { s1 with bist := none }
        (if s2.pcServes r.pc then s2 else s2.setPcState r.pc pcServing).bistEnd 2 bistAborted 0 r.startedAt
      else if r.step = 4 then { s1 with bist := some { r with aborted := true } }
      else s1.bistCut

/-- BIST_COND_CHECK (R473): a run whose conditions fail stops with ABORTED. -/
def Dev.condCheck (s : Dev) (c : Conditions) : Dev :=
  if condOk c then s
  else
    let s1 := match s.icStart with
      | some t => (({ s with icStart := none } : Dev).bistEnd 0 bistAborted 0 t).raise srcBistRefused
      | none => s
    s1.arrayAborted

def execBistCondCheck (cond : Conditions) (s : State) : Host.Outcome State Fault Refusal := s.act (fun s => (s.condCheck cond).bistHeldGo)

/-- GO in BIST.CTL.CMD through the register interface: KIND 3 ends with REFUSED; another KIND waits for its run to be
taken, which brings the conditions of R473. -/
def Dev.bistCmd (s : Dev) : Dev :=
  if s.rd base.bist BIST.CMD.KIND = 3 then (s.put base.bist BIST.CMD.GO 0).bistRefuse 3 bistRefused else s

/-! ### Scan and secrets (R486-R488) -/

/-- SCAN_ENTER is permitted: under Policy A alone in every lifecycle state, else in RAW, TEST and RETURNED. -/
def Dev.scanOk (s : Dev) : Bool := s.otp.policy = 1 || s.otp.lifecycle ≤ 1 || s.otp.lifecycle = 4

/-- The policy requires that secrets are cleared first. -/
def Dev.scanClears (s : Dev) : Bool := s.otp.policy != 2

/-- A source's event that is recorded at once. -/
def Dev.raiseNow (s : Dev) (n : Nat) : Dev := (s.raise n).faultEvent n none

/-- Every volatile copy of the secrets is overwritten: keys, the core's memory, the staging buffer (R487). -/
def Dev.clearSecrets (s : Dev) : Dev :=
  ({ s with mgmt := { s.mgmt with secrets := false }, batt := { s.batt with staging := [] } } : Dev).raiseNow srcSecretClear

/-- A permitted SCAN_ENTER (R488): the record, the secrets, the supplies as at Tshut, scan. `cleared`: the overwriting
verified. The session ends as a lost flush; only a chip reset leaves scan. (DEDUCED, notes/assumptions/148.md) -/
def Dev.scanEnter (s : Dev) (ir : BitVec 8) (cleared : Bool) : Dev :=
  if !s.scanOk then (s.jtagLoad 0xFF 0).raise srcBistRefused
  else
    let s1 := (s.jtagLoad ir 0).raiseNow srcScanEntry
    let s2 := s1.journalFlush
    let s3 := if s2.scanClears then s2.clearSecrets else s2
    if s2.scanClears && !cleared then s3.jtagLoad 0xFF 0
    else
      let s4 := s3.supplyCut
      ({ s4 with mgmt := { s4.mgmt with scan := true } } : Dev).setDawnPhase dawnStopped

def execScanEnter (cleared : Bool) (s : State) : Host.Outcome State Fault Refusal := s.act (fun s => (s.scanEnter 0x30 cleared).battHeldGo)

/-! ### JTAG (R490, R491) -/

/-- The instruction register holds BYPASS. -/
def Dev.jtagBypass (s : Dev) : Dev := ({ s with mgmt := { s.mgmt with jtagDr := 0 } } : Dev).jtagLoad 0xFF 0

/-- An instruction that needs Dawn held, which otherwise acts as BYPASS (DESIGN CHOICE, notes/assumptions/33.md). The data
register captures the pins, a free value. (DESIGN CHOICE, notes/assumptions/165.md) -/
def Dev.jtagHeld (s : Dev) (ir : BitVec 8) : Dev :=
  if !s.held then s.jtagBypass
  else
    let f := s.freeValue
    ({ f.2 with mgmt := { f.2.mgmt with jtagDr := f.1 } } : Dev).jtagLoad ir ir

def execExtest (s : State) : Host.Outcome State Fault Refusal := s.act (fun s => s.jtagHeld 0x00)
def execExtestPulse (s : State) : Host.Outcome State Fault Refusal := s.act (fun s => s.jtagHeld 0x03)
def execExtestTrain (s : State) : Host.Outcome State Fault Refusal := s.act (fun s => s.jtagHeld 0x04)
def execClamp (s : State) : Host.Outcome State Fault Refusal := s.act (fun s => s.jtagHeld 0x05)
def execHighz (s : State) : Host.Outcome State Fault Refusal := s.act (fun s => s.jtagHeld 0x06)
def execBypass (s : State) : Host.Outcome State Fault Refusal := s.act Dev.jtagBypass

/-- IDCODE: version 1, part 0x0016, manufacturer 0x3A6. -/
def execIdcode (s : State) : Host.Outcome State Fault Refusal :=
  s.act (fun s => ({ s with mgmt := { s.mgmt with jtagDr := 0x1001674D } } : Dev).jtagLoad 0x01 0)

/-- SAMPLE/PRELOAD: the data register captures the pins, a free value; the pins keep their function. -/
def execSamplePreload (s : State) : Host.Outcome State Fault Refusal :=
  s.act (fun s => let f := s.freeValue; ({ f.2 with mgmt := { f.2.mgmt with jtagDr := f.1 } } : Dev).jtagLoad 0x02 0)

/-- STACK_SEL: the die-select register, while the Crown is powered. -/
def Dev.stackSel (s : Dev) (dies : BitVec 16) : Dev :=
  if s.power.crownOn then ({ s with mgmt := { s.mgmt with dieSelect := dies } } : Dev).jtagLoad 0x20 0 else s.jtagBypass

def execStackSel (dies : BitVec 16) (s : State) : Host.Outcome State Fault Refusal := s.act (fun s => s.stackSel dies)

/-- WRAP_SEL: WS_BYPASS always; every other wrapper instruction as SCAN_ENTER. -/
def Dev.wrapSel (s : Dev) (core : Nat) (wsBypass cleared : Bool) : Dev :=
  let s1 : Dev := { s with mgmt := { s.mgmt with wrapCore := core } }
  if wsBypass then s1.jtagLoad 0x21 0 else (s1.scanEnter 0x21 cleared).battHeldGo

def execWrapSel (core : Nat) (wsBypass cleared : Bool) (s : State) : Host.Outcome State Fault Refusal :=
  s.act (fun s => s.wrapSel core wsBypass cleared)

end Sys2Proof.Machine
end

