-- ==== Sys2Proof/Machine/Perf.lean ====
section
/-! DEFINITION. Performance counters: snapshots, loads, overflow bits and selections (R521-R534); the counters' cycle
events are in Machine/Ops.lean and Machine/Tick.lean. The trace ring (R558) and the start of a DBG line read (R556). -/
namespace Sys2Proof.Machine

/-- Number of a unit in the order of R541. -/
def perfIndex : PerfUnit → Nat
  | .quad q => q
  | .fp n => 4 + n
  | .xbar => 10
  | .fuller => 11
  | .hb n => 12 + n

/-- Selector of SNAPSHOT. -/
def selSnapshot : Nat := 0x10

/-- OVF as STATUS shows it. -/
def Dev.perfOvf (s : Dev) (u : Nat) : Nat := s.rd (base.perf u) PERF.STATUS.OVF

/-- SNAPSHOT of the counters as they stand (R529). -/
def Dev.snapshotOf (s : Dev) (u : Nat) : Nat :=
  (List.range 9).foldl (fun a k => a + s.wideOf (base.perf u) (1 + k) * 2 ^ (48 * k)) 0 + s.perfOvf u * 2 ^ 432

/-- SNAP: the unit's snapshot is replaced, event 1 (R529). -/
def Dev.perfSnap (s : Dev) (u : Nat) : Dev :=
  ((s.setWide (base.perf u) selSnapshot (s.snapshotOf u)).put (base.perf u) PERF.CTL.SNAP 0).post (base.perf u)
    PERF.STATUS.SEQ PERF.STATUS.EVENT 1

def execPerfSnap (u : PerfUnit) (s : State) : Host.Outcome State Fault Refusal := s.act (fun s => s.perfSnap (perfIndex u))

/-- SNAP_ALL: every unit and every SLOTS tally (R529). -/
def Dev.perfSnapAll (s : Dev) : Dev :=
  let s1 := (s.put base.pglobal PGLOBAL.CTL.SNAP_ALL 0).each (List.range 14) Dev.perfSnap
  s1.each (List.range 128) (fun s p => s.setWide (base.pc p) selSlotsSnap (s.wideOf (base.pc p) selSlots))

def execPerfSnapAll (s : State) : Host.Outcome State Fault Refusal := s.act Dev.perfSnapAll

/-- OVF_CLR: the OVF bits that a mask names are cleared; bit 0 the cycle counter, bit 1 + k CNTk (R527). -/
def Dev.ovfClear (s : Dev) (u bits : Nat) : Dev :=
  s.put (base.perf u) PERF.STATUS.OVF (s.perfOvf u &&& (0x1FF ^^^ bits % 512))

def execPerfOvfClr (u : PerfUnit) (bits : BitVec 9) (s : State) : Host.Outcome State Fault Refusal :=
  s.act (fun s => s.ovfClear (perfIndex u) bits.toNat)

/-- A load of the counter of a selector (1 the cycle counter, 2 + k CNTk) clears its OVF bit (R528). -/
def Dev.perfLoad (s : Dev) (u sel v : Nat) : Dev :=
  (s.setWide (base.perf u) sel (v % 2 ^ 48)).ovfClear u (2 ^ (sel - 1))

/-- CLEAR: nine loads of 0. -/
def Dev.perfClear (s : Dev) (u : Nat) : Dev :=
  (s.put (base.perf u) PERF.CTL.CLEAR 0).each (List.range 9) (fun s k => s.perfLoad u (1 + k) 0)

def execPerfClear (u : PerfUnit) (s : State) : Host.Outcome State Fault Refusal := s.act (fun s => s.perfClear (perfIndex u))

/-- EVSEL takes the value written; the counter keeps its value (R526). -/
def Dev.evsel (s : Dev) (u k : Nat) (v : Word) : Dev := s.setReg (base.perf u + PERF.EVSEL.EVENT.off + 4 * k) v

def execEvselWrite (u : PerfUnit) (k : Fin 8) (v : BitVec 32) (s : State) : Host.Outcome State Fault Refusal :=
  s.act (fun s => s.evsel (perfIndex u) k v)

/-- A load of SLOTS sets all four counts and clears their OVF bits (R534). -/
def Dev.slotsLoad (s : Dev) (p v : Nat) : Dev := s.setWide (base.pc p) selSlots (v % 2 ^ 192)

/-- RESET: both pointers 0 and OVF cleared; no entry is left unread (R558). -/
def Dev.traceReset (s : Dev) : Dev :=
  let s1 := (s.put base.trace TRACE.STATUS.WPTR 0).put base.trace TRACE.STATUS.RPTR 0
  { (s1.put base.trace TRACE.STATUS.OVF 0).put base.trace TRACE.CTL.RESET 0 with traceUnread := 0 }

def execTraceReset (s : State) : Host.Outcome State Fault Refusal := s.act Dev.traceReset

/-- ENTRY's word 5 has been read: RPTR advances (R558). -/
def Dev.traceAdvance (s : Dev) : Dev :=
  { s.put base.trace TRACE.STATUS.RPTR ((s.rd base.trace TRACE.STATUS.RPTR + 1) % 4096) with traceUnread := s.traceUnread - 1 }

/-- DBG_LINE_READ: GO in DBG.LINE.CTL (R556). -/
def execDbgLineRead (s : State) : Host.Outcome State Fault Refusal := s.act Dev.debugStart

end Sys2Proof.Machine
end

