-- ==== Sys2Proof/Machine/RegView.lean ====
section
/-! DEFINITION. What a read of a register or of a WIDE field returns: the stored word, with the fields that the block
computes when it is read. -/
namespace Sys2Proof.Machine

/-! ### Where an access lands -/

/-- Window of a site within its domain, and its domain. -/
def Site.window (t : Site) : Nat := t.base / 0x1000 % 256
def Site.domain (t : Site) : Nat := t.base / 0x100000 % 16

/-- Number of the instance that a window holds (R541). -/
def Site.unit (t : Site) : Nat :=
  match t.blk with
  | .pc => 32 * (t.domain - 1) + t.window
  | .qme => t.domain - 1
  | .rport => t.window - 8
  | .hb => t.window - 1
  | _ => t.window

/-! ### Registers -/

/-- CAL_STATUS.MODE: 0 PAUSED, 1 RUNNING, 2 TRAINING, 3 OFF (both enables 0; DEDUCED, notes/assumptions/34.md). -/
def Dev.calMode (s : Dev) (p : Nat) : Nat :=
  if (s.pc p).training.isSome then 2
  else if !s.flag (base.pc p) PC.CAL_CTL.LIVE_EN && !s.flag (base.pc p) PC.CAL_CTL.PATTERN_EN then 3
  else if s.calRuns p then 1 else 0

/-- Lane group and direction of the round, or of the training step. -/
def Dev.calGroup (s : Dev) (p : Nat) : Nat × Nat :=
  match (s.pc p).training with
  | some t => (groupOfStep t.step, 0)
  | none => ((s.pc p).round / 2, (s.pc p).round % 2)

/-- A register of a pseudo-channel. (DEDUCED, notes/assumptions/163.md) -/
def Dev.readPc (s : Dev) (p o : Nat) (w : Word) : Word :=
  let c := s.pc p
  if o = PC.OCC.reg.off then
    PC.OCC.L2.set (PC.OCC.MERGE.set (PC.OCC.WQ.set (PC.OCC.L1.set (PC.OCC.L0.set w c.l0Reads.length) c.l1.length) c.wqUsed)
      c.mergeBuf.length) c.l2Used
  else if o = PC.INORDER.reg.off then BitVec.ofNat 32 c.inOrderBanks
  else if o = PC.CARDER.reg.off then
    let full := decide (32 ≤ c.carderUsed) || !c.healHold.isEmpty
    PC.CARDER.RVQ.set (PC.CARDER.DQ.set (PC.CARDER.PAUSED.set w (!s.carderRuns p || full).toNat) c.decodeQ.length)
      c.revisitQ.length
  else if o = PC.CAL_STATUS.reg.off then
    let g := s.calGroup p
    let live := (s.livePairs p).foldl (fun a x => a + 2 ^ x) 0
    PC.CAL_STATUS.PAIRS_LIVE.set (PC.CAL_STATUS.DIR.set (PC.CAL_STATUS.GROUP.set (PC.CAL_STATUS.MODE.set w (s.calMode p)) g.1)
      g.2) live
  else if PC.LANEDLY.reg.off ≤ o && o < PC.LANEDLY.reg.off + 176 then
    PC.LANEDLY.STATE.set w (s.laneState p ((o - PC.LANEDLY.reg.off) / 4))
  else w

/-- A register of FULLER.CORE. -/
def Dev.readFuller (s : Dev) (o : Nat) (w : Word) : Word :=
  if o = FULLER.STATUS.reg.off then
    FULLER.STATUS.SEAL_DEFERRED.set (FULLER.STATUS.STALL.set (FULLER.STATUS.UNCAPPED.set w s.uncapped.toNat) s.stalled.toNat)
      (!s.fuller.deferred.isEmpty).toNat
  else if o = FULLER.DIRTY.reg.off then FULLER.DIRTY.UNITS.set w s.dirtyUnits
  else if o = FULLER.SHADOW.reg.off then FULLER.SHADOW.BLOCKS.set w s.fuller.shadow.length
  else if o = FULLER.SEED.reg.off then FULLER.SEED.UNITS.set w s.fuller.seeds.length
  else w

/-- CAND0 and CAND1 show the oldest repair candidate. -/
def Dev.readEcc (s : Dev) (o : Nat) (w : Word) : Word :=
  if o = ECC.CAND0.reg.off then
    match s.ecc.cands with
    | [] => 0
    | k :: _ => ECC.CAND0.VALID.set (ECC.CAND0.TYPE.set (ECC.CAND0.BANK.set (ECC.CAND0.PC.set (ECC.CAND0.DIE.set 0 k.die) k.pc)
        k.bank) k.column.toNat) 1
  else if o = ECC.CAND1.reg.off then
    ECC.CAND1.COUNT.set (ECC.CAND1.INDEX.set 0 (match s.ecc.cands with | [] => 0 | k :: _ => k.index)) s.ecc.cands.length
  else w

/-- The word a read of a register returns. -/
def Dev.readReg (s : Dev) (t : Site) : Word :=
  let w := s.reg (t.base + t.off)
  match t.blk with
  | .pc => s.readPc t.unit t.off w
  | .qme => if t.off = QME.TRAIN.reg.off then QME.TRAIN.TRAINING.set w (s.trainingPcs t.unit).length else w
  | .fcore => s.readFuller t.off w
  | .mir => MIR.STATUS.CHUNKS.set w (s.fuller.chunks.get (fun _ => []) (t.off / 4)).length
  | .ecc => s.readEcc t.off w
  | .core => if t.off = CORE.STATUS.reg.off then CORE.STATUS.RESTARTS.set w (min 3 s.restartsLately) else w
  | .log => if t.off = LOG.STATUS.reg.off then LOG.STATUS.BUF.set w s.mgmt.buffer.length else w
  | .fault =>
    if FAULT.SRC.reg.off ≤ t.off then
      FAULT.SRC.ACTIVE.set w (s.heldEvent ((t.off - FAULT.SRC.reg.off) / 4)).isSome.toNat
    else w
  | .tbl =>
    if t.off = TBL.ENTRY.reg.off then
      BitVec.zeroExtend 32 (s.route (s.rd base.tbl TBL.SEL.BANK) (s.rd base.tbl TBL.SEL.INDEX))
    else w
  | .perf => if t.off = PERF.STATUS.reg.off then PERF.STATUS.FROZEN.set w (s.perfFrozen t.unit).toNat else w
  | .bist => if t.off = BIST.POLICY.reg.off then BIST.POLICY.SCAN_OK.set w s.scanOk.toNat else w
  | _ => w

/-! ### WIDE fields -/

/-- The newest journal record; 0 with none. -/
def Dev.logLast (s : Dev) : Nat := match s.newestRecord with | none => 0 | some r => ofBytes (recordBytes r)

/-- CSR: the public identity key, which the device offers in PROVISIONED (R450).
(DEDUCED, notes/assumptions/161.md) -/
def Dev.csr (s : Dev) : Nat :=
  match s.identity with
  | some k => if s.otp.lifecycle = 2 then k.toNat else 0
  | none => 0

/-- A WIDE field as a transfer start latches it. -/
def Dev.wideView (s : Dev) (t : Site) (sel : Nat) : Nat :=
  match t.blk with
  | .log => s.logLast
  | .lc => if sel = 1 then s.csr else s.wideOf t.base sel
  | .trace => (s.trace.get (fun _ => 0) (s.rd base.trace TRACE.STATUS.RPTR)).toNat
  | _ => s.wideOf t.base sel

end Sys2Proof.Machine
end

