-- ==== Sys2Proof/Machine/RegBus.lean ====
section
/-! DEFINITION. Register writes by kind (R5-R7, R550) and the GO bits they take; several masters at once (R470, R471, R551);
who is served and when (R437, R508, R518, R544, R553); the mailbox (R545-R549); crossings that time out (R543). -/
namespace Sys2Proof.Machine

/-! ### A write by field kinds (R5-R7, R550) -/

/-- The word of a register after a write: CTL and CNT fields load, a load of a counter clears SAT, and a write-back whose SEQ
matches clears what the table names. GO bits are requests and are not stored here. -/
def written (r : RegSpec) (old w : Word) : Word :=
  let load := BitVec.ofNat 32 (r.ctl ||| r.cnt)
  let v := ((old &&& ~~~load) ||| (w &&& load)) &&& ~~~(BitVec.ofNat 32 r.sat)
  if r.seq && w.extractLsb' 0 8 = old.extractLsb' 0 8 then v &&& ~~~(BitVec.ofNat 32 r.clr) else v

/-- A register that no write can change (R6). -/
def RegSpec.readOnly (r : RegSpec) : Bool := r.ctl = 0 && r.go = 0 && r.cnt = 0 && !r.seq

/-- A write that can change nothing leaves a record: the first since FLAG was cleared is kept (R6, R470). -/
def Dev.lockViol (s : Dev) (m : Master) (a : Nat) : Dev :=
  let s1 := if s.flag base.fault FAULT.LOCK_VIOL.FLAG then s
    else ((s.put base.fault FAULT.LOCK_VIOL.FLAG 1).put base.fault FAULT.LOCK_VIOL.MASTER (masterCode m)).put base.fault
      FAULT.LOCK_VIOL_ADDR.ADDR a
  (s1.bump base.fault FAULT.LOCK_VIOL.SEQ).raise srcLockViol

/-- OWNER fields of windows without a block, and of domain 0xE, ignore writes (R554). -/
def ownerMask (rrr : Nat) : Word :=
  (List.range 8).foldl (fun (a : Word) j =>
    let i := 8 * rrr + j
    if i / 256 != 14 && (blockOf (i / 256) (i % 256)).isSome then a ||| (0xF <<< (4 * j)) else a) 0

/-- A write to CHIP.OWNER, FAULT.SRC or CONFLICT has a rule beside its kinds: fields that are not there stay, a BLOCK_RESET
bit that the source cannot have loads 0 (R458), a matching write-back frees the conflict record (R471).
(DEDUCED, notes/assumptions/150.md) (DEDUCED, notes/assumptions/160.md) -/
def adjusted (t : Site) (old v w : Word) : Word :=
  match t.blk with
  | .owner => v &&& ownerMask (t.off / 4)
  | .fault =>
    if FAULT.SRC.reg.off ≤ t.off then
      let n := (t.off - FAULT.SRC.reg.off) / 4
      if !srcImpl n then old else if srcHasBlockReset n then v else v &&& ~~~(BitVec.ofNat 32 actBlockReset)
    else if t.off = FAULT.CONFLICT.reg.off && w.extractLsb' 0 8 = old.extractLsb' 0 8 then
      FAULT.CONFLICT.LOSERS.set (FAULT.CONFLICT.WINNER.set v 0) 0
    else v
  | _ => v

/-! ### GO bits, and writes that do more than load (R5) -/

/-- A write to a register of a pseudo-channel. SVC: TAKE_OUT, then REJOIN; INIT_DONE stands as software wrote it.
(DEDUCED, notes/assumptions/162.md) -/
def Dev.goPc (s : Dev) (p o : Nat) (old w : Word) : Dev :=
  if o = PC.SVC.reg.off then
    let s1 := (s.when (w.getLsbD 0) (fun s => s.takeOut p)).when (w.getLsbD 1) (fun s => s.rejoin p)
    s1.when (w.getLsbD 0 && w.getLsbD 2) (fun s => s.put (base.pc p) PC.SVC.INIT_DONE 1)
  else if o = PC.ECC_CTL.reg.off then
    (s.when (w.getLsbD 0) (fun s => s.laneRepairGo p)).when (w.getLsbD 7) (fun s => s.walkRestart p)
  else if o = PC.CAL_CTL.reg.off then
    let s1 := (s.when (old.getLsbD 0 && !w.getLsbD 0) (fun s => s.livePause p)).when (old.getLsbD 1 && !w.getLsbD 1) (fun s => s.patternPause p)
    (s1.when (w.getLsbD 2) (fun s => s.calTrain p true)).when (w.getLsbD 3) (fun s => s.calTrain p false)
  else if o = PC.CAL_OVR.reg.off then s.when (w.getLsbD 14) (fun s => s.ovrGo p)
  else s

/-- What a write to a register starts, its CTL fields loaded. Several GO bits of one write are taken in the order of their
bits (DESIGN CHOICE, notes/assumptions/35.md). (DESIGN CHOICE, notes/assumptions/20.md) -/
def Dev.takeGo (s : Dev) (m : Master) (t : Site) (old w : Word) : Dev :=
  let n := t.unit
  let o := t.off
  let b (k : Nat) : Bool := w.getLsbD k
  match t.blk with
  | .amap => s.when (o = AMAP.XLATE_CTL.reg.off && b 0) Dev.xlateGo
  | .ecc =>
    if o = ECC.TIER0.reg.off || o = ECC.TIER1.reg.off then
      (s.when (b 6) (fun s => s.tierForce (o / 4))).when (b 10) (fun s => s.tierClear (o / 4))
    else if o = ECC.INJ_CTL.reg.off then s.when (b 0) Dev.injArm
    else if o = ECC.CAND_CTL.reg.off then s.when (b 0) Dev.candPop
    else if o = ECC.FUSE_CMD.reg.off then s.when (b 0) Dev.fuseBurn
    else s
  | .dawn => s.when (o = DAWN.CTL.reg.off && b 0) Dev.serveNondurable
  | .pc => s.goPc n o old w
  | .fp =>
    if o = FP.CFG.reg.off then
      ((s.when (b 1) (fun s => s.fullTrainCmd n)).when (b 0 && !b 1) (fun s => s.retrain n)).when (b 2) (fun s => s.laneRetry n)
    else s
  | .txn => s.when (TXN.OUTCOME_SRC.reg.off ≤ o && b 13) (fun s => s.outcomeRelease ((o - TXN.OUTCOME_SRC.reg.off) / 4))
  | .tbl => if o = TBL.SWITCH.reg.off then (s.when (b 16) Dev.routeSwitch).when (b 17) Dev.clearLearned else s
  | .rport =>
    if o = RPORT.CFG.reg.off then
      let s1 := if w.extractLsb' 0 2 != old.extractLsb' 0 2 then (s.sendHello n).evalPort n else s
      s1.when (b 2) (fun s => s.portAccept n)
    else s
  | .fcore => s.when (o = FULLER.CMD.reg.off && b 0) Dev.fullerCmd
  | .pf =>
    s.when (o = PF.UNSAVED_CTL.reg.off && b 0) (fun s =>
      ({ s with pf := { s.pf with unsaved := s.pf.unsaved.drop 1 } } : Dev).showUnsaved)
  | .hb => if o = HB.CTL.reg.off then (s.when (b 0) (fun s => s.pairCmd n)).when (b 1) (fun s => s.ejectCmd n) else s
  | .key => s.when (o = KEY.CMD.reg.off && b 0) (fun s => if s.rd base.key KEY.CMD.OP = 0 then s.keyExport else s.keyImport)
  | .rung => s.when (o = RUNG.REQ.reg.off && b 0) Dev.rungReq
  | .clk => s.when (o = CLK.TSV_REQ.reg.off && b 0) Dev.tsvReq
  | .therm => s.when (THERM.SENS.reg.off ≤ o && b 16) (fun s => s.sensorRestore ((o - THERM.SENS.reg.off) / 4))
  | .core =>
    if o = CORE.WDT.reg.off then (s.wdtKick (w.extractLsb' 16 8)).when (b 24) Dev.coreRestart else s
  | .fwup => s.when (o = FWUP.CMD.reg.off && b 0) (fun s => s.fwCmd m)
  | .lc => s.when (o = LC.CMD.reg.off && b 0) (fun s => s.lcCmd m)
  | .fault =>
    s.when (FAULT.SRC.reg.off ≤ o && b 8) (fun s => s.force ((o - FAULT.SRC.reg.off) / 4))
  | .otp =>
    if o = OTP.CMD.reg.off then s.when (b 0) Dev.otpGo
    else s.when (o = OTP.WEAK.reg.off && b 16) Dev.otpWeakPop
  | .bist =>
    if o = BIST.CMD.reg.off then
      (s.when (b 0) (fun s => (s.put base.bist BIST.CMD.GO 1).bistCmd)).when (b 12) Dev.bistCut
    else s
  | .perf =>
    if o = PERF.CTL.reg.off then
      ((s.when (b 1) (fun s => s.perfSnap n)).when (b 2) (fun s => s.perfClear n)).when (w.extractLsb' 3 9 != (0 : BitVec 9))
        (fun s => s.ovfClear n (w.extractLsb' 3 9).toNat)
    else s
  | .pglobal => s.when (o = PGLOBAL.CTL.reg.off && b 1) Dev.perfSnapAll
  | .line => s.when (o = LINE.CTL.reg.off && b 0) Dev.debugStart
  | .trace => s.when (o = TRACE.CTL.reg.off && b 6) Dev.traceReset
  | _ => s

/-- An access to CMD by a master that may not access the staging buffer is BUSY; any write claims it (R61, R62). -/
def Dev.battCmdWrite (s : Dev) (m : Master) (w : Word) : Nat × Dev :=
  if !s.battOpen m then (stBusy, s)
  else
    let op := (w.extractLsb' 1 2).toNat
    if w.getLsbD 0 then (stOk, s.battStart op m) else (stOk, (s.battClaim m).put base.batt BATT.CMD.OP op)

/-- A write to a register: its status and its effect. -/
def Dev.writeReg (s : Dev) (m : Master) (t : Site) (w : Word) : Nat × Dev :=
  match specAt (regsOf t.blk) t.off with
  | none => (stOk, s)
  | some (r, _) =>
    if r.readOnly then (stOk, s.lockViol m (t.base + t.off))
    else if t.blk = .batt && t.off = BATT.CMD.reg.off then s.battCmdWrite m w
    else if t.blk = .batt && t.off = BATT.STAGE_OWNER.reg.off then (stOk, s.when (w.getLsbD 8) (fun s => s.battRelease m))
    else if t.blk = .batt && t.off = BATT.STAGE_ADDR.reg.off then let x := s.stageAddr m (some w); (x.1, x.2.2)
    else if t.blk = .batt && t.off = BATT.STAGE_DATA.reg.off then let x := s.stageData m (some w); (x.1, x.2.2)
    else if t.blk = .fwup && t.off = FWUP.DATA.reg.off then if s.fwFull then (stBusy, s) else (stOk, s.fwData w)
    else if t.blk = .tbl && t.off = TBL.ENTRY.reg.off then (stOk, s.entryWrite w)
    else if t.blk = .fault && t.off = FAULT.CAP0.reg.off then (stOk, s.handle (w.toNat % 256))
    else if t.blk = .pc && PC.TIMING0.reg.off ≤ t.off && t.off ≤ PC.TIMING0.reg.off + 12 then
      (stOk, s.timingWrite t.unit ((t.off - PC.TIMING0.reg.off) / 4) w)
    else if t.blk = .pc && t.off = PC.REF_CFG.reg.off then (stOk, s.refCfgWrite t.unit w)
    else
      let old := s.reg (t.base + t.off)
      (stOk, (s.setReg (t.base + t.off) (adjusted t old (written r old w) w)).takeGo m t old w)

/-- A read of a register: its status, its value and its effect. DETAIL and ANALOG of BIST are for the core and JTAG. -/
def Dev.regRead (s : Dev) (m : Master) (t : Site) : Nat × Word × Dev :=
  if t.blk = .batt && t.off = BATT.STAGE_ADDR.reg.off then s.stageAddr m none
  else if t.blk = .batt && t.off = BATT.STAGE_DATA.reg.off then s.stageData m none
  else if t.blk = .batt && t.off = BATT.CMD.reg.off && !s.battOpen m then (stBusy, 0, s)
  else if t.blk = .bist && (t.off = BIST.DETAIL.reg.off || t.off = BIST.ANALOG.reg.off) && masterCode m ≤ 2 then (stOk, 0, s)
  else (stOk, s.readReg t, s)

/-! ### The mailbox (R545-R549) -/

/-- Width of the WIDE field of a selector, and whether software may write it. -/
def wideOfSel (b : Blk) (sel : Nat) : Option (Nat × Bool) := (b.wides.find? (fun x => x.1 = sel)).map Prod.snd

/-- A transfer starts: the claim, and the whole value latched. VALID is set at once, within the 2 us (DESIGN CHOICE,
notes/assumptions/36.md). -/
def Dev.mbxStart (s : Dev) (m : Master) (t : Site) (sel : BitVec 16) (dir : Bool) : Dev :=
  match wideOfSel t.blk sel.toNat with
  | some (n, _) => s.setMailbox t.base ⟨sel, dir, some m, true, false, (n + 31) / 32, 0, false, s.wideView t sel.toNat⟩
  | none => s.setMailbox t.base ⟨sel, dir, some m, true, true, 1, 0, false, 0⟩

/-- A value goes into a WIDE field that software may write: a counter loads (R528, R534), any other field takes it. -/
def Dev.wideCommit (s : Dev) (t : Site) (sel n v : Nat) : Dev :=
  if t.blk = .perf then s.perfLoad t.unit sel v
  else if t.blk = .pc && sel = selSlots then s.slotsLoad t.unit v
  else s.setWide t.base sel (v % 2 ^ n)

/-- COMMIT: ignored in a read transfer, without a claim of the master's, and after ERR. To a read-only field the value is
ignored with a record under R6. (DEDUCED, notes/assumptions/149.md) -/
def Dev.mbxCommit (s : Dev) (m : Master) (t : Site) (a : Nat) : Dev :=
  let x := s.mailbox t.base
  if x.owner != some m || !x.dir || x.err then s
  else
    let s1 := s.setMailbox t.base { x with owner := none, done := true }
    match wideOfSel t.blk x.selector.toNat with
    | some (n, true) => s1.wideCommit t x.selector.toNat n x.latched
    | _ => s1.lockViol m a

/-- A write to MBX_SEL. -/
def Dev.mbxSelWrite (s : Dev) (m : Master) (t : Site) (a : Nat) (w : Word) : Dev :=
  let sel := w.extractLsb' 0 16
  if w.getLsbD 17 then s.mbxCommit m t a
  else if sel = 0 then s.setMailbox t.base { s.mailbox t.base with selector := 0, dir := w.getLsbD 16, owner := none }
  else s.mbxStart m t sel (w.getLsbD 16)

/-- An access to MBX_DATA moves word INDEX and advances INDEX. -/
def Dev.mbxData (s : Dev) (t : Site) (w : Option Word) : Nat × Word × Dev :=
  let x := s.mailbox t.base
  if x.owner.isNone then (stOk, 0, s)
  else if !x.valid then (stBusy, 0, s)
  else
    let last := decide (x.index + 1 = x.words)
    let next := if last then 0 else x.index + 1
    match w with
    | none =>
      let s1 := s.setMailbox t.base { x with index := next, owner := if last && !x.dir then none else x.owner }
      (stOk, BitVec.ofNat 32 (x.latched / 2 ^ (32 * x.index)), s1.when (t.blk = .trace && x.index = 5) Dev.traceAdvance)
    | some v =>
      let width := match wideOfSel t.blk x.selector.toNat with | some (n, _) => n | none => 0
      let old := x.latched / 2 ^ (32 * x.index) % 2 ^ 32
      let new := (x.latched - old * 2 ^ (32 * x.index) + v.toNat * 2 ^ (32 * x.index)) % 2 ^ width
      (stOk, 0, s.setMailbox t.base { x with index := next, latched := new })

/-- MBX_STATUS and MBX_NODE. -/
def Mbx.statusWord (x : Mbx) : Word :=
  BitVec.ofNat 32 (x.valid.toNat + 2 * x.err.toNat + 4 * (match x.owner with | some m => masterCode m | none => 0) +
    2 ^ 8 * x.words + 2 ^ 17 * x.index + 2 ^ 25 * x.done.toNat)
def Mbx.nodeWord (x : Mbx) : Word := match x.owner with | some m => BitVec.zeroExtend 32 (masterNode m) | none => 0

/-- An access to a mailbox register, by its number 0-3. -/
def Dev.mbxAccess (s : Dev) (m : Master) (t : Site) (k : Nat) (w : Option Word) : Nat × Word × Dev :=
  let x := s.mailbox t.base
  let a := t.base + t.off
  if (k = 0 || k = 2) && x.owner.isSome && x.owner != some m then (stBusy, 0, s)
  else if k = 2 then s.mbxData t w
  else
    match w with
    | none => (stOk, if k = 0 then BitVec.ofNat 32 (x.selector.toNat + 2 ^ 16 * x.dir.toNat) else if k = 1 then x.statusWord
        else x.nodeWord, s)
    | some v => (stOk, 0, if k = 0 then s.mbxSelWrite m t a v else s.lockViol m a)

/-! ### Who is served, and when -/

/-- The device is in Midnight, or in the safe state. -/
def Dev.shut (s : Dev) : Bool := s.pfPhase = pfSafe || (s.rung = rungMidnight && s.rungPhase != rpExiting)

/-- The clocks of step 1 of Dawn are not there. -/
def Dev.unclocked (s : Dev) : Bool := !(s.power.inRange && s.power.resetN && s.dawnDone 1)

/-- The Dawn step that brings a block up has started (R508, R518; DEDUCED, notes/assumptions/37.md). -/
def Dev.blockUp (s : Dev) (domain : Nat) : Bool :=
  if 1 ≤ domain && domain ≤ 4 then s.dawnDone 2 && s.dawnDone 6 && s.dawnPhase != dawnThermalWait
  else if domain = 5 || domain = 6 then s.dawnDone 4 && s.dawnDone 6 && !s.held
  else if domain = 8 then s.dawnDone 2 && s.dawnDone 4
  else true

/-- A clock that is off in Night serves the block, and no access wakes it (R410, R544).
(DEDUCED, notes/assumptions/151.md) -/
def Dev.clockOff (s : Dev) (t : Site) : Bool :=
  s.rung = rungNight && (t.blk = .otp || t.blk = .perf || t.blk = .trace)

/-- The access completes with BUSY. With the Brim without power or clocks only I3C is served, for the always-on registers
(R437); before that CHIP.DAWN can be read by anyone. (DEDUCED, notes/assumptions/152.md) -/
def Dev.barred (s : Dev) (m : Master) (t : Site) (write : Bool) : Bool :=
  let a := t.base + t.off
  if s.shut || s.unclocked then
    if m = .i3c then !(if write then a = base.rung else aonKept a || aonRung a)
    else s.shut || write || t.blk != .dawn
  else !s.blockUp t.domain || s.clockOff t

/-- An access of fabric MGT whose packet waits in a port's queue: the port and the packet. (DESIGN CHOICE, notes/assumptions/159.md) -/
def Dev.waitingMgt (s : Dev) (node : BitVec 12) (a : Nat) (w : Option Word) : Option (Nat × Packet) :=
  (List.range 6).findSome? (fun n => ((s.fp n).rxq.find? (fun p =>
    match p.slots with
    | [x] =>
      let r := reqOfSlot x
      p.vc = vcMgt && r.sub = 0 && r.cls.toNat < 2 && slotOpc x = (if w.isSome then opcMwr else opcMrd) && r.src = node && Req.node r = s.node &&
        Req.localAddr r = a && (w.isNone || w = some r.arg)
    | _ => false)).map (fun p => (n, p)))

/-- The port on which an access of fabric MGT arrived. -/
def Dev.portOf (s : Dev) (m : Master) (a : Nat) (w : Option Word) : Option Nat :=
  match m with
  | .mgt node => (s.waitingMgt node a w).map Prod.fst
  | _ => none

/-- A write of fabric MGT through a port whose bit in MGT_PORTS is 0 (R132). -/
def Dev.portBars (s : Dev) (port : Option Nat) (write : Bool) : Bool :=
  match port with
  | some n => write && !(s.item itMgtPorts 0).testBit n
  | none => false

/-- A management access is decoded and admitted, or turned away with a status (R132, R139, R535-R538, R553). -/
def Dev.admitted (s : Dev) (m : Master) (port : Option Nat) (a : Nat) (write : Bool) : Nat × Option Site :=
  if a % 4 != 0 then (stAddrErr, none)
  else
    match siteOf a with
    | none => (stAddrErr, none)
    | some t =>
      if s.portBars port write || s.ownerBars m t.base then (stDenied, none)
      else if s.barred m t write then (stBusy, none)
      else (stOk, some t)

/-- An access to a domain that R397 names wakes the device. -/
def Dev.wakeFor (s : Dev) (domain : Nat) : Dev :=
  s.when ((1 ≤ domain && domain ≤ 5) || domain = 7 || domain = 8) (fun s => s.wakeEvent .mgmt)

/-- An admitted access has its effect. -/
def Dev.perform (s : Dev) (m : Master) (t : Site) (w : Option Word) : Nat × Word × Dev :=
  let s1 := s.wakeFor t.domain
  let plain : Nat × Word × Dev := match w with
    | none => s1.regRead m t
    | some v => let x := s1.writeReg m t v; (x.1, 0, x.2)
  match t.blk.mb with
  | some mb => if mb ≤ t.off && t.off < mb + 16 then s1.mbxAccess m t ((t.off - mb) / 4) w else plain
  | none => plain

/-- Writes that timed out reach their registers (R543). -/
def Dev.lateWrites (s : Dev) : Dev :=
  ({ s with mgmt := { s.mgmt with late := [] } } : Dev).each s.mgmt.late (fun s x =>
    match siteOf x.2.1.toNat with
    | some t => (s.perform x.1 t (some x.2.2)).2.2
    | none => s)

/-- A management access: its status, the value read, its effect. -/
def Dev.access (s0 : Dev) (m : Master) (port : Option Nat) (a : Nat) (w : Option Word) : Nat × Word × Dev :=
  let s := s0.lateWrites
  match s.admitted m port a w.isSome with
  | (st, none) => (st, 0, s)
  | (_, some t) => s.perform m t w

/-! ### Answers -/

/-- The status of an access, and a value read, reach the master. -/
def Dev.deliverTo (s : Dev) (m : Master) (a : Nat) (w : Option Word) (st : Nat) (v : Word) : Dev :=
  match m with
  | .core => { s with mgmt := { s.mgmt with coreAnswer := (v, BitVec.ofNat 4 st) } }
  | .jtag => { s with mgmt := { s.mgmt with jtagDr := BitVec.ofNat 64 (v.toNat + st * 2 ^ 32 + 2 ^ 36) } }
  | .i3c =>
    let bytes := (bytesOf v.toNat 4).map (BitVec.ofNat 8) ++ [BitVec.ofNat 8 st]
    { s with mgmt := { s.mgmt with
      readBuf := bytes, lastStatus := if w.isSome then BitVec.ofNat 8 st else s.mgmt.lastStatus } }
  | .mgt node =>
    match s.waitingMgt node a w with
    | some (n, p) => (s.takeIn n p).answer (reqOfSlot (p.slots.headD 0)) ⟨st, 0, 0, BitVec.zeroExtend 64 v, none⟩
    | none => s

/-- An access by a master, with its answer. -/
def Dev.issue (s : Dev) (m : Master) (a : Nat) (w : Option Word) : Dev :=
  let x := s.access m (s.portOf m a w) a w
  x.2.2.deliverTo m a w x.1 x.2.1

/-! ### Several masters in one cycle (R551, R471) -/

/-- The write of the highest precedence: ascending, fabric MGT, I3C, core, JTAG. -/
def strongest (ws : List (Master × Word)) : Option (Master × Word) :=
  ws.foldl (fun b x => match b with
    | none => some x
    | some y => if masterCode y.1 < masterCode x.1 then some x else some y) none

/-- CONFLICT keeps the first conflict since it was freed; SEQ advances. -/
def Dev.conflict (s : Dev) (a : Nat) (won : Master) (lost : List Master) : Dev :=
  let bits := lost.foldl (fun b m => b ||| 2 ^ (masterCode m - 1)) 0
  let s1 := if s.rd base.fault FAULT.CONFLICT.WINNER != 0 then s
    else ((s.put base.fault FAULT.CONFLICT.WINNER (masterCode won)).put base.fault FAULT.CONFLICT.LOSERS bits).put base.fault
      FAULT.CONFLICT_ADDR.ADDR a
  (s1.bump base.fault FAULT.CONFLICT.SEQ).raise srcConflict

/-- Writes of one register in one cycle. Those that are turned away get their status; of the others one is applied and
the rest receive PREEMPTED. (DEDUCED, notes/assumptions/155.md) -/
def Dev.writeAll (s : Dev) (a : Nat) (ws : List (Master × Word)) : Dev :=
  let ok (x : Master × Word) : Bool := (s.admitted x.1 (s.portOf x.1 a (some x.2)) a true).2.isSome
  let s1 := s.each (ws.filter (fun x => !ok x)) (fun s x => s.issue x.1 a (some x.2))
  match strongest (ws.filter ok) with
  | none => s1
  | some y =>
    let lost := (ws.filter ok).filter (fun x => x.1 != y.1)
    let s2 := s1.issue y.1 a (some y.2)
    if lost.isEmpty then s2
    else (s2.conflict a y.1 (lost.map Prod.fst)).each lost (fun s x => s.deliverTo x.1 a (some x.2) stPreempted 0)

def execRegisterWrite (addr : BitVec 24) (ws : List (Master × BitVec 32)) (s : State) : Host.Outcome State Fault Refusal :=
  s.act (fun s => s.writeAll addr.toNat ws)

def execStatusWriteBack (m : Master) (addr : BitVec 24) (v : BitVec 32) (s : State) : Host.Outcome State Fault Refusal :=
  s.act (fun s => s.issue m addr.toNat (some v))

/-! ### Fabric management (R131-R133, R156, R163, R164) -/

/-- A management request whose form the device does not execute: its status. -/
def mgtRefused (r : Req) : Option Nat :=
  if r.sub ≠ 0 || 2 ≤ r.cls.toNat then some stUnsupported
  else if 2 ^ 24 ≤ Req.localAddr r then some stAddrErr
  else none

/-- The access of a request addressed to the device, answered. -/
def Dev.mgtHere (s : Dev) (port : Nat) (r : Req) (w : Option Word) : Dev :=
  match mgtRefused r with
  | some st => s.answer r (Rsp.code st)
  | none =>
    let x := s.access (.mgt r.src) (some port) (Req.localAddr r) w
    x.2.2.answer r ⟨x.1, 0, 0, BitVec.zeroExtend 64 x.2.1, none⟩

/-- MRD; one addressed to 0xFFF is answered by the first device that receives it (R164). -/
def Dev.mrdIn (s : Dev) (port : Nat) (r : Req) : Dev :=
  let slots := [reqSlot opcMrd r]
  if Req.node r = 0xFFF then (s.takeIn port ⟨vcMgt, slots, none⟩).answer r (Rsp.code stUnsupported)
  else s.arrive port vcMgt slots r (fun s => s.fence opcMrd r (fun s => s.mgtHere port r none))

def execMrd (port : Fin 6) (r : Req) (s : State) : Host.Outcome State Fault Refusal := s.act (fun s => s.mrdIn port r)

/-- MWR. A broadcast is executed without a response, and forwarded. -/
def Dev.mwrIn (s : Dev) (port : Nat) (r : Req) : Dev :=
  let slots := [reqSlot opcMwr r]
  if Req.node r = 0xFFF then
    s.bcastIn port slots r (fun s => s.fence opcMwr r (fun s =>
      if (mgtRefused r).isSome then s else (s.access (.mgt r.src) (some port) (Req.localAddr r) (some r.arg)).2.2))
  else s.arrive port vcMgt slots r (fun s => s.fence opcMwr r (fun s => s.mgtHere port r (some r.arg)))

def execMwr (port : Fin 6) (r : Req) (s : State) : Host.Outcome State Fault Refusal := s.act (fun s => s.mwrIn port r)

def execBroadcastMwr (port : Fin 6) (r : Req) (s : State) : Host.Outcome State Fault Refusal := s.act (fun s => s.mwrIn port r)

/-! ### I3C and JTAG (R436, R555) -/

/-- ADDR[23:0] of a private write. -/
def i3cAddr (bytes : List (BitVec 8)) : Nat := ofBytes ((bytes.take 3).map BitVec.toNat)

/-- A private write of a form that is not listed is ignored; the next read returns UNSUPPORTED. -/
def Dev.i3cIgnored (s : Dev) : Dev :=
  { s with mgmt := { s.mgmt with readBuf := [0, 0, 0, 0, BitVec.ofNat 8 stUnsupported] } }

/-- A private write: a register read (four bytes, OP 0x00) or a register write (eight bytes, OP 0x01). -/
def Dev.i3cWrite (s : Dev) (bytes : List (BitVec 8)) : Dev :=
  let op := bytes.getD 3 0xFF
  if bytes.length = 4 && op = 0 then s.issue .i3c (i3cAddr bytes) none
  else if bytes.length = 8 && op = 1 then
    s.issue .i3c (i3cAddr bytes) (some (BitVec.ofNat 32 (ofBytes ((bytes.drop 4).map BitVec.toNat))))
  else s.i3cIgnored

def execI3cRegRead (bytes : List (BitVec 8)) (s : State) : Host.Outcome State Fault Refusal := s.act (fun s => s.i3cWrite bytes)
def execI3cRegWrite (bytes : List (BitVec 8)) (s : State) : Host.Outcome State Fault Refusal := s.act (fun s => s.i3cWrite bytes)

/-- MGMT_ACCESS: Update-DR with the instruction loaded. Bits [63:57] are ignored (DESIGN CHOICE, notes/assumptions/38.md). -/
def Dev.jtagAccess (s : Dev) (dr : BitVec 64) : Dev :=
  (s.jtagLoad 0x10 0).issue .jtag (dr.extractLsb' 32 24).toNat (if dr.getLsbD 56 then some (dr.extractLsb' 0 32) else none)

def execMgmtAccess (dr : BitVec 64) (s : State) : Host.Outcome State Fault Refusal := s.act (fun s => s.jtagAccess dr)

/-! ### Mailbox rows (R545-R549) -/

/-- An access to mailbox register k of the block whose window holds an address; a block without a mailbox has none. -/
def Dev.mbxRow (s : Dev) (m : Master) (blk : BitVec 24) (k : Nat) (w : Option Word) : Dev :=
  match siteOf blk.toNat with
  | some t => (match t.blk.mb with | some mb => s.issue m (t.base + mb + 4 * k) w | none => s)
  | none => s

def execMbxTransferStart (m : Master) (blk : BitVec 24) (v : BitVec 32) (s : State) : Host.Outcome State Fault Refusal :=
  s.act (fun s => s.mbxRow m blk 0 (some v))

def execMbxRelease (m : Master) (blk : BitVec 24) (s : State) : Host.Outcome State Fault Refusal :=
  s.act (fun s => s.mbxRow m blk 0 (some 0))

def execMbxCommit (m : Master) (blk : BitVec 24) (s : State) : Host.Outcome State Fault Refusal :=
  s.act (fun s => s.mbxRow m blk 0 (some 0x20000))

def execMbxDataAccess (m : Master) (blk : BitVec 24) (write : Option (BitVec 32)) (s : State) : Host.Outcome State Fault Refusal :=
  s.act (fun s => s.mbxRow m blk 2 write)

/-- MBX_CLAIM_TIMEOUT: the claim is freed after 1 ms without an access by the owner. -/
def Dev.mbxTimeout (s : Dev) (blk : BitVec 24) : Dev :=
  match siteOf blk.toNat with
  | some t => if t.blk.mb.isSome then s.setMailbox t.base { s.mailbox t.base with owner := none } else s
  | none => s

def execMbxClaimTimeout (blk : BitVec 24) (s : State) : Host.Outcome State Fault Refusal := s.act (fun s => s.mbxTimeout blk)

/-! ### Crossings (R543) -/

/-- REG_CROSSING_TIMEOUT: an access that has been taken completes with TIMEOUT; a write stays queued at its crossing.
(DESIGN CHOICE, notes/assumptions/153.md) -/
def Dev.crossingTimeout (s : Dev) (m : Master) (a : BitVec 24) (w : Option Word) : Dev :=
  match s.admitted m (s.portOf m a.toNat w) a.toNat w.isSome with
  | (_, none) => s.issue m a.toNat w
  | (_, some _) =>
    let s1 := s.raise srcRegTimeout
    let s2 : Dev := match w with
      | some v => { s1 with mgmt := { s1.mgmt with late := s1.mgmt.late ++ [(m, a, v)] } }
      | none => s1
    s2.deliverTo m a.toNat w stTimeout 0

def execRegCrossingTimeout (m : Master) (addr : BitVec 24) (write : Option (BitVec 32)) (s : State) :
    Host.Outcome State Fault Refusal := s.act (fun s => s.crossingTimeout m addr write)

end Sys2Proof.Machine
end

