-- ==== Sys2Proof/Machine/Dispatch.lean ====
section
/-! DEFINITION. Dispatch: one arm per command, each a direct call of its meaning. -/
namespace Sys2Proof.Machine

/-- The effect of a command on everything but the queue. (DESIGN CHOICE, notes/assumptions/168.md) -/
def exec (i : Instr) (s : State) : Host.Outcome State Fault Refusal :=
  match i with
  | .registerWrite addr ws => Sys2Proof.Machine.execRegisterWrite addr ws s
  | .statusWriteBack m addr v => Sys2Proof.Machine.execStatusWriteBack m addr v s
  | .xlateGo => Sys2Proof.Machine.execXlateGo s
  | .xlateDone => Sys2Proof.Machine.execXlateDone s
  | .rd port r => Sys2Proof.Machine.execRd port r s
  | .wr port r data => Sys2Proof.Machine.execWr port r data s
  | .wrm port r mask data => Sys2Proof.Machine.execWrm port r mask data s
  | .atom port r slot1 => Sys2Proof.Machine.execAtom port r slot1 s
  | .tag port r => Sys2Proof.Machine.execTag port r s
  | .epochQuery port r => Sys2Proof.Machine.execEpochQuery port r s
  | .epochSeal port r => Sys2Proof.Machine.execEpochSeal port r s
  | .epochWaitDurable port r => Sys2Proof.Machine.execEpochWaitDurable port r s
  | .regionQuery port r => Sys2Proof.Machine.execRegionQuery port r s
  | .regionFlush port r => Sys2Proof.Machine.execRegionFlush port r s
  | .outcome port r => Sys2Proof.Machine.execOutcome port r s
  | .mrd port r => Sys2Proof.Machine.execMrd port r s
  | .mwr port r => Sys2Proof.Machine.execMwr port r s
  | .broadcastMwr port r => Sys2Proof.Machine.execBroadcastMwr port r s
  | .mirWr port r data => Sys2Proof.Machine.execMirWr port r data s
  | .mirXchg port r slot1 => Sys2Proof.Machine.execMirXchg port r slot1 s
  | .mirWrResponse port hdr => Sys2Proof.Machine.execMirWrResponse port hdr s
  | .mirXchgResponse port hdr => Sys2Proof.Machine.execMirXchgResponse port hdr s
  | .mirXchgTimer => Sys2Proof.Machine.execMirXchgTimer s
  | .mirTimeout tag => Sys2Proof.Machine.execMirTimeout tag s
  | .nodeAssign port r slot1 => Sys2Proof.Machine.execNodeAssign port r slot1 s
  | .hello port hdr => Sys2Proof.Machine.execHello port hdr s
  | .helloTimer => Sys2Proof.Machine.execHelloTimer s
  | .helloLost port => Sys2Proof.Machine.execHelloLost port s
  | .syncDelayReq port cls hops tag src t1 => Sys2Proof.Machine.execSyncDelayReq port cls hops tag src t1 s
  | .syncDelayRsp port tag t1 t2 t3 => Sys2Proof.Machine.execSyncDelayRsp port tag t1 t2 t3 s
  | .syncTimer => Sys2Proof.Machine.execSyncTimer s
  | .alert port r => Sys2Proof.Machine.execAlert port r s
  | .forwardPacket port vc slots => Sys2Proof.Machine.execForwardPacket port vc slots s
  | .dupFilterExpire => Sys2Proof.Machine.execDupFilterExpire s
  | .holdDiscard port => Sys2Proof.Machine.execHoldDiscard port s
  | .mgtHoldDiscard port => Sys2Proof.Machine.execMgtHoldDiscard port s
  | .outcomeSrcRelease e => Sys2Proof.Machine.execOutcomeSrcRelease e s
  | .flitReceive port lanes => Sys2Proof.Machine.execFlitReceive port lanes s
  | .nakReceive port ack => Sys2Proof.Machine.execNakReceive port ack s
  | .nakResend port => Sys2Proof.Machine.execNakResend port s
  | .replayTimeout port => Sys2Proof.Machine.execReplayTimeout port s
  | .shadowMove port ll => Sys2Proof.Machine.execShadowMove port ll s
  | .shadowRotate port => Sys2Proof.Machine.execShadowRotate port s
  | .spareReq port ll => Sys2Proof.Machine.execSpareReq port ll s
  | .laneReturn port ll pl => Sys2Proof.Machine.execLaneReturn port ll pl s
  | .idleEnter port => Sys2Proof.Machine.execIdleEnter port s
  | .creditAdv port req rsp mgt per => Sys2Proof.Machine.execCreditAdv port req rsp mgt per s
  | .laneTest port pl => Sys2Proof.Machine.execLaneTest port pl s
  | .lanePass port pl => Sys2Proof.Machine.execLanePass port pl s
  | .retrainReq port => Sys2Proof.Machine.execRetrainReq port s
  | .laneFailDetect port pl => Sys2Proof.Machine.execLaneFailDetect port pl s
  | .spareCompareFail port => Sys2Proof.Machine.execSpareCompareFail port s
  | .trainFrameReceive port pin frame => Sys2Proof.Machine.execTrainFrameReceive port pin frame s
  | .trainQuietDone port => Sys2Proof.Machine.execTrainQuietDone port s
  | .trainLockTimeout port => Sys2Proof.Machine.execTrainLockTimeout port s
  | .trainTimeout port => Sys2Proof.Machine.execTrainTimeout port s
  | .downRetry port => Sys2Proof.Machine.execDownRetry port s
  | .recoveryFail port => Sys2Proof.Machine.execRecoveryFail port s
  | .laneRetryTimer port => Sys2Proof.Machine.execLaneRetryTimer port s
  | .linkIdleEnter port => Sys2Proof.Machine.execLinkIdleEnter port s
  | .linkResume port => Sys2Proof.Machine.execLinkResume port s
  | .fpRetrain port => Sys2Proof.Machine.execFpRetrain port s
  | .fpFullTrain port => Sys2Proof.Machine.execFpFullTrain port s
  | .fpLaneRetry port => Sys2Proof.Machine.execFpLaneRetry port s
  | .heldTrainCmd port => Sys2Proof.Machine.execHeldTrainCmd port s
  | .routeSwitch => Sys2Proof.Machine.execRouteSwitch s
  | .clearLearned => Sys2Proof.Machine.execClearLearned s
  | .routeEntryWrite v => Sys2Proof.Machine.execRouteEntryWrite v s
  | .portAccept port => Sys2Proof.Machine.execPortAccept port s
  | .lineSlot pc => Sys2Proof.Machine.execLineSlot pc s
  | .pageHoldExpire pc bank => Sys2Proof.Machine.execPageHoldExpire pc bank s
  | .bankTimingExpire pc bank => Sys2Proof.Machine.execBankTimingExpire pc bank s
  | .lineDecode pc noise => Sys2Proof.Machine.execLineDecode pc noise s
  | .mergeRetire pc line => Sys2Proof.Machine.execMergeRetire pc line s
  | .takeOut pc => Sys2Proof.Machine.execTakeOut pc s
  | .rejoin pc => Sys2Proof.Machine.execRejoin pc s
  | .drainComplete pc => Sys2Proof.Machine.execDrainComplete pc s
  | .timingWrite pc reg v => Sys2Proof.Machine.execTimingWrite pc reg v s
  | .tsvPointChange q => Sys2Proof.Machine.execTsvPointChange q s
  | .tsvPointReady q => Sys2Proof.Machine.execTsvPointReady q s
  | .refreshDue pc => Sys2Proof.Machine.execRefreshDue pc s
  | .refmuComplete pc => Sys2Proof.Machine.execRefmuComplete pc s
  | .refCfgWrite pc v => Sys2Proof.Machine.execRefCfgWrite pc v s
  | .qmeSlot q => Sys2Proof.Machine.execQmeSlot q s
  | .carderPageInterval pc => Sys2Proof.Machine.execCarderPageInterval pc s
  | .healCopyDelivered line => Sys2Proof.Machine.execHealCopyDelivered line s
  | .healTimeout line => Sys2Proof.Machine.execHealTimeout line s
  | .tierForce t => Sys2Proof.Machine.execTierForce t s
  | .tierClear t => Sys2Proof.Machine.execTierClear t s
  | .dieSupplyLost d q => Sys2Proof.Machine.execDieSupplyLost d q s
  | .injArm => Sys2Proof.Machine.execInjArm s
  | .candPop => Sys2Proof.Machine.execCandPop s
  | .fuseBurn => Sys2Proof.Machine.execFuseBurn s
  | .fuseBurnDone verified cutOff => Sys2Proof.Machine.execFuseBurnDone verified cutOff s
  | .laneRepairGo pc => Sys2Proof.Machine.execLaneRepairGo pc s
  | .walkRestart pc => Sys2Proof.Machine.execWalkRestart pc s
  | .calCompareDone pc differs blamed => Sys2Proof.Machine.execCalCompareDone pc differs blamed s
  | .calWindowEnd pc ws => Sys2Proof.Machine.execCalWindowEnd pc ws s
  | .patternWindowEnd pc ws => Sys2Proof.Machine.execPatternWindowEnd pc ws s
  | .calRetrain pc => Sys2Proof.Machine.execCalRetrain pc s
  | .calFullTrain pc => Sys2Proof.Machine.execCalFullTrain pc s
  | .outRetrain pc => Sys2Proof.Machine.execOutRetrain pc s
  | .trainGroupDone pc sweeps => Sys2Proof.Machine.execTrainGroupDone pc sweeps s
  | .calOvrGo pc => Sys2Proof.Machine.execCalOvrGo pc s
  | .destageStart => Sys2Proof.Machine.execDestageStart s
  | .destageDurable unit => Sys2Proof.Machine.execDestageDurable unit s
  | .seedAdmit => Sys2Proof.Machine.execSeedAdmit s
  | .sealPoint => Sys2Proof.Machine.execSealPoint s
  | .cowStallTimeout => Sys2Proof.Machine.execCowStallTimeout s
  | .epochCommitDone => Sys2Proof.Machine.execEpochCommitDone s
  | .fullerSeal => Sys2Proof.Machine.execFullerSeal s
  | .flushRegion => Sys2Proof.Machine.execFlushRegion s
  | .flushAll => Sys2Proof.Machine.execFlushAll s
  | .fullerFold => Sys2Proof.Machine.execFullerFold s
  | .pwrfailAssert => Sys2Proof.Machine.execPwrfailAssert s
  | .supplyUndervolt rail => Sys2Proof.Machine.execSupplyUndervolt rail s
  | .drainWindowEnd => Sys2Proof.Machine.execDrainWindowEnd s
  | .hatboxRecordDurable rec => Sys2Proof.Machine.execHatboxRecordDurable rec s
  | .flushEnergySample mv => Sys2Proof.Machine.execFlushEnergySample mv s
  | .closingDone => Sys2Proof.Machine.execClosingDone s
  | .pwrfailDeassert => Sys2Proof.Machine.execPwrfailDeassert s
  | .safeStateExit => Sys2Proof.Machine.execSafeStateExit s
  | .thaltFlushStart => Sys2Proof.Machine.execThaltFlushStart s
  | .holdupSample mv => Sys2Proof.Machine.execHoldupSample mv s
  | .holdupAuditDone vaMv droopUv => Sys2Proof.Machine.execHoldupAuditDone vaMv droopUv s
  | .restoreStart => Sys2Proof.Machine.execRestoreStart s
  | .bulkRestoreUnit readable => Sys2Proof.Machine.execBulkRestoreUnit readable s
  | .faultinDone unit readable => Sys2Proof.Machine.execFaultinDone unit readable s
  | .unsavedPop => Sys2Proof.Machine.execUnsavedPop s
  | .tshutCut sensor value => Sys2Proof.Machine.execTshutCut sensor value s
  | .pair n => Sys2Proof.Machine.execPair n s
  | .eject n => Sys2Proof.Machine.execEject n s
  | .keyExport => Sys2Proof.Machine.execKeyExport s
  | .keyImport => Sys2Proof.Machine.execKeyImport s
  | .nvmeCompletion n cid ok => Sys2Proof.Machine.execNvmeCompletion n cid ok s
  | .nvmeCmdTimeout n cid => Sys2Proof.Machine.execNvmeCmdTimeout n cid s
  | .hbLinkDown n removed => Sys2Proof.Machine.execHbLinkDown n removed s
  | .hbLinkTrainTimeout n => Sys2Proof.Machine.execHbLinkTrainTimeout n s
  | .wearCheck n pctUsed dataUnits rated readOnly => Sys2Proof.Machine.execWearCheck n pctUsed dataUnits rated readOnly s
  | .cleanerStart n => Sys2Proof.Machine.execCleanerStart n s
  | .duskEnter => Sys2Proof.Machine.execDuskEnter s
  | .wakeEvent src => Sys2Proof.Machine.execWakeEvent src s
  | .wakeTimerExpire => Sys2Proof.Machine.execWakeTimerExpire s
  | .midnightWake src => Sys2Proof.Machine.execMidnightWake src s
  | .rungReqNoon => Sys2Proof.Machine.execRungReqNoon s
  | .rungReqNight => Sys2Proof.Machine.execRungReqNight s
  | .rungReqMidnight => Sys2Proof.Machine.execRungReqMidnight s
  | .nightEnter => Sys2Proof.Machine.execNightEnter s
  | .nightReqTimeout => Sys2Proof.Machine.execNightReqTimeout s
  | .govInterval p100 inst quads => Sys2Proof.Machine.execGovInterval p100 inst quads s
  | .thermalLevelTick q => Sys2Proof.Machine.execThermalLevelTick q s
  | .tsvPointReq => Sys2Proof.Machine.execTsvPointReq s
  | .sensorSample sensor smp => Sys2Proof.Machine.execSensorSample sensor smp s
  | .sensorRestore sensor => Sys2Proof.Machine.execSensorRestore sensor s
  | .watchdogExpire => Sys2Proof.Machine.execWatchdogExpire s
  | .wdtKick v => Sys2Proof.Machine.execWdtKick v s
  | .coreRestart => Sys2Proof.Machine.execCoreRestart s
  | .bootRomTimeout => Sys2Proof.Machine.execBootRomTimeout s
  | .firmwareHandover => Sys2Proof.Machine.execFirmwareHandover s
  | .i3cRegRead bytes => Sys2Proof.Machine.execI3cRegRead bytes s
  | .i3cRegWrite bytes => Sys2Proof.Machine.execI3cRegWrite bytes s
  | .entdaa da => Sys2Proof.Machine.execEntdaa da s
  | .setdasa da => Sys2Proof.Machine.execSetdasa da s
  | .rstdaa => Sys2Proof.Machine.execRstdaa s
  | .enec ev => Sys2Proof.Machine.execEnec ev s
  | .disec ev => Sys2Proof.Machine.execDisec ev s
  | .getpid => Sys2Proof.Machine.execGetpid s
  | .getbcr => Sys2Proof.Machine.execGetbcr s
  | .getdcr => Sys2Proof.Machine.execGetdcr s
  | .getstatus => Sys2Proof.Machine.execGetstatus s
  | .getmxds => Sys2Proof.Machine.execGetmxds s
  | .rstact act => Sys2Proof.Machine.execRstact act s
  | .ibiRetry => Sys2Proof.Machine.execIbiRetry s
  | .fwupBegin m => Sys2Proof.Machine.execFwupBegin m s
  | .fwupVerify m => Sys2Proof.Machine.execFwupVerify m s
  | .fwupActivate m => Sys2Proof.Machine.execFwupActivate m s
  | .fwupConfirm m => Sys2Proof.Machine.execFwupConfirm m s
  | .fwupAbort m => Sys2Proof.Machine.execFwupAbort m s
  | .fwupDataWrite m v => Sys2Proof.Machine.execFwupDataWrite m v s
  | .lcTransition m => Sys2Proof.Machine.execLcTransition m s
  | .faultEvent src external => Sys2Proof.Machine.execFaultEvent src external s
  | .faultIntegrity src => Sys2Proof.Machine.execFaultIntegrity src s
  | .integrityRecover src => Sys2Proof.Machine.execIntegrityRecover src s
  | .captureHandle m v => Sys2Proof.Machine.execCaptureHandle m v s
  | .faultForce src => Sys2Proof.Machine.execFaultForce src s
  | .forcedEventEnd src => Sys2Proof.Machine.execForcedEventEnd src s
  | .faultEscalate src => Sys2Proof.Machine.execFaultEscalate src s
  | .alertTimer => Sys2Proof.Machine.execAlertTimer s
  | .errnRelease => Sys2Proof.Machine.execErrnRelease s
  | .bistInterconnect cond => Sys2Proof.Machine.execBistInterconnect cond s
  | .bistAnalog cond failing lanes sensors => Sys2Proof.Machine.execBistAnalog cond failing lanes sensors s
  | .bistArray cond => Sys2Proof.Machine.execBistArray cond s
  | .bistAbort => Sys2Proof.Machine.execBistAbort s
  | .icPassTimer cond => Sys2Proof.Machine.execIcPassTimer cond s
  | .bistCondCheck cond => Sys2Proof.Machine.execBistCondCheck cond s
  | .bistStepDone failing => Sys2Proof.Machine.execBistStepDone failing s
  | .extest => Sys2Proof.Machine.execExtest s
  | .idcode => Sys2Proof.Machine.execIdcode s
  | .samplePreload => Sys2Proof.Machine.execSamplePreload s
  | .extestPulse => Sys2Proof.Machine.execExtestPulse s
  | .extestTrain => Sys2Proof.Machine.execExtestTrain s
  | .clamp => Sys2Proof.Machine.execClamp s
  | .highz => Sys2Proof.Machine.execHighz s
  | .mgmtAccess dr => Sys2Proof.Machine.execMgmtAccess dr s
  | .dawnHold => Sys2Proof.Machine.execDawnHold s
  | .dawnRelease => Sys2Proof.Machine.execDawnRelease s
  | .stackSel dies => Sys2Proof.Machine.execStackSel dies s
  | .wrapSel core wsBypass cleared => Sys2Proof.Machine.execWrapSel core wsBypass cleared s
  | .scanEnter cleared => Sys2Proof.Machine.execScanEnter cleared s
  | .bypass => Sys2Proof.Machine.execBypass s
  | .otpRead m tight => Sys2Proof.Machine.execOtpRead m tight s
  | .otpProg m cond verified => Sys2Proof.Machine.execOtpProg m cond verified s
  | .otpSeal m cond verified weak => Sys2Proof.Machine.execOtpSeal m cond verified weak s
  | .otpReburn m cond agree verified => Sys2Proof.Machine.execOtpReburn m cond agree verified s
  | .otpRedirect m cond => Sys2Proof.Machine.execOtpRedirect m cond s
  | .otpWeakPop => Sys2Proof.Machine.execOtpWeakPop s
  | .battStageData m write => Sys2Proof.Machine.execBattStageData m write s
  | .battStageAddr m write => Sys2Proof.Machine.execBattStageAddr m write s
  | .battRelease m => Sys2Proof.Machine.execBattRelease m s
  | .battStageTimeout => Sys2Proof.Machine.execBattStageTimeout s
  | .battValidate m => Sys2Proof.Machine.execBattValidate m s
  | .battApply m => Sys2Proof.Machine.execBattApply m s
  | .battApplyStore m => Sys2Proof.Machine.execBattApplyStore m s
  | .battStoreDone ok => Sys2Proof.Machine.execBattStoreDone ok s
  | .battQuiesceDone => Sys2Proof.Machine.execBattQuiesceDone s
  | .powerGood straps => Sys2Proof.Machine.execPowerGood straps s
  | .resetAssert => Sys2Proof.Machine.execResetAssert s
  | .dawnStepEnd k rep => Sys2Proof.Machine.execDawnStepEnd k rep s
  | .pllLockTimeout => Sys2Proof.Machine.execPllLockTimeout s
  | .zeroFillDone => Sys2Proof.Machine.execZeroFillDone s
  | .serveNondurable => Sys2Proof.Machine.execServeNondurable s
  | .perfSnap u => Sys2Proof.Machine.execPerfSnap u s
  | .perfSnapAll => Sys2Proof.Machine.execPerfSnapAll s
  | .perfClear u => Sys2Proof.Machine.execPerfClear u s
  | .perfOvfClr u bits => Sys2Proof.Machine.execPerfOvfClr u bits s
  | .evselWrite u k v => Sys2Proof.Machine.execEvselWrite u k v s
  | .mbxTransferStart m blk v => Sys2Proof.Machine.execMbxTransferStart m blk v s
  | .mbxRelease m blk => Sys2Proof.Machine.execMbxRelease m blk s
  | .mbxCommit m blk => Sys2Proof.Machine.execMbxCommit m blk s
  | .mbxDataAccess m blk write => Sys2Proof.Machine.execMbxDataAccess m blk write s
  | .mbxClaimTimeout blk => Sys2Proof.Machine.execMbxClaimTimeout blk s
  | .regCrossingTimeout m addr write => Sys2Proof.Machine.execRegCrossingTimeout m addr write s
  | .dbgLineRead => Sys2Proof.Machine.execDbgLineRead s
  | .traceReset => Sys2Proof.Machine.execTraceReset s
  | .flitTransmit port => Sys2Proof.Machine.execFlitTransmit port s
  | .hbLinkUp n speed wide usable cart => Sys2Proof.Machine.execHbLinkUp n speed wide usable cart s
  | .powerUp => Sys2Proof.Machine.execPowerUp s
  | .supplyOvervolt rail => Sys2Proof.Machine.execSupplyOvervolt rail s
  | .controllerFatalStatus n => Sys2Proof.Machine.execControllerFatalStatus n s
  | .pcieErrorMessage n correctable => Sys2Proof.Machine.execPcieErrorMessage n correctable s
  | .interconnectPassEnd failing => Sys2Proof.Machine.execInterconnectPassEnd failing s

end Sys2Proof.Machine
end

