-- ==== Sys2Proof/Machine/Tick.lean ====
section
/-! DEFINITION. The passing of device time on an empty queue (DESIGN CHOICE, notes/assumptions/1.md): 5 ns, in which the
block's own engines do what waits for nothing but time, and the performance counters advance (R521-R531). -/
namespace Sys2Proof.Machine

/-! ### Counters (R521-R525, R530, R531) -/

/-- Cycles of a unit's clock in one tick: QCLK 1.6 GHz, XCLK 1.4 GHz, FCLK and HCLK 1.0 GHz. -/
def tickCycles (u : Nat) : Nat := if u < 4 then 8 else if u < 11 then 7 else 5

/-- The clock of a unit runs: gated in Dusk but for HCLK, off in Night (R410). (DEDUCED, notes/assumptions/157.md) -/
def Dev.perfRuns (s : Dev) (u : Nat) : Bool := s.rung = rungNoon || (s.rung = rungDusk && 12 ≤ u)

/-- The sum over the instances that a FILTER selects; none: no instance. -/
def filtered (xs : List (Nat × Nat)) (filter : Nat) : Option Nat :=
  if filter = 0x3F then some (xs.foldl (fun a x => a + x.2) 0) else (xs.find? (fun x => x.1 = filter)).map Prod.snd

/-- The pseudo-channels of a quadrant by local index, measured. -/
def Dev.quadMeasure (s : Dev) (q : Nat) (f : Pc → Nat) : List (Nat × Nat) :=
  (List.range 32).map (fun k => (k, f (s.pc (32 * q + k))))

/-- The level of an occupancy event at a unit (R523); none: no such event, or no such instance. -/
def Dev.occupancy (s : Dev) (u ev filter : Nat) : Option Nat :=
  if u < 4 then
    match ev with
    | 0x20 => filtered (s.quadMeasure u (fun c => c.l0Reads.length)) filter
    | 0x21 => filtered (s.quadMeasure u (fun c => c.l1.length)) filter
    | 0x22 => filtered (s.quadMeasure u (fun c => c.wqUsed)) filter
    | 0x23 => filtered (s.quadMeasure u (fun c => c.mergeBuf.length)) filter
    | 0x24 => filtered (s.quadMeasure u Pc.l2Used) filter
    | 0x25 => filtered (s.quadMeasure u (fun c => ((List.range 32).filter (fun b => !(c.bank b).waitsFor.isEmpty)).length)) filter
    | 0x26 => some (s.qme u).waiting.length
    | _ => none
  else if u < 10 then
    match ev with
    | 0x20 => filtered [(noInst, (s.fp (u - 4)).replay.length)] filter
    | 0x21 => filtered ((List.range 4).map (fun v => (v, (s.fp (u - 4)).rxUsed.get (fun _ => 0) v))) filter
    | _ => none
  else if u = 11 then (if ev = 0x20 then filtered [(noInst, s.dirtyUnits / 1024)] filter else none)
  else if 12 ≤ u then
    if ev = 0x20 then
      filtered ((List.range 8).map (fun k => (k + 1, ((s.hb (u - 12)).cmds.filter (fun c => c.qid = k + 1)).length))) filter
    else none
  else none

/-- Occurrences per cycle of a count event that tells how long a condition holds (R523): packets that wait behind another
at a crossbar output, back-pressure, copy-on-write stalls. (DEDUCED, notes/assumptions/156.md) -/
def Dev.perCycle (s : Dev) (u ev filter : Nat) : Option Nat :=
  if u = 10 && ev = 4 then
    filtered ((List.range 6).map (fun n => (n, (decide (2 ≤ (s.fp n).txq.length)).toNat)) ++
      (List.range 4).map (fun q => (8 + q, ((s.quadMeasure q (fun c => c.xbarQ.length)).any (fun x => 2 ≤ x.2)).toNat))) filter
  else if u = 11 && ev = 6 then filtered [(noInst, (s.flag base.fcore FULLER.STATUS.BP).toNat)] filter
  else if u = 11 && ev = 7 then filtered [(noInst, s.stalled.toNat)] filter
  else none

/-- A counter over a tick's cycles (R524). -/
def Dev.tickCounter (s : Dev) (u k : Nat) : Dev :=
  let f (x : Fld) := s.rd (base.perf u) (x.at 4 k)
  let m := f PERF.EVSEL.MODE
  let cy := tickCycles u
  let above (n : Nat) : Nat := if f PERF.EVSEL.THRESH < n then cy else 0
  if m = 0 then s
  else
    match s.occupancy u (f PERF.EVSEL.EVENT) (f PERF.EVSEL.FILTER), s.perCycle u (f PERF.EVSEL.EVENT) (f PERF.EVSEL.FILTER) with
    | some n, _ => s.perfAdd u (2 + k) (if m = 1 then (if n = 0 then 0 else cy) else if m = 2 then above n else n * cy)
    | none, some n => s.perfAdd u (2 + k) (if m = 2 then above n else n * cy)
    | none, none => s

/-- A unit's counters over a tick. -/
def Dev.tickPerf (s : Dev) (u : Nat) : Dev :=
  if s.perfFrozen u || !s.perfRuns u then s
  else (s.each (List.range 8) (fun s k => s.tickCounter u k)).perfAdd u 1 (tickCycles u)

/-! ### The tick -/

/-- A GO in FULLER.CORE.CMD that was held is taken once CMD is free (R5, R326). (DEDUCED, notes/assumptions/158.md) -/
def Dev.fullerGo (s : Dev) : Dev := if s.flag base.fcore FULLER.CMD.GO && s.cmdFree then s.fullerCmd else s

/-- What the block's engines do of themselves. -/
def Dev.engines (s : Dev) : Dev :=
  let s1 := s.lateWrites.pullCommands.fullerGo.bistHeldGo.quadsRejoin
  let s2 := s1.pfAdvance.nightAdvance.tryEnding.fabricTime
  s2.spiTick.each (List.range 14) Dev.tickPerf

/-- One idle tick of 5 ns. Without power or clocks only device time runs on. -/
def Dev.tick (s : Dev) : Dev :=
  let s1 : Dev := { s with now := s.now + 5 }
  let s2 := if s1.now % 1000 = 0 then s1.slewStep else s1
  if s2.unclocked || s2.shut then s2 else s2.engines

end Sys2Proof.Machine
end

