-- ==== Sys2Proof/Laws/Tab.lean ====
section
/-! SUPPORT. Laws of the sparse tables: a read after a write, every other key untouched, the canonical form kept. -/
namespace Sys2Proof

variable {V : Type}

theorem Tab.get_place_same (d : Nat → V) (k : Nat) (v : V) (t : Tab V) (h : ∀ x ∈ t, x.1 ≠ k) :
    Tab.get d (Tab.place k v t) k = v := by
  induction t with
  | nil => simp [Tab.place, Tab.get]
  | cons x t ih =>
    obtain ⟨j, w⟩ := x
    have hj : j ≠ k := h (j, w) (by simp)
    simp only [Tab.place]
    split
    · simp [Tab.get]
    · simp [Tab.get, hj, ih (fun y hy => h y (by simp [hy]))]

theorem Tab.get_place_ne (d : Nat → V) (k k' : Nat) (v : V) (t : Tab V) (h : k' ≠ k) :
    Tab.get d (Tab.place k v t) k' = Tab.get d t k' := by
  induction t with
  | nil => simp [Tab.place, Tab.get, Ne.symm h]
  | cons x t ih =>
    obtain ⟨j, w⟩ := x
    simp only [Tab.place]
    split
    · simp [Tab.get, Ne.symm h]
    · simp [Tab.get, ih]

theorem Tab.get_filter_same (d : Nat → V) (k : Nat) (t : Tab V) :
    Tab.get d (t.filter (fun x => x.1 ≠ k)) k = d k := by
  induction t with
  | nil => rfl
  | cons x t ih =>
    obtain ⟨j, w⟩ := x
    by_cases hj : j = k
    · simpa [List.filter, hj] using ih
    · simpa [List.filter, hj, Tab.get] using ih

theorem Tab.get_filter_ne (d : Nat → V) (k k' : Nat) (t : Tab V) (h : k' ≠ k) :
    Tab.get d (t.filter (fun x => x.1 ≠ k)) k' = Tab.get d t k' := by
  induction t with
  | nil => rfl
  | cons x t ih =>
    obtain ⟨j, w⟩ := x
    by_cases hj : j = k
    · simpa [List.filter, hj, Tab.get, Ne.symm h] using ih
    · have e : ((j, w) :: t).filter (fun x => x.1 ≠ k) = (j, w) :: t.filter (fun x => x.1 ≠ k) := by
        simp [List.filter, hj]
      rw [e]
      simp only [Tab.get, ih]

/-- A read after a write of a table. -/
theorem Tab.get_set [DecidableEq V] (d : Nat → V) (t : Tab V) (k k' : Nat) (v : V) :
    Tab.get d (Tab.set d t k v) k' = if k' = k then v else Tab.get d t k' := by
  unfold Tab.set
  by_cases h : k' = k
  · subst h
    by_cases hv : v = d k'
    · simpa [hv] using Tab.get_filter_same d k' t
    · simp only [hv, if_false, if_true]
      exact Tab.get_place_same d k' v _ (by intro x hx; simpa using (List.mem_filter.mp hx).2)
  · by_cases hv : v = d k
    · simpa [hv, h] using Tab.get_filter_ne d k k' t h
    · simp only [hv, h, if_false]
      rw [Tab.get_place_ne d k k' v _ h, Tab.get_filter_ne d k k' t h]

@[simp] theorem Tab.get_set_same [DecidableEq V] (d : Nat → V) (t : Tab V) (k : Nat) (v : V) :
    Tab.get d (Tab.set d t k v) k = v := by simp [Tab.get_set]

theorem Tab.get_set_ne [DecidableEq V] (d : Nat → V) (t : Tab V) {k k' : Nat} (v : V) (h : k' ≠ k) :
    Tab.get d (Tab.set d t k v) k' = Tab.get d t k' := by simp [Tab.get_set, h]

/-! ### The canonical form -/

theorem Tab.wfFrom_weaken [DecidableEq V] (d : Nat → V) (lo : Option Nat) (t : Tab V) (h : Tab.wfFrom d lo t = true) :
    Tab.wfFrom d none t = true := by
  cases t with
  | nil => rfl
  | cons x t => obtain ⟨k, v⟩ := x; simp only [Tab.wfFrom, Bool.and_eq_true] at h ⊢; exact ⟨⟨trivial, h.1.2⟩, h.2⟩

theorem Tab.wfFrom_lower [DecidableEq V] (d : Nat → V) (lo hi : Nat) (t : Tab V) (h : Tab.wfFrom d (some hi) t = true)
    (hl : lo ≤ hi) : Tab.wfFrom d (some lo) t = true := by
  cases t with
  | nil => rfl
  | cons x t =>
    obtain ⟨k, v⟩ := x
    simp only [Tab.wfFrom, Bool.and_eq_true, decide_eq_true_eq] at h ⊢
    exact ⟨⟨by omega, h.1.2⟩, h.2⟩

theorem Tab.wfFrom_bound [DecidableEq V] (d : Nat → V) (b : Nat) (lo : Option Nat) (t : Tab V)
    (h : Tab.wfFrom d (some b) t = true) (hl : ∀ j, lo = some j → j ≤ b) : Tab.wfFrom d lo t = true := by
  cases lo with
  | none => exact Tab.wfFrom_weaken d _ t h
  | some j => exact Tab.wfFrom_lower d j b t h (hl j rfl)

theorem Tab.wfFrom_filter [DecidableEq V] (d : Nat → V) (p : Nat × V → Bool) (lo : Option Nat) (t : Tab V)
    (h : Tab.wfFrom d lo t = true) : Tab.wfFrom d lo (t.filter p) = true := by
  induction t generalizing lo with
  | nil => simpa using h
  | cons x t ih =>
    obtain ⟨k, v⟩ := x
    have h' := h
    simp only [Tab.wfFrom, Bool.and_eq_true] at h'
    by_cases hp : p (k, v)
    · simp only [List.filter, hp, Tab.wfFrom, Bool.and_eq_true]
      exact ⟨h'.1, ih _ h'.2⟩
    · simp only [List.filter, hp]
      refine ih lo (Tab.wfFrom_bound d k lo t h'.2 ?_)
      intro j hj
      have := h'.1.1
      simp only [hj, decide_eq_true_eq] at this
      omega

theorem Tab.wfFrom_place [DecidableEq V] (d : Nat → V) (k : Nat) (v : V) (hv : v ≠ d k) (lo : Option Nat) (t : Tab V)
    (h : Tab.wfFrom d lo t = true) (hk : ∀ x ∈ t, x.1 ≠ k) (hl : ∀ j, lo = some j → j < k) :
    Tab.wfFrom d lo (Tab.place k v t) = true := by
  induction t generalizing lo with
  | nil =>
    cases lo with
    | none => simp [Tab.place, Tab.wfFrom, hv]
    | some j => simp [Tab.place, Tab.wfFrom, hv, hl j rfl]
  | cons x t ih =>
    obtain ⟨j, w⟩ := x
    simp only [Tab.wfFrom, Bool.and_eq_true, decide_eq_true_eq] at h
    have hj : j ≠ k := hk (j, w) (by simp)
    simp only [Tab.place]
    split
    · cases lo with
      | none => simp_all [Tab.wfFrom]
      | some i => have := hl i rfl; simp_all [Tab.wfFrom]
    · have hjk : j < k := by omega
      simp only [Tab.wfFrom, Bool.and_eq_true, decide_eq_true_eq]
      exact ⟨h.1, ih (some j) h.2 (fun y hy => hk y (by simp [hy])) (by intro i hi; simp at hi; omega)⟩

/-- Every write keeps the canonical form. -/
theorem Tab.wf_set [DecidableEq V] (d : Nat → V) (t : Tab V) (k : Nat) (v : V) (h : Tab.wf d t = true) :
    Tab.wf d (Tab.set d t k v) = true := by
  unfold Tab.set Tab.wf
  have hf := Tab.wfFrom_filter d (fun x => x.1 ≠ k) none t h
  by_cases hv : v = d k
  · simpa [hv] using hf
  · simp only [hv, if_false]
    exact Tab.wfFrom_place d k v hv none _ hf (by intro x hx; simpa using (List.mem_filter.mp hx).2) (by simp)

/-- A table cut by a test stays in canonical form. -/
theorem Tab.wf_filter [DecidableEq V] (d : Nat → V) (p : Nat × V → Bool) (t : Tab V) (h : Tab.wf d t = true) :
    Tab.wf d (t.filter p) = true := Tab.wfFrom_filter d p none t h

end Sys2Proof
end

