-- ==== Sys2Proof/Laws/Regs.lean ====
section
/-! SUPPORT. Laws of registers and their fields: what a field reads after a field has been set. -/
namespace Sys2Proof.Machine

/-! ### Fields of a word -/

theorem Fld.get_eq (f : Fld) (w : Word) : f.get w = w.toNat / 2 ^ f.lo % 2 ^ f.len := by
  simp [Fld.get, BitVec.extractLsb'_toNat, Nat.shiftRight_eq_div_pow]

theorem Fld.testBit_get (f : Fld) (w : Word) (i : Nat) :
    (f.get w).testBit i = (decide (i < f.len) && w.getLsbD (f.lo + i)) := by
  rw [Fld.get_eq, Nat.testBit_mod_two_pow, Nat.testBit_div_two_pow, Nat.add_comm]
  rfl

theorem Fld.getLsbD_set (f : Fld) (w : Word) (v i : Nat) :
    (f.set w v).getLsbD i =
      (decide (i < 32) && if f.lo ≤ i ∧ i < f.lo + f.len then v.testBit (i - f.lo) else w.getLsbD i) := by
  have h1 : ((2 ^ f.len - 1) * 2 ^ f.lo).testBit i = (decide (f.lo ≤ i) && decide (i - f.lo < f.len)) := by
    rw [← Nat.shiftLeft_eq, Nat.testBit_shiftLeft, Nat.testBit_two_pow_sub_one]
  have h2 : (v % 2 ^ f.len * 2 ^ f.lo).testBit i =
      (decide (f.lo ≤ i) && (decide (i - f.lo < f.len) && v.testBit (i - f.lo))) := by
    rw [← Nat.shiftLeft_eq, Nat.testBit_shiftLeft, Nat.testBit_mod_two_pow]
  by_cases h32 : i < 32
  · simp only [Fld.set, BitVec.getLsbD_or, BitVec.getLsbD_and, BitVec.getLsbD_not, BitVec.getLsbD_ofNat, h1, h2, h32,
      decide_true, Bool.true_and]
    by_cases ha : f.lo ≤ i
    · by_cases hb : i - f.lo < f.len
      · have : f.lo ≤ i ∧ i < f.lo + f.len := ⟨ha, by omega⟩
        simp [ha, hb, this]
      · have : ¬ (f.lo ≤ i ∧ i < f.lo + f.len) := by omega
        rw [if_neg this]
        simp [ha, hb]
    · have : ¬ (f.lo ≤ i ∧ i < f.lo + f.len) := by omega
      simp [ha, this]
  · have hw : (f.set w v).getLsbD i = false := BitVec.getLsbD_of_ge _ _ (by omega)
    simp [h32, hw]

/-- A field reads the value it was set to, cut to its width. -/
theorem Fld.get_set_same (f : Fld) (w : Word) (v : Nat) (h : f.lo + f.len ≤ 32) : f.get (f.set w v) = v % 2 ^ f.len := by
  apply Nat.eq_of_testBit_eq
  intro i
  rw [Fld.testBit_get, Fld.getLsbD_set, Nat.testBit_mod_two_pow]
  by_cases hi : i < f.len
  · have h1 : f.lo + i < 32 := by omega
    have h2 : f.lo ≤ f.lo + i ∧ f.lo + i < f.lo + f.len := by omega
    simp [hi, h1, h2]
  · simp [hi]

/-- Setting a field leaves a field beside it alone. -/
theorem Fld.get_set_apart (f g : Fld) (w : Word) (v : Nat) (h : g.lo + g.len ≤ f.lo ∨ f.lo + f.len ≤ g.lo) :
    g.get (f.set w v) = g.get w := by
  apply Nat.eq_of_testBit_eq
  intro i
  rw [Fld.testBit_get, Fld.testBit_get, Fld.getLsbD_set]
  by_cases hi : i < g.len
  · have hn : ¬ (f.lo ≤ g.lo + i ∧ g.lo + i < f.lo + f.len) := by omega
    by_cases h32 : g.lo + i < 32
    · simp [hi, hn, h32]
    · have : w.getLsbD (g.lo + i) = false := BitVec.getLsbD_of_ge _ _ (by omega)
      simp [hi, hn, h32, this]
  · simp [hi]

theorem Fld.get_lt (f : Fld) (w : Word) : f.get w < 2 ^ f.len := by
  rw [Fld.get_eq]; exact Nat.mod_lt _ (Nat.two_pow_pos _)

/-! ### Registers -/

theorem Dev.reg_setReg (s : Dev) (a b : Nat) (w : Word) : (s.setReg a w).reg b = if b = a then w else s.reg b := by
  simp [Dev.reg, Dev.setReg, Tab.get_set]

@[simp] theorem Dev.reg_setReg_same (s : Dev) (a : Nat) (w : Word) : (s.setReg a w).reg a = w := by
  simp [Dev.reg_setReg]

theorem Dev.reg_put (s : Dev) (b : Nat) (f : Fld) (v a : Nat) :
    (s.put b f v).reg a = if a = b + f.off then f.set (s.reg (b + f.off)) v else s.reg a := by
  simp [Dev.put, Dev.reg_setReg]

/-- A field reads the value it was put to. -/
theorem Dev.rd_put_same (s : Dev) (b : Nat) (f : Fld) (v : Nat) (h : f.lo + f.len ≤ 32) :
    (s.put b f v).rd b f = v % 2 ^ f.len := by
  simp [Dev.rd, Dev.reg_put, Fld.get_set_same f _ v h]

/-- A put leaves every other register alone. -/
theorem Dev.rd_put_other (s : Dev) (b c : Nat) (f g : Fld) (v : Nat) (h : c + g.off ≠ b + f.off) :
    (s.put b f v).rd c g = s.rd c g := by
  simp [Dev.rd, Dev.reg_put, h]

/-- A put leaves the other fields of its register alone. -/
theorem Dev.rd_put_apart (s : Dev) (b : Nat) (f g : Fld) (v : Nat) (ho : g.off = f.off)
    (h : g.lo + g.len ≤ f.lo ∨ f.lo + f.len ≤ g.lo) : (s.put b f v).rd b g = s.rd b g := by
  simp [Dev.rd, Dev.reg_put, ho, Fld.get_set_apart f g _ v h]

theorem Dev.rd_setReg (s : Dev) (a c : Nat) (w : Word) (g : Fld) :
    (s.setReg a w).rd c g = if c + g.off = a then g.get w else s.rd c g := by
  simp only [Dev.rd, Dev.reg_setReg]; split <;> rfl

theorem Dev.rd_lt (s : Dev) (b : Nat) (f : Fld) : s.rd b f < 2 ^ f.len := Fld.get_lt _ _

/-! ### WIDE fields -/

theorem Dev.wideOf_setWide (s : Dev) (b sel c sel' v : Nat) :
    (s.setWide b sel v).wideOf c sel' = if wideKey c sel' = wideKey b sel then v else s.wideOf c sel' := by
  simp [Dev.wideOf, Dev.setWide, Tab.get_set]

@[simp] theorem Dev.wideOf_setWide_same (s : Dev) (b sel v : Nat) : (s.setWide b sel v).wideOf b sel = v := by
  simp [Dev.wideOf_setWide]

/-! ### Parts of the device -/

@[simp] theorem Dev.pc_setPc (s : Dev) (p q : Nat) (v : Pc) : (s.setPc p v).pc q = if q = p then v else s.pc q := by
  simp [Dev.pc, Dev.setPc, Tab.get_set]

@[simp] theorem Dev.pc_upPc (s : Dev) (p q : Nat) (f : Pc → Pc) :
    (s.upPc p f).pc q = if q = p then f (s.pc p) else s.pc q := by simp [Dev.upPc]

@[simp] theorem Dev.fp_setFp (s : Dev) (n m : Nat) (v : Fp) : (s.setFp n v).fp m = if m = n then v else s.fp m := by
  simp [Dev.fp, Dev.setFp, Tab.get_set]

@[simp] theorem Dev.fp_upFp (s : Dev) (n m : Nat) (f : Fp → Fp) :
    (s.upFp n f).fp m = if m = n then f (s.fp n) else s.fp m := by simp [Dev.upFp]

@[simp] theorem Dev.qme_setQme (s : Dev) (n m : Nat) (v : Qme) : (s.setQme n v).qme m = if m = n then v else s.qme m := by
  simp [Dev.qme, Dev.setQme, Tab.get_set]

@[simp] theorem Dev.hb_setHb (s : Dev) (n m : Nat) (v : Hb) : (s.setHb n v).hb m = if m = n then v else s.hb m := by
  simp [Dev.hb, Dev.setHb, Tab.get_set]

@[simp] theorem Dev.hb_upHb (s : Dev) (n m : Nat) (f : Hb → Hb) :
    (s.upHb n f).hb m = if m = n then f (s.hb n) else s.hb m := by simp [Dev.upHb]

@[simp] theorem Dev.mailbox_setMailbox (s : Dev) (b c : Nat) (v : Mbx) :
    (s.setMailbox b v).mailbox c = if c = b then v else s.mailbox c := by
  simp [Dev.mailbox, Dev.setMailbox, Tab.get_set]

@[simp] theorem Dev.lineAt_setLine (s : Dev) (k j : Nat) (v : Line) : (s.setLine k v).lineAt j = if j = k then v else s.lineAt j := by
  simp [Dev.lineAt, Dev.setLine, Tab.get_set]

@[simp] theorem Dev.unitState_setUnitState (s : Dev) (u w : Nat) (v : BitVec 2) :
    (s.setUnitState u v).unitState w = if w = u then v else s.unitState w := by
  simp [Dev.unitState, Dev.setUnitState, Tab.get_set]

/-! ### The step of a command -/

/-- Every command that acts on the device answers a next state whose queue is as before. -/
@[simp] theorem State.act_eq (s : State) (f : Dev → Dev) : s.act f = .next { s with toDev := f s.toDev } := rfl

end Sys2Proof.Machine
end

