-- ==== Sys2Proof/Laws/State.lean ====
section
/-! SUPPORT. One lemma per field of the device and per named update: the fields that an update does not touch. -/
namespace Sys2Proof.Machine

/-! ### setReg -/

@[simp] theorem Dev.now_setReg (s : Dev) (a : Nat) (w : Word) : (s.setReg a w).now = s.now := rfl
@[simp] theorem Dev.skew_setReg (s : Dev) (a : Nat) (w : Word) : (s.setReg a w).skew = s.skew := rfl
@[simp] theorem Dev.slew_setReg (s : Dev) (a : Nat) (w : Word) : (s.setReg a w).slew = s.slew := rfl
@[simp] theorem Dev.free_setReg (s : Dev) (a : Nat) (w : Word) : (s.setReg a w).free = s.free := rfl
@[simp] theorem Dev.order_setReg (s : Dev) (a : Nat) (w : Word) : (s.setReg a w).order = s.order := rfl
@[simp] theorem Dev.wide_setReg (s : Dev) (a : Nat) (w : Word) : (s.setReg a w).wide = s.wide := rfl
@[simp] theorem Dev.mbx_setReg (s : Dev) (a : Nat) (w : Word) : (s.setReg a w).mbx = s.mbx := rfl
@[simp] theorem Dev.fps_setReg (s : Dev) (a : Nat) (w : Word) : (s.setReg a w).fps = s.fps := rfl
@[simp] theorem Dev.routes_setReg (s : Dev) (a : Nat) (w : Word) : (s.setReg a w).routes = s.routes := rfl
@[simp] theorem Dev.dups_setReg (s : Dev) (a : Nat) (w : Word) : (s.setReg a w).dups = s.dups := rfl
@[simp] theorem Dev.outcomes_setReg (s : Dev) (a : Nat) (w : Word) : (s.setReg a w).outcomes = s.outcomes := rfl
@[simp] theorem Dev.offsets_setReg (s : Dev) (a : Nat) (w : Word) : (s.setReg a w).offsets = s.offsets := rfl
@[simp] theorem Dev.crown_setReg (s : Dev) (a : Nat) (w : Word) : (s.setReg a w).crown = s.crown := rfl
@[simp] theorem Dev.pcs_setReg (s : Dev) (a : Nat) (w : Word) : (s.setReg a w).pcs = s.pcs := rfl
@[simp] theorem Dev.qmes_setReg (s : Dev) (a : Nat) (w : Word) : (s.setReg a w).qmes = s.qmes := rfl
@[simp] theorem Dev.ecc_setReg (s : Dev) (a : Nat) (w : Word) : (s.setReg a w).ecc = s.ecc := rfl
@[simp] theorem Dev.fuller_setReg (s : Dev) (a : Nat) (w : Word) : (s.setReg a w).fuller = s.fuller := rfl
@[simp] theorem Dev.pf_setReg (s : Dev) (a : Nat) (w : Word) : (s.setReg a w).pf = s.pf := rfl
@[simp] theorem Dev.hbs_setReg (s : Dev) (a : Nat) (w : Word) : (s.setReg a w).hbs = s.hbs := rfl
@[simp] theorem Dev.aesLast_setReg (s : Dev) (a : Nat) (w : Word) : (s.setReg a w).aesLast = s.aesLast := rfl
@[simp] theorem Dev.batt_setReg (s : Dev) (a : Nat) (w : Word) : (s.setReg a w).batt = s.batt := rfl
@[simp] theorem Dev.otp_setReg (s : Dev) (a : Nat) (w : Word) : (s.setReg a w).otp = s.otp := rfl
@[simp] theorem Dev.mgmt_setReg (s : Dev) (a : Nat) (w : Word) : (s.setReg a w).mgmt = s.mgmt := rfl
@[simp] theorem Dev.coll_setReg (s : Dev) (a : Nat) (w : Word) : (s.setReg a w).coll = s.coll := rfl
@[simp] theorem Dev.bist_setReg (s : Dev) (a : Nat) (w : Word) : (s.setReg a w).bist = s.bist := rfl
@[simp] theorem Dev.icStart_setReg (s : Dev) (a : Nat) (w : Word) : (s.setReg a w).icStart = s.icStart := rfl
@[simp] theorem Dev.bistWait_setReg (s : Dev) (a : Nat) (w : Word) : (s.setReg a w).bistWait = s.bistWait := rfl
@[simp] theorem Dev.therm_setReg (s : Dev) (a : Nat) (w : Word) : (s.setReg a w).therm = s.therm := rfl
@[simp] theorem Dev.power_setReg (s : Dev) (a : Nat) (w : Word) : (s.setReg a w).power = s.power := rfl
@[simp] theorem Dev.trace_setReg (s : Dev) (a : Nat) (w : Word) : (s.setReg a w).trace = s.trace := rfl
@[simp] theorem Dev.traceUnread_setReg (s : Dev) (a : Nat) (w : Word) : (s.setReg a w).traceUnread = s.traceUnread := rfl
@[simp] theorem Dev.dbgBusy_setReg (s : Dev) (a : Nat) (w : Word) : (s.setReg a w).dbgBusy = s.dbgBusy := rfl
@[simp] theorem Dev.xlate_setReg (s : Dev) (a : Nat) (w : Word) : (s.setReg a w).xlate = s.xlate := rfl

/-! ### put -/

@[simp] theorem Dev.now_put (s : Dev) (b : Nat) (f : Fld) (v : Nat) : (s.put b f v).now = s.now := rfl
@[simp] theorem Dev.skew_put (s : Dev) (b : Nat) (f : Fld) (v : Nat) : (s.put b f v).skew = s.skew := rfl
@[simp] theorem Dev.slew_put (s : Dev) (b : Nat) (f : Fld) (v : Nat) : (s.put b f v).slew = s.slew := rfl
@[simp] theorem Dev.free_put (s : Dev) (b : Nat) (f : Fld) (v : Nat) : (s.put b f v).free = s.free := rfl
@[simp] theorem Dev.order_put (s : Dev) (b : Nat) (f : Fld) (v : Nat) : (s.put b f v).order = s.order := rfl
@[simp] theorem Dev.wide_put (s : Dev) (b : Nat) (f : Fld) (v : Nat) : (s.put b f v).wide = s.wide := rfl
@[simp] theorem Dev.mbx_put (s : Dev) (b : Nat) (f : Fld) (v : Nat) : (s.put b f v).mbx = s.mbx := rfl
@[simp] theorem Dev.fps_put (s : Dev) (b : Nat) (f : Fld) (v : Nat) : (s.put b f v).fps = s.fps := rfl
@[simp] theorem Dev.routes_put (s : Dev) (b : Nat) (f : Fld) (v : Nat) : (s.put b f v).routes = s.routes := rfl
@[simp] theorem Dev.dups_put (s : Dev) (b : Nat) (f : Fld) (v : Nat) : (s.put b f v).dups = s.dups := rfl
@[simp] theorem Dev.outcomes_put (s : Dev) (b : Nat) (f : Fld) (v : Nat) : (s.put b f v).outcomes = s.outcomes := rfl
@[simp] theorem Dev.offsets_put (s : Dev) (b : Nat) (f : Fld) (v : Nat) : (s.put b f v).offsets = s.offsets := rfl
@[simp] theorem Dev.crown_put (s : Dev) (b : Nat) (f : Fld) (v : Nat) : (s.put b f v).crown = s.crown := rfl
@[simp] theorem Dev.pcs_put (s : Dev) (b : Nat) (f : Fld) (v : Nat) : (s.put b f v).pcs = s.pcs := rfl
@[simp] theorem Dev.qmes_put (s : Dev) (b : Nat) (f : Fld) (v : Nat) : (s.put b f v).qmes = s.qmes := rfl
@[simp] theorem Dev.ecc_put (s : Dev) (b : Nat) (f : Fld) (v : Nat) : (s.put b f v).ecc = s.ecc := rfl
@[simp] theorem Dev.fuller_put (s : Dev) (b : Nat) (f : Fld) (v : Nat) : (s.put b f v).fuller = s.fuller := rfl
@[simp] theorem Dev.pf_put (s : Dev) (b : Nat) (f : Fld) (v : Nat) : (s.put b f v).pf = s.pf := rfl
@[simp] theorem Dev.hbs_put (s : Dev) (b : Nat) (f : Fld) (v : Nat) : (s.put b f v).hbs = s.hbs := rfl
@[simp] theorem Dev.aesLast_put (s : Dev) (b : Nat) (f : Fld) (v : Nat) : (s.put b f v).aesLast = s.aesLast := rfl
@[simp] theorem Dev.batt_put (s : Dev) (b : Nat) (f : Fld) (v : Nat) : (s.put b f v).batt = s.batt := rfl
@[simp] theorem Dev.otp_put (s : Dev) (b : Nat) (f : Fld) (v : Nat) : (s.put b f v).otp = s.otp := rfl
@[simp] theorem Dev.mgmt_put (s : Dev) (b : Nat) (f : Fld) (v : Nat) : (s.put b f v).mgmt = s.mgmt := rfl
@[simp] theorem Dev.coll_put (s : Dev) (b : Nat) (f : Fld) (v : Nat) : (s.put b f v).coll = s.coll := rfl
@[simp] theorem Dev.bist_put (s : Dev) (b : Nat) (f : Fld) (v : Nat) : (s.put b f v).bist = s.bist := rfl
@[simp] theorem Dev.icStart_put (s : Dev) (b : Nat) (f : Fld) (v : Nat) : (s.put b f v).icStart = s.icStart := rfl
@[simp] theorem Dev.bistWait_put (s : Dev) (b : Nat) (f : Fld) (v : Nat) : (s.put b f v).bistWait = s.bistWait := rfl
@[simp] theorem Dev.therm_put (s : Dev) (b : Nat) (f : Fld) (v : Nat) : (s.put b f v).therm = s.therm := rfl
@[simp] theorem Dev.power_put (s : Dev) (b : Nat) (f : Fld) (v : Nat) : (s.put b f v).power = s.power := rfl
@[simp] theorem Dev.trace_put (s : Dev) (b : Nat) (f : Fld) (v : Nat) : (s.put b f v).trace = s.trace := rfl
@[simp] theorem Dev.traceUnread_put (s : Dev) (b : Nat) (f : Fld) (v : Nat) : (s.put b f v).traceUnread = s.traceUnread := rfl
@[simp] theorem Dev.dbgBusy_put (s : Dev) (b : Nat) (f : Fld) (v : Nat) : (s.put b f v).dbgBusy = s.dbgBusy := rfl
@[simp] theorem Dev.xlate_put (s : Dev) (b : Nat) (f : Fld) (v : Nat) : (s.put b f v).xlate = s.xlate := rfl

/-! ### putFlag -/

@[simp] theorem Dev.now_putFlag (s : Dev) (b : Nat) (f : Fld) (v : Bool) : (s.putFlag b f v).now = s.now := rfl
@[simp] theorem Dev.skew_putFlag (s : Dev) (b : Nat) (f : Fld) (v : Bool) : (s.putFlag b f v).skew = s.skew := rfl
@[simp] theorem Dev.slew_putFlag (s : Dev) (b : Nat) (f : Fld) (v : Bool) : (s.putFlag b f v).slew = s.slew := rfl
@[simp] theorem Dev.free_putFlag (s : Dev) (b : Nat) (f : Fld) (v : Bool) : (s.putFlag b f v).free = s.free := rfl
@[simp] theorem Dev.order_putFlag (s : Dev) (b : Nat) (f : Fld) (v : Bool) : (s.putFlag b f v).order = s.order := rfl
@[simp] theorem Dev.wide_putFlag (s : Dev) (b : Nat) (f : Fld) (v : Bool) : (s.putFlag b f v).wide = s.wide := rfl
@[simp] theorem Dev.mbx_putFlag (s : Dev) (b : Nat) (f : Fld) (v : Bool) : (s.putFlag b f v).mbx = s.mbx := rfl
@[simp] theorem Dev.fps_putFlag (s : Dev) (b : Nat) (f : Fld) (v : Bool) : (s.putFlag b f v).fps = s.fps := rfl
@[simp] theorem Dev.routes_putFlag (s : Dev) (b : Nat) (f : Fld) (v : Bool) : (s.putFlag b f v).routes = s.routes := rfl
@[simp] theorem Dev.dups_putFlag (s : Dev) (b : Nat) (f : Fld) (v : Bool) : (s.putFlag b f v).dups = s.dups := rfl
@[simp] theorem Dev.outcomes_putFlag (s : Dev) (b : Nat) (f : Fld) (v : Bool) : (s.putFlag b f v).outcomes = s.outcomes := rfl
@[simp] theorem Dev.offsets_putFlag (s : Dev) (b : Nat) (f : Fld) (v : Bool) : (s.putFlag b f v).offsets = s.offsets := rfl
@[simp] theorem Dev.crown_putFlag (s : Dev) (b : Nat) (f : Fld) (v : Bool) : (s.putFlag b f v).crown = s.crown := rfl
@[simp] theorem Dev.pcs_putFlag (s : Dev) (b : Nat) (f : Fld) (v : Bool) : (s.putFlag b f v).pcs = s.pcs := rfl
@[simp] theorem Dev.qmes_putFlag (s : Dev) (b : Nat) (f : Fld) (v : Bool) : (s.putFlag b f v).qmes = s.qmes := rfl
@[simp] theorem Dev.ecc_putFlag (s : Dev) (b : Nat) (f : Fld) (v : Bool) : (s.putFlag b f v).ecc = s.ecc := rfl
@[simp] theorem Dev.fuller_putFlag (s : Dev) (b : Nat) (f : Fld) (v : Bool) : (s.putFlag b f v).fuller = s.fuller := rfl
@[simp] theorem Dev.pf_putFlag (s : Dev) (b : Nat) (f : Fld) (v : Bool) : (s.putFlag b f v).pf = s.pf := rfl
@[simp] theorem Dev.hbs_putFlag (s : Dev) (b : Nat) (f : Fld) (v : Bool) : (s.putFlag b f v).hbs = s.hbs := rfl
@[simp] theorem Dev.aesLast_putFlag (s : Dev) (b : Nat) (f : Fld) (v : Bool) : (s.putFlag b f v).aesLast = s.aesLast := rfl
@[simp] theorem Dev.batt_putFlag (s : Dev) (b : Nat) (f : Fld) (v : Bool) : (s.putFlag b f v).batt = s.batt := rfl
@[simp] theorem Dev.otp_putFlag (s : Dev) (b : Nat) (f : Fld) (v : Bool) : (s.putFlag b f v).otp = s.otp := rfl
@[simp] theorem Dev.mgmt_putFlag (s : Dev) (b : Nat) (f : Fld) (v : Bool) : (s.putFlag b f v).mgmt = s.mgmt := rfl
@[simp] theorem Dev.coll_putFlag (s : Dev) (b : Nat) (f : Fld) (v : Bool) : (s.putFlag b f v).coll = s.coll := rfl
@[simp] theorem Dev.bist_putFlag (s : Dev) (b : Nat) (f : Fld) (v : Bool) : (s.putFlag b f v).bist = s.bist := rfl
@[simp] theorem Dev.icStart_putFlag (s : Dev) (b : Nat) (f : Fld) (v : Bool) : (s.putFlag b f v).icStart = s.icStart := rfl
@[simp] theorem Dev.bistWait_putFlag (s : Dev) (b : Nat) (f : Fld) (v : Bool) : (s.putFlag b f v).bistWait = s.bistWait := rfl
@[simp] theorem Dev.therm_putFlag (s : Dev) (b : Nat) (f : Fld) (v : Bool) : (s.putFlag b f v).therm = s.therm := rfl
@[simp] theorem Dev.power_putFlag (s : Dev) (b : Nat) (f : Fld) (v : Bool) : (s.putFlag b f v).power = s.power := rfl
@[simp] theorem Dev.trace_putFlag (s : Dev) (b : Nat) (f : Fld) (v : Bool) : (s.putFlag b f v).trace = s.trace := rfl
@[simp] theorem Dev.traceUnread_putFlag (s : Dev) (b : Nat) (f : Fld) (v : Bool) : (s.putFlag b f v).traceUnread = s.traceUnread := rfl
@[simp] theorem Dev.dbgBusy_putFlag (s : Dev) (b : Nat) (f : Fld) (v : Bool) : (s.putFlag b f v).dbgBusy = s.dbgBusy := rfl
@[simp] theorem Dev.xlate_putFlag (s : Dev) (b : Nat) (f : Fld) (v : Bool) : (s.putFlag b f v).xlate = s.xlate := rfl

/-! ### bump -/

@[simp] theorem Dev.now_bump (s : Dev) (b : Nat) (f : Fld) : (s.bump b f).now = s.now := rfl
@[simp] theorem Dev.skew_bump (s : Dev) (b : Nat) (f : Fld) : (s.bump b f).skew = s.skew := rfl
@[simp] theorem Dev.slew_bump (s : Dev) (b : Nat) (f : Fld) : (s.bump b f).slew = s.slew := rfl
@[simp] theorem Dev.free_bump (s : Dev) (b : Nat) (f : Fld) : (s.bump b f).free = s.free := rfl
@[simp] theorem Dev.order_bump (s : Dev) (b : Nat) (f : Fld) : (s.bump b f).order = s.order := rfl
@[simp] theorem Dev.wide_bump (s : Dev) (b : Nat) (f : Fld) : (s.bump b f).wide = s.wide := rfl
@[simp] theorem Dev.mbx_bump (s : Dev) (b : Nat) (f : Fld) : (s.bump b f).mbx = s.mbx := rfl
@[simp] theorem Dev.fps_bump (s : Dev) (b : Nat) (f : Fld) : (s.bump b f).fps = s.fps := rfl
@[simp] theorem Dev.routes_bump (s : Dev) (b : Nat) (f : Fld) : (s.bump b f).routes = s.routes := rfl
@[simp] theorem Dev.dups_bump (s : Dev) (b : Nat) (f : Fld) : (s.bump b f).dups = s.dups := rfl
@[simp] theorem Dev.outcomes_bump (s : Dev) (b : Nat) (f : Fld) : (s.bump b f).outcomes = s.outcomes := rfl
@[simp] theorem Dev.offsets_bump (s : Dev) (b : Nat) (f : Fld) : (s.bump b f).offsets = s.offsets := rfl
@[simp] theorem Dev.crown_bump (s : Dev) (b : Nat) (f : Fld) : (s.bump b f).crown = s.crown := rfl
@[simp] theorem Dev.pcs_bump (s : Dev) (b : Nat) (f : Fld) : (s.bump b f).pcs = s.pcs := rfl
@[simp] theorem Dev.qmes_bump (s : Dev) (b : Nat) (f : Fld) : (s.bump b f).qmes = s.qmes := rfl
@[simp] theorem Dev.ecc_bump (s : Dev) (b : Nat) (f : Fld) : (s.bump b f).ecc = s.ecc := rfl
@[simp] theorem Dev.fuller_bump (s : Dev) (b : Nat) (f : Fld) : (s.bump b f).fuller = s.fuller := rfl
@[simp] theorem Dev.pf_bump (s : Dev) (b : Nat) (f : Fld) : (s.bump b f).pf = s.pf := rfl
@[simp] theorem Dev.hbs_bump (s : Dev) (b : Nat) (f : Fld) : (s.bump b f).hbs = s.hbs := rfl
@[simp] theorem Dev.aesLast_bump (s : Dev) (b : Nat) (f : Fld) : (s.bump b f).aesLast = s.aesLast := rfl
@[simp] theorem Dev.batt_bump (s : Dev) (b : Nat) (f : Fld) : (s.bump b f).batt = s.batt := rfl
@[simp] theorem Dev.otp_bump (s : Dev) (b : Nat) (f : Fld) : (s.bump b f).otp = s.otp := rfl
@[simp] theorem Dev.mgmt_bump (s : Dev) (b : Nat) (f : Fld) : (s.bump b f).mgmt = s.mgmt := rfl
@[simp] theorem Dev.coll_bump (s : Dev) (b : Nat) (f : Fld) : (s.bump b f).coll = s.coll := rfl
@[simp] theorem Dev.bist_bump (s : Dev) (b : Nat) (f : Fld) : (s.bump b f).bist = s.bist := rfl
@[simp] theorem Dev.icStart_bump (s : Dev) (b : Nat) (f : Fld) : (s.bump b f).icStart = s.icStart := rfl
@[simp] theorem Dev.bistWait_bump (s : Dev) (b : Nat) (f : Fld) : (s.bump b f).bistWait = s.bistWait := rfl
@[simp] theorem Dev.therm_bump (s : Dev) (b : Nat) (f : Fld) : (s.bump b f).therm = s.therm := rfl
@[simp] theorem Dev.power_bump (s : Dev) (b : Nat) (f : Fld) : (s.bump b f).power = s.power := rfl
@[simp] theorem Dev.trace_bump (s : Dev) (b : Nat) (f : Fld) : (s.bump b f).trace = s.trace := rfl
@[simp] theorem Dev.traceUnread_bump (s : Dev) (b : Nat) (f : Fld) : (s.bump b f).traceUnread = s.traceUnread := rfl
@[simp] theorem Dev.dbgBusy_bump (s : Dev) (b : Nat) (f : Fld) : (s.bump b f).dbgBusy = s.dbgBusy := rfl
@[simp] theorem Dev.xlate_bump (s : Dev) (b : Nat) (f : Fld) : (s.bump b f).xlate = s.xlate := rfl

/-! ### setWide -/

@[simp] theorem Dev.now_setWide (s : Dev) (b sel v : Nat) : (s.setWide b sel v).now = s.now := rfl
@[simp] theorem Dev.skew_setWide (s : Dev) (b sel v : Nat) : (s.setWide b sel v).skew = s.skew := rfl
@[simp] theorem Dev.slew_setWide (s : Dev) (b sel v : Nat) : (s.setWide b sel v).slew = s.slew := rfl
@[simp] theorem Dev.free_setWide (s : Dev) (b sel v : Nat) : (s.setWide b sel v).free = s.free := rfl
@[simp] theorem Dev.order_setWide (s : Dev) (b sel v : Nat) : (s.setWide b sel v).order = s.order := rfl
@[simp] theorem Dev.regs_setWide (s : Dev) (b sel v : Nat) : (s.setWide b sel v).regs = s.regs := rfl
@[simp] theorem Dev.mbx_setWide (s : Dev) (b sel v : Nat) : (s.setWide b sel v).mbx = s.mbx := rfl
@[simp] theorem Dev.fps_setWide (s : Dev) (b sel v : Nat) : (s.setWide b sel v).fps = s.fps := rfl
@[simp] theorem Dev.routes_setWide (s : Dev) (b sel v : Nat) : (s.setWide b sel v).routes = s.routes := rfl
@[simp] theorem Dev.dups_setWide (s : Dev) (b sel v : Nat) : (s.setWide b sel v).dups = s.dups := rfl
@[simp] theorem Dev.outcomes_setWide (s : Dev) (b sel v : Nat) : (s.setWide b sel v).outcomes = s.outcomes := rfl
@[simp] theorem Dev.offsets_setWide (s : Dev) (b sel v : Nat) : (s.setWide b sel v).offsets = s.offsets := rfl
@[simp] theorem Dev.crown_setWide (s : Dev) (b sel v : Nat) : (s.setWide b sel v).crown = s.crown := rfl
@[simp] theorem Dev.pcs_setWide (s : Dev) (b sel v : Nat) : (s.setWide b sel v).pcs = s.pcs := rfl
@[simp] theorem Dev.qmes_setWide (s : Dev) (b sel v : Nat) : (s.setWide b sel v).qmes = s.qmes := rfl
@[simp] theorem Dev.ecc_setWide (s : Dev) (b sel v : Nat) : (s.setWide b sel v).ecc = s.ecc := rfl
@[simp] theorem Dev.fuller_setWide (s : Dev) (b sel v : Nat) : (s.setWide b sel v).fuller = s.fuller := rfl
@[simp] theorem Dev.pf_setWide (s : Dev) (b sel v : Nat) : (s.setWide b sel v).pf = s.pf := rfl
@[simp] theorem Dev.hbs_setWide (s : Dev) (b sel v : Nat) : (s.setWide b sel v).hbs = s.hbs := rfl
@[simp] theorem Dev.aesLast_setWide (s : Dev) (b sel v : Nat) : (s.setWide b sel v).aesLast = s.aesLast := rfl
@[simp] theorem Dev.batt_setWide (s : Dev) (b sel v : Nat) : (s.setWide b sel v).batt = s.batt := rfl
@[simp] theorem Dev.otp_setWide (s : Dev) (b sel v : Nat) : (s.setWide b sel v).otp = s.otp := rfl
@[simp] theorem Dev.mgmt_setWide (s : Dev) (b sel v : Nat) : (s.setWide b sel v).mgmt = s.mgmt := rfl
@[simp] theorem Dev.coll_setWide (s : Dev) (b sel v : Nat) : (s.setWide b sel v).coll = s.coll := rfl
@[simp] theorem Dev.bist_setWide (s : Dev) (b sel v : Nat) : (s.setWide b sel v).bist = s.bist := rfl
@[simp] theorem Dev.icStart_setWide (s : Dev) (b sel v : Nat) : (s.setWide b sel v).icStart = s.icStart := rfl
@[simp] theorem Dev.bistWait_setWide (s : Dev) (b sel v : Nat) : (s.setWide b sel v).bistWait = s.bistWait := rfl
@[simp] theorem Dev.therm_setWide (s : Dev) (b sel v : Nat) : (s.setWide b sel v).therm = s.therm := rfl
@[simp] theorem Dev.power_setWide (s : Dev) (b sel v : Nat) : (s.setWide b sel v).power = s.power := rfl
@[simp] theorem Dev.trace_setWide (s : Dev) (b sel v : Nat) : (s.setWide b sel v).trace = s.trace := rfl
@[simp] theorem Dev.traceUnread_setWide (s : Dev) (b sel v : Nat) : (s.setWide b sel v).traceUnread = s.traceUnread := rfl
@[simp] theorem Dev.dbgBusy_setWide (s : Dev) (b sel v : Nat) : (s.setWide b sel v).dbgBusy = s.dbgBusy := rfl
@[simp] theorem Dev.xlate_setWide (s : Dev) (b sel v : Nat) : (s.setWide b sel v).xlate = s.xlate := rfl

/-! ### setMailbox -/

@[simp] theorem Dev.now_setMailbox (s : Dev) (b : Nat) (v : Mbx) : (s.setMailbox b v).now = s.now := rfl
@[simp] theorem Dev.skew_setMailbox (s : Dev) (b : Nat) (v : Mbx) : (s.setMailbox b v).skew = s.skew := rfl
@[simp] theorem Dev.slew_setMailbox (s : Dev) (b : Nat) (v : Mbx) : (s.setMailbox b v).slew = s.slew := rfl
@[simp] theorem Dev.free_setMailbox (s : Dev) (b : Nat) (v : Mbx) : (s.setMailbox b v).free = s.free := rfl
@[simp] theorem Dev.order_setMailbox (s : Dev) (b : Nat) (v : Mbx) : (s.setMailbox b v).order = s.order := rfl
@[simp] theorem Dev.regs_setMailbox (s : Dev) (b : Nat) (v : Mbx) : (s.setMailbox b v).regs = s.regs := rfl
@[simp] theorem Dev.wide_setMailbox (s : Dev) (b : Nat) (v : Mbx) : (s.setMailbox b v).wide = s.wide := rfl
@[simp] theorem Dev.fps_setMailbox (s : Dev) (b : Nat) (v : Mbx) : (s.setMailbox b v).fps = s.fps := rfl
@[simp] theorem Dev.routes_setMailbox (s : Dev) (b : Nat) (v : Mbx) : (s.setMailbox b v).routes = s.routes := rfl
@[simp] theorem Dev.dups_setMailbox (s : Dev) (b : Nat) (v : Mbx) : (s.setMailbox b v).dups = s.dups := rfl
@[simp] theorem Dev.outcomes_setMailbox (s : Dev) (b : Nat) (v : Mbx) : (s.setMailbox b v).outcomes = s.outcomes := rfl
@[simp] theorem Dev.offsets_setMailbox (s : Dev) (b : Nat) (v : Mbx) : (s.setMailbox b v).offsets = s.offsets := rfl
@[simp] theorem Dev.crown_setMailbox (s : Dev) (b : Nat) (v : Mbx) : (s.setMailbox b v).crown = s.crown := rfl
@[simp] theorem Dev.pcs_setMailbox (s : Dev) (b : Nat) (v : Mbx) : (s.setMailbox b v).pcs = s.pcs := rfl
@[simp] theorem Dev.qmes_setMailbox (s : Dev) (b : Nat) (v : Mbx) : (s.setMailbox b v).qmes = s.qmes := rfl
@[simp] theorem Dev.ecc_setMailbox (s : Dev) (b : Nat) (v : Mbx) : (s.setMailbox b v).ecc = s.ecc := rfl
@[simp] theorem Dev.fuller_setMailbox (s : Dev) (b : Nat) (v : Mbx) : (s.setMailbox b v).fuller = s.fuller := rfl
@[simp] theorem Dev.pf_setMailbox (s : Dev) (b : Nat) (v : Mbx) : (s.setMailbox b v).pf = s.pf := rfl
@[simp] theorem Dev.hbs_setMailbox (s : Dev) (b : Nat) (v : Mbx) : (s.setMailbox b v).hbs = s.hbs := rfl
@[simp] theorem Dev.aesLast_setMailbox (s : Dev) (b : Nat) (v : Mbx) : (s.setMailbox b v).aesLast = s.aesLast := rfl
@[simp] theorem Dev.batt_setMailbox (s : Dev) (b : Nat) (v : Mbx) : (s.setMailbox b v).batt = s.batt := rfl
@[simp] theorem Dev.otp_setMailbox (s : Dev) (b : Nat) (v : Mbx) : (s.setMailbox b v).otp = s.otp := rfl
@[simp] theorem Dev.mgmt_setMailbox (s : Dev) (b : Nat) (v : Mbx) : (s.setMailbox b v).mgmt = s.mgmt := rfl
@[simp] theorem Dev.coll_setMailbox (s : Dev) (b : Nat) (v : Mbx) : (s.setMailbox b v).coll = s.coll := rfl
@[simp] theorem Dev.bist_setMailbox (s : Dev) (b : Nat) (v : Mbx) : (s.setMailbox b v).bist = s.bist := rfl
@[simp] theorem Dev.icStart_setMailbox (s : Dev) (b : Nat) (v : Mbx) : (s.setMailbox b v).icStart = s.icStart := rfl
@[simp] theorem Dev.bistWait_setMailbox (s : Dev) (b : Nat) (v : Mbx) : (s.setMailbox b v).bistWait = s.bistWait := rfl
@[simp] theorem Dev.therm_setMailbox (s : Dev) (b : Nat) (v : Mbx) : (s.setMailbox b v).therm = s.therm := rfl
@[simp] theorem Dev.power_setMailbox (s : Dev) (b : Nat) (v : Mbx) : (s.setMailbox b v).power = s.power := rfl
@[simp] theorem Dev.trace_setMailbox (s : Dev) (b : Nat) (v : Mbx) : (s.setMailbox b v).trace = s.trace := rfl
@[simp] theorem Dev.traceUnread_setMailbox (s : Dev) (b : Nat) (v : Mbx) : (s.setMailbox b v).traceUnread = s.traceUnread := rfl
@[simp] theorem Dev.dbgBusy_setMailbox (s : Dev) (b : Nat) (v : Mbx) : (s.setMailbox b v).dbgBusy = s.dbgBusy := rfl
@[simp] theorem Dev.xlate_setMailbox (s : Dev) (b : Nat) (v : Mbx) : (s.setMailbox b v).xlate = s.xlate := rfl

/-! ### setFp -/

@[simp] theorem Dev.now_setFp (s : Dev) (n : Nat) (v : Fp) : (s.setFp n v).now = s.now := rfl
@[simp] theorem Dev.skew_setFp (s : Dev) (n : Nat) (v : Fp) : (s.setFp n v).skew = s.skew := rfl
@[simp] theorem Dev.slew_setFp (s : Dev) (n : Nat) (v : Fp) : (s.setFp n v).slew = s.slew := rfl
@[simp] theorem Dev.free_setFp (s : Dev) (n : Nat) (v : Fp) : (s.setFp n v).free = s.free := rfl
@[simp] theorem Dev.order_setFp (s : Dev) (n : Nat) (v : Fp) : (s.setFp n v).order = s.order := rfl
@[simp] theorem Dev.regs_setFp (s : Dev) (n : Nat) (v : Fp) : (s.setFp n v).regs = s.regs := rfl
@[simp] theorem Dev.wide_setFp (s : Dev) (n : Nat) (v : Fp) : (s.setFp n v).wide = s.wide := rfl
@[simp] theorem Dev.mbx_setFp (s : Dev) (n : Nat) (v : Fp) : (s.setFp n v).mbx = s.mbx := rfl
@[simp] theorem Dev.routes_setFp (s : Dev) (n : Nat) (v : Fp) : (s.setFp n v).routes = s.routes := rfl
@[simp] theorem Dev.dups_setFp (s : Dev) (n : Nat) (v : Fp) : (s.setFp n v).dups = s.dups := rfl
@[simp] theorem Dev.outcomes_setFp (s : Dev) (n : Nat) (v : Fp) : (s.setFp n v).outcomes = s.outcomes := rfl
@[simp] theorem Dev.offsets_setFp (s : Dev) (n : Nat) (v : Fp) : (s.setFp n v).offsets = s.offsets := rfl
@[simp] theorem Dev.crown_setFp (s : Dev) (n : Nat) (v : Fp) : (s.setFp n v).crown = s.crown := rfl
@[simp] theorem Dev.pcs_setFp (s : Dev) (n : Nat) (v : Fp) : (s.setFp n v).pcs = s.pcs := rfl
@[simp] theorem Dev.qmes_setFp (s : Dev) (n : Nat) (v : Fp) : (s.setFp n v).qmes = s.qmes := rfl
@[simp] theorem Dev.ecc_setFp (s : Dev) (n : Nat) (v : Fp) : (s.setFp n v).ecc = s.ecc := rfl
@[simp] theorem Dev.fuller_setFp (s : Dev) (n : Nat) (v : Fp) : (s.setFp n v).fuller = s.fuller := rfl
@[simp] theorem Dev.pf_setFp (s : Dev) (n : Nat) (v : Fp) : (s.setFp n v).pf = s.pf := rfl
@[simp] theorem Dev.hbs_setFp (s : Dev) (n : Nat) (v : Fp) : (s.setFp n v).hbs = s.hbs := rfl
@[simp] theorem Dev.aesLast_setFp (s : Dev) (n : Nat) (v : Fp) : (s.setFp n v).aesLast = s.aesLast := rfl
@[simp] theorem Dev.batt_setFp (s : Dev) (n : Nat) (v : Fp) : (s.setFp n v).batt = s.batt := rfl
@[simp] theorem Dev.otp_setFp (s : Dev) (n : Nat) (v : Fp) : (s.setFp n v).otp = s.otp := rfl
@[simp] theorem Dev.mgmt_setFp (s : Dev) (n : Nat) (v : Fp) : (s.setFp n v).mgmt = s.mgmt := rfl
@[simp] theorem Dev.coll_setFp (s : Dev) (n : Nat) (v : Fp) : (s.setFp n v).coll = s.coll := rfl
@[simp] theorem Dev.bist_setFp (s : Dev) (n : Nat) (v : Fp) : (s.setFp n v).bist = s.bist := rfl
@[simp] theorem Dev.icStart_setFp (s : Dev) (n : Nat) (v : Fp) : (s.setFp n v).icStart = s.icStart := rfl
@[simp] theorem Dev.bistWait_setFp (s : Dev) (n : Nat) (v : Fp) : (s.setFp n v).bistWait = s.bistWait := rfl
@[simp] theorem Dev.therm_setFp (s : Dev) (n : Nat) (v : Fp) : (s.setFp n v).therm = s.therm := rfl
@[simp] theorem Dev.power_setFp (s : Dev) (n : Nat) (v : Fp) : (s.setFp n v).power = s.power := rfl
@[simp] theorem Dev.trace_setFp (s : Dev) (n : Nat) (v : Fp) : (s.setFp n v).trace = s.trace := rfl
@[simp] theorem Dev.traceUnread_setFp (s : Dev) (n : Nat) (v : Fp) : (s.setFp n v).traceUnread = s.traceUnread := rfl
@[simp] theorem Dev.dbgBusy_setFp (s : Dev) (n : Nat) (v : Fp) : (s.setFp n v).dbgBusy = s.dbgBusy := rfl
@[simp] theorem Dev.xlate_setFp (s : Dev) (n : Nat) (v : Fp) : (s.setFp n v).xlate = s.xlate := rfl

/-! ### upFp -/

@[simp] theorem Dev.now_upFp (s : Dev) (n : Nat) (f : Fp → Fp) : (s.upFp n f).now = s.now := rfl
@[simp] theorem Dev.skew_upFp (s : Dev) (n : Nat) (f : Fp → Fp) : (s.upFp n f).skew = s.skew := rfl
@[simp] theorem Dev.slew_upFp (s : Dev) (n : Nat) (f : Fp → Fp) : (s.upFp n f).slew = s.slew := rfl
@[simp] theorem Dev.free_upFp (s : Dev) (n : Nat) (f : Fp → Fp) : (s.upFp n f).free = s.free := rfl
@[simp] theorem Dev.order_upFp (s : Dev) (n : Nat) (f : Fp → Fp) : (s.upFp n f).order = s.order := rfl
@[simp] theorem Dev.regs_upFp (s : Dev) (n : Nat) (f : Fp → Fp) : (s.upFp n f).regs = s.regs := rfl
@[simp] theorem Dev.wide_upFp (s : Dev) (n : Nat) (f : Fp → Fp) : (s.upFp n f).wide = s.wide := rfl
@[simp] theorem Dev.mbx_upFp (s : Dev) (n : Nat) (f : Fp → Fp) : (s.upFp n f).mbx = s.mbx := rfl
@[simp] theorem Dev.routes_upFp (s : Dev) (n : Nat) (f : Fp → Fp) : (s.upFp n f).routes = s.routes := rfl
@[simp] theorem Dev.dups_upFp (s : Dev) (n : Nat) (f : Fp → Fp) : (s.upFp n f).dups = s.dups := rfl
@[simp] theorem Dev.outcomes_upFp (s : Dev) (n : Nat) (f : Fp → Fp) : (s.upFp n f).outcomes = s.outcomes := rfl
@[simp] theorem Dev.offsets_upFp (s : Dev) (n : Nat) (f : Fp → Fp) : (s.upFp n f).offsets = s.offsets := rfl
@[simp] theorem Dev.crown_upFp (s : Dev) (n : Nat) (f : Fp → Fp) : (s.upFp n f).crown = s.crown := rfl
@[simp] theorem Dev.pcs_upFp (s : Dev) (n : Nat) (f : Fp → Fp) : (s.upFp n f).pcs = s.pcs := rfl
@[simp] theorem Dev.qmes_upFp (s : Dev) (n : Nat) (f : Fp → Fp) : (s.upFp n f).qmes = s.qmes := rfl
@[simp] theorem Dev.ecc_upFp (s : Dev) (n : Nat) (f : Fp → Fp) : (s.upFp n f).ecc = s.ecc := rfl
@[simp] theorem Dev.fuller_upFp (s : Dev) (n : Nat) (f : Fp → Fp) : (s.upFp n f).fuller = s.fuller := rfl
@[simp] theorem Dev.pf_upFp (s : Dev) (n : Nat) (f : Fp → Fp) : (s.upFp n f).pf = s.pf := rfl
@[simp] theorem Dev.hbs_upFp (s : Dev) (n : Nat) (f : Fp → Fp) : (s.upFp n f).hbs = s.hbs := rfl
@[simp] theorem Dev.aesLast_upFp (s : Dev) (n : Nat) (f : Fp → Fp) : (s.upFp n f).aesLast = s.aesLast := rfl
@[simp] theorem Dev.batt_upFp (s : Dev) (n : Nat) (f : Fp → Fp) : (s.upFp n f).batt = s.batt := rfl
@[simp] theorem Dev.otp_upFp (s : Dev) (n : Nat) (f : Fp → Fp) : (s.upFp n f).otp = s.otp := rfl
@[simp] theorem Dev.mgmt_upFp (s : Dev) (n : Nat) (f : Fp → Fp) : (s.upFp n f).mgmt = s.mgmt := rfl
@[simp] theorem Dev.coll_upFp (s : Dev) (n : Nat) (f : Fp → Fp) : (s.upFp n f).coll = s.coll := rfl
@[simp] theorem Dev.bist_upFp (s : Dev) (n : Nat) (f : Fp → Fp) : (s.upFp n f).bist = s.bist := rfl
@[simp] theorem Dev.icStart_upFp (s : Dev) (n : Nat) (f : Fp → Fp) : (s.upFp n f).icStart = s.icStart := rfl
@[simp] theorem Dev.bistWait_upFp (s : Dev) (n : Nat) (f : Fp → Fp) : (s.upFp n f).bistWait = s.bistWait := rfl
@[simp] theorem Dev.therm_upFp (s : Dev) (n : Nat) (f : Fp → Fp) : (s.upFp n f).therm = s.therm := rfl
@[simp] theorem Dev.power_upFp (s : Dev) (n : Nat) (f : Fp → Fp) : (s.upFp n f).power = s.power := rfl
@[simp] theorem Dev.trace_upFp (s : Dev) (n : Nat) (f : Fp → Fp) : (s.upFp n f).trace = s.trace := rfl
@[simp] theorem Dev.traceUnread_upFp (s : Dev) (n : Nat) (f : Fp → Fp) : (s.upFp n f).traceUnread = s.traceUnread := rfl
@[simp] theorem Dev.dbgBusy_upFp (s : Dev) (n : Nat) (f : Fp → Fp) : (s.upFp n f).dbgBusy = s.dbgBusy := rfl
@[simp] theorem Dev.xlate_upFp (s : Dev) (n : Nat) (f : Fp → Fp) : (s.upFp n f).xlate = s.xlate := rfl

/-! ### setPc -/

@[simp] theorem Dev.now_setPc (s : Dev) (p : Nat) (v : Pc) : (s.setPc p v).now = s.now := rfl
@[simp] theorem Dev.skew_setPc (s : Dev) (p : Nat) (v : Pc) : (s.setPc p v).skew = s.skew := rfl
@[simp] theorem Dev.slew_setPc (s : Dev) (p : Nat) (v : Pc) : (s.setPc p v).slew = s.slew := rfl
@[simp] theorem Dev.free_setPc (s : Dev) (p : Nat) (v : Pc) : (s.setPc p v).free = s.free := rfl
@[simp] theorem Dev.order_setPc (s : Dev) (p : Nat) (v : Pc) : (s.setPc p v).order = s.order := rfl
@[simp] theorem Dev.regs_setPc (s : Dev) (p : Nat) (v : Pc) : (s.setPc p v).regs = s.regs := rfl
@[simp] theorem Dev.wide_setPc (s : Dev) (p : Nat) (v : Pc) : (s.setPc p v).wide = s.wide := rfl
@[simp] theorem Dev.mbx_setPc (s : Dev) (p : Nat) (v : Pc) : (s.setPc p v).mbx = s.mbx := rfl
@[simp] theorem Dev.fps_setPc (s : Dev) (p : Nat) (v : Pc) : (s.setPc p v).fps = s.fps := rfl
@[simp] theorem Dev.routes_setPc (s : Dev) (p : Nat) (v : Pc) : (s.setPc p v).routes = s.routes := rfl
@[simp] theorem Dev.dups_setPc (s : Dev) (p : Nat) (v : Pc) : (s.setPc p v).dups = s.dups := rfl
@[simp] theorem Dev.outcomes_setPc (s : Dev) (p : Nat) (v : Pc) : (s.setPc p v).outcomes = s.outcomes := rfl
@[simp] theorem Dev.offsets_setPc (s : Dev) (p : Nat) (v : Pc) : (s.setPc p v).offsets = s.offsets := rfl
@[simp] theorem Dev.crown_setPc (s : Dev) (p : Nat) (v : Pc) : (s.setPc p v).crown = s.crown := rfl
@[simp] theorem Dev.qmes_setPc (s : Dev) (p : Nat) (v : Pc) : (s.setPc p v).qmes = s.qmes := rfl
@[simp] theorem Dev.ecc_setPc (s : Dev) (p : Nat) (v : Pc) : (s.setPc p v).ecc = s.ecc := rfl
@[simp] theorem Dev.fuller_setPc (s : Dev) (p : Nat) (v : Pc) : (s.setPc p v).fuller = s.fuller := rfl
@[simp] theorem Dev.pf_setPc (s : Dev) (p : Nat) (v : Pc) : (s.setPc p v).pf = s.pf := rfl
@[simp] theorem Dev.hbs_setPc (s : Dev) (p : Nat) (v : Pc) : (s.setPc p v).hbs = s.hbs := rfl
@[simp] theorem Dev.aesLast_setPc (s : Dev) (p : Nat) (v : Pc) : (s.setPc p v).aesLast = s.aesLast := rfl
@[simp] theorem Dev.batt_setPc (s : Dev) (p : Nat) (v : Pc) : (s.setPc p v).batt = s.batt := rfl
@[simp] theorem Dev.otp_setPc (s : Dev) (p : Nat) (v : Pc) : (s.setPc p v).otp = s.otp := rfl
@[simp] theorem Dev.mgmt_setPc (s : Dev) (p : Nat) (v : Pc) : (s.setPc p v).mgmt = s.mgmt := rfl
@[simp] theorem Dev.coll_setPc (s : Dev) (p : Nat) (v : Pc) : (s.setPc p v).coll = s.coll := rfl
@[simp] theorem Dev.bist_setPc (s : Dev) (p : Nat) (v : Pc) : (s.setPc p v).bist = s.bist := rfl
@[simp] theorem Dev.icStart_setPc (s : Dev) (p : Nat) (v : Pc) : (s.setPc p v).icStart = s.icStart := rfl
@[simp] theorem Dev.bistWait_setPc (s : Dev) (p : Nat) (v : Pc) : (s.setPc p v).bistWait = s.bistWait := rfl
@[simp] theorem Dev.therm_setPc (s : Dev) (p : Nat) (v : Pc) : (s.setPc p v).therm = s.therm := rfl
@[simp] theorem Dev.power_setPc (s : Dev) (p : Nat) (v : Pc) : (s.setPc p v).power = s.power := rfl
@[simp] theorem Dev.trace_setPc (s : Dev) (p : Nat) (v : Pc) : (s.setPc p v).trace = s.trace := rfl
@[simp] theorem Dev.traceUnread_setPc (s : Dev) (p : Nat) (v : Pc) : (s.setPc p v).traceUnread = s.traceUnread := rfl
@[simp] theorem Dev.dbgBusy_setPc (s : Dev) (p : Nat) (v : Pc) : (s.setPc p v).dbgBusy = s.dbgBusy := rfl
@[simp] theorem Dev.xlate_setPc (s : Dev) (p : Nat) (v : Pc) : (s.setPc p v).xlate = s.xlate := rfl

/-! ### upPc -/

@[simp] theorem Dev.now_upPc (s : Dev) (p : Nat) (f : Pc → Pc) : (s.upPc p f).now = s.now := rfl
@[simp] theorem Dev.skew_upPc (s : Dev) (p : Nat) (f : Pc → Pc) : (s.upPc p f).skew = s.skew := rfl
@[simp] theorem Dev.slew_upPc (s : Dev) (p : Nat) (f : Pc → Pc) : (s.upPc p f).slew = s.slew := rfl
@[simp] theorem Dev.free_upPc (s : Dev) (p : Nat) (f : Pc → Pc) : (s.upPc p f).free = s.free := rfl
@[simp] theorem Dev.order_upPc (s : Dev) (p : Nat) (f : Pc → Pc) : (s.upPc p f).order = s.order := rfl
@[simp] theorem Dev.regs_upPc (s : Dev) (p : Nat) (f : Pc → Pc) : (s.upPc p f).regs = s.regs := rfl
@[simp] theorem Dev.wide_upPc (s : Dev) (p : Nat) (f : Pc → Pc) : (s.upPc p f).wide = s.wide := rfl
@[simp] theorem Dev.mbx_upPc (s : Dev) (p : Nat) (f : Pc → Pc) : (s.upPc p f).mbx = s.mbx := rfl
@[simp] theorem Dev.fps_upPc (s : Dev) (p : Nat) (f : Pc → Pc) : (s.upPc p f).fps = s.fps := rfl
@[simp] theorem Dev.routes_upPc (s : Dev) (p : Nat) (f : Pc → Pc) : (s.upPc p f).routes = s.routes := rfl
@[simp] theorem Dev.dups_upPc (s : Dev) (p : Nat) (f : Pc → Pc) : (s.upPc p f).dups = s.dups := rfl
@[simp] theorem Dev.outcomes_upPc (s : Dev) (p : Nat) (f : Pc → Pc) : (s.upPc p f).outcomes = s.outcomes := rfl
@[simp] theorem Dev.offsets_upPc (s : Dev) (p : Nat) (f : Pc → Pc) : (s.upPc p f).offsets = s.offsets := rfl
@[simp] theorem Dev.crown_upPc (s : Dev) (p : Nat) (f : Pc → Pc) : (s.upPc p f).crown = s.crown := rfl
@[simp] theorem Dev.qmes_upPc (s : Dev) (p : Nat) (f : Pc → Pc) : (s.upPc p f).qmes = s.qmes := rfl
@[simp] theorem Dev.ecc_upPc (s : Dev) (p : Nat) (f : Pc → Pc) : (s.upPc p f).ecc = s.ecc := rfl
@[simp] theorem Dev.fuller_upPc (s : Dev) (p : Nat) (f : Pc → Pc) : (s.upPc p f).fuller = s.fuller := rfl
@[simp] theorem Dev.pf_upPc (s : Dev) (p : Nat) (f : Pc → Pc) : (s.upPc p f).pf = s.pf := rfl
@[simp] theorem Dev.hbs_upPc (s : Dev) (p : Nat) (f : Pc → Pc) : (s.upPc p f).hbs = s.hbs := rfl
@[simp] theorem Dev.aesLast_upPc (s : Dev) (p : Nat) (f : Pc → Pc) : (s.upPc p f).aesLast = s.aesLast := rfl
@[simp] theorem Dev.batt_upPc (s : Dev) (p : Nat) (f : Pc → Pc) : (s.upPc p f).batt = s.batt := rfl
@[simp] theorem Dev.otp_upPc (s : Dev) (p : Nat) (f : Pc → Pc) : (s.upPc p f).otp = s.otp := rfl
@[simp] theorem Dev.mgmt_upPc (s : Dev) (p : Nat) (f : Pc → Pc) : (s.upPc p f).mgmt = s.mgmt := rfl
@[simp] theorem Dev.coll_upPc (s : Dev) (p : Nat) (f : Pc → Pc) : (s.upPc p f).coll = s.coll := rfl
@[simp] theorem Dev.bist_upPc (s : Dev) (p : Nat) (f : Pc → Pc) : (s.upPc p f).bist = s.bist := rfl
@[simp] theorem Dev.icStart_upPc (s : Dev) (p : Nat) (f : Pc → Pc) : (s.upPc p f).icStart = s.icStart := rfl
@[simp] theorem Dev.bistWait_upPc (s : Dev) (p : Nat) (f : Pc → Pc) : (s.upPc p f).bistWait = s.bistWait := rfl
@[simp] theorem Dev.therm_upPc (s : Dev) (p : Nat) (f : Pc → Pc) : (s.upPc p f).therm = s.therm := rfl
@[simp] theorem Dev.power_upPc (s : Dev) (p : Nat) (f : Pc → Pc) : (s.upPc p f).power = s.power := rfl
@[simp] theorem Dev.trace_upPc (s : Dev) (p : Nat) (f : Pc → Pc) : (s.upPc p f).trace = s.trace := rfl
@[simp] theorem Dev.traceUnread_upPc (s : Dev) (p : Nat) (f : Pc → Pc) : (s.upPc p f).traceUnread = s.traceUnread := rfl
@[simp] theorem Dev.dbgBusy_upPc (s : Dev) (p : Nat) (f : Pc → Pc) : (s.upPc p f).dbgBusy = s.dbgBusy := rfl
@[simp] theorem Dev.xlate_upPc (s : Dev) (p : Nat) (f : Pc → Pc) : (s.upPc p f).xlate = s.xlate := rfl

/-! ### setQme -/

@[simp] theorem Dev.now_setQme (s : Dev) (q : Nat) (v : Qme) : (s.setQme q v).now = s.now := rfl
@[simp] theorem Dev.skew_setQme (s : Dev) (q : Nat) (v : Qme) : (s.setQme q v).skew = s.skew := rfl
@[simp] theorem Dev.slew_setQme (s : Dev) (q : Nat) (v : Qme) : (s.setQme q v).slew = s.slew := rfl
@[simp] theorem Dev.free_setQme (s : Dev) (q : Nat) (v : Qme) : (s.setQme q v).free = s.free := rfl
@[simp] theorem Dev.order_setQme (s : Dev) (q : Nat) (v : Qme) : (s.setQme q v).order = s.order := rfl
@[simp] theorem Dev.regs_setQme (s : Dev) (q : Nat) (v : Qme) : (s.setQme q v).regs = s.regs := rfl
@[simp] theorem Dev.wide_setQme (s : Dev) (q : Nat) (v : Qme) : (s.setQme q v).wide = s.wide := rfl
@[simp] theorem Dev.mbx_setQme (s : Dev) (q : Nat) (v : Qme) : (s.setQme q v).mbx = s.mbx := rfl
@[simp] theorem Dev.fps_setQme (s : Dev) (q : Nat) (v : Qme) : (s.setQme q v).fps = s.fps := rfl
@[simp] theorem Dev.routes_setQme (s : Dev) (q : Nat) (v : Qme) : (s.setQme q v).routes = s.routes := rfl
@[simp] theorem Dev.dups_setQme (s : Dev) (q : Nat) (v : Qme) : (s.setQme q v).dups = s.dups := rfl
@[simp] theorem Dev.outcomes_setQme (s : Dev) (q : Nat) (v : Qme) : (s.setQme q v).outcomes = s.outcomes := rfl
@[simp] theorem Dev.offsets_setQme (s : Dev) (q : Nat) (v : Qme) : (s.setQme q v).offsets = s.offsets := rfl
@[simp] theorem Dev.crown_setQme (s : Dev) (q : Nat) (v : Qme) : (s.setQme q v).crown = s.crown := rfl
@[simp] theorem Dev.pcs_setQme (s : Dev) (q : Nat) (v : Qme) : (s.setQme q v).pcs = s.pcs := rfl
@[simp] theorem Dev.ecc_setQme (s : Dev) (q : Nat) (v : Qme) : (s.setQme q v).ecc = s.ecc := rfl
@[simp] theorem Dev.fuller_setQme (s : Dev) (q : Nat) (v : Qme) : (s.setQme q v).fuller = s.fuller := rfl
@[simp] theorem Dev.pf_setQme (s : Dev) (q : Nat) (v : Qme) : (s.setQme q v).pf = s.pf := rfl
@[simp] theorem Dev.hbs_setQme (s : Dev) (q : Nat) (v : Qme) : (s.setQme q v).hbs = s.hbs := rfl
@[simp] theorem Dev.aesLast_setQme (s : Dev) (q : Nat) (v : Qme) : (s.setQme q v).aesLast = s.aesLast := rfl
@[simp] theorem Dev.batt_setQme (s : Dev) (q : Nat) (v : Qme) : (s.setQme q v).batt = s.batt := rfl
@[simp] theorem Dev.otp_setQme (s : Dev) (q : Nat) (v : Qme) : (s.setQme q v).otp = s.otp := rfl
@[simp] theorem Dev.mgmt_setQme (s : Dev) (q : Nat) (v : Qme) : (s.setQme q v).mgmt = s.mgmt := rfl
@[simp] theorem Dev.coll_setQme (s : Dev) (q : Nat) (v : Qme) : (s.setQme q v).coll = s.coll := rfl
@[simp] theorem Dev.bist_setQme (s : Dev) (q : Nat) (v : Qme) : (s.setQme q v).bist = s.bist := rfl
@[simp] theorem Dev.icStart_setQme (s : Dev) (q : Nat) (v : Qme) : (s.setQme q v).icStart = s.icStart := rfl
@[simp] theorem Dev.bistWait_setQme (s : Dev) (q : Nat) (v : Qme) : (s.setQme q v).bistWait = s.bistWait := rfl
@[simp] theorem Dev.therm_setQme (s : Dev) (q : Nat) (v : Qme) : (s.setQme q v).therm = s.therm := rfl
@[simp] theorem Dev.power_setQme (s : Dev) (q : Nat) (v : Qme) : (s.setQme q v).power = s.power := rfl
@[simp] theorem Dev.trace_setQme (s : Dev) (q : Nat) (v : Qme) : (s.setQme q v).trace = s.trace := rfl
@[simp] theorem Dev.traceUnread_setQme (s : Dev) (q : Nat) (v : Qme) : (s.setQme q v).traceUnread = s.traceUnread := rfl
@[simp] theorem Dev.dbgBusy_setQme (s : Dev) (q : Nat) (v : Qme) : (s.setQme q v).dbgBusy = s.dbgBusy := rfl
@[simp] theorem Dev.xlate_setQme (s : Dev) (q : Nat) (v : Qme) : (s.setQme q v).xlate = s.xlate := rfl

/-! ### upQme -/

@[simp] theorem Dev.now_upQme (s : Dev) (q : Nat) (f : Qme → Qme) : (s.upQme q f).now = s.now := rfl
@[simp] theorem Dev.skew_upQme (s : Dev) (q : Nat) (f : Qme → Qme) : (s.upQme q f).skew = s.skew := rfl
@[simp] theorem Dev.slew_upQme (s : Dev) (q : Nat) (f : Qme → Qme) : (s.upQme q f).slew = s.slew := rfl
@[simp] theorem Dev.free_upQme (s : Dev) (q : Nat) (f : Qme → Qme) : (s.upQme q f).free = s.free := rfl
@[simp] theorem Dev.order_upQme (s : Dev) (q : Nat) (f : Qme → Qme) : (s.upQme q f).order = s.order := rfl
@[simp] theorem Dev.regs_upQme (s : Dev) (q : Nat) (f : Qme → Qme) : (s.upQme q f).regs = s.regs := rfl
@[simp] theorem Dev.wide_upQme (s : Dev) (q : Nat) (f : Qme → Qme) : (s.upQme q f).wide = s.wide := rfl
@[simp] theorem Dev.mbx_upQme (s : Dev) (q : Nat) (f : Qme → Qme) : (s.upQme q f).mbx = s.mbx := rfl
@[simp] theorem Dev.fps_upQme (s : Dev) (q : Nat) (f : Qme → Qme) : (s.upQme q f).fps = s.fps := rfl
@[simp] theorem Dev.routes_upQme (s : Dev) (q : Nat) (f : Qme → Qme) : (s.upQme q f).routes = s.routes := rfl
@[simp] theorem Dev.dups_upQme (s : Dev) (q : Nat) (f : Qme → Qme) : (s.upQme q f).dups = s.dups := rfl
@[simp] theorem Dev.outcomes_upQme (s : Dev) (q : Nat) (f : Qme → Qme) : (s.upQme q f).outcomes = s.outcomes := rfl
@[simp] theorem Dev.offsets_upQme (s : Dev) (q : Nat) (f : Qme → Qme) : (s.upQme q f).offsets = s.offsets := rfl
@[simp] theorem Dev.crown_upQme (s : Dev) (q : Nat) (f : Qme → Qme) : (s.upQme q f).crown = s.crown := rfl
@[simp] theorem Dev.pcs_upQme (s : Dev) (q : Nat) (f : Qme → Qme) : (s.upQme q f).pcs = s.pcs := rfl
@[simp] theorem Dev.ecc_upQme (s : Dev) (q : Nat) (f : Qme → Qme) : (s.upQme q f).ecc = s.ecc := rfl
@[simp] theorem Dev.fuller_upQme (s : Dev) (q : Nat) (f : Qme → Qme) : (s.upQme q f).fuller = s.fuller := rfl
@[simp] theorem Dev.pf_upQme (s : Dev) (q : Nat) (f : Qme → Qme) : (s.upQme q f).pf = s.pf := rfl
@[simp] theorem Dev.hbs_upQme (s : Dev) (q : Nat) (f : Qme → Qme) : (s.upQme q f).hbs = s.hbs := rfl
@[simp] theorem Dev.aesLast_upQme (s : Dev) (q : Nat) (f : Qme → Qme) : (s.upQme q f).aesLast = s.aesLast := rfl
@[simp] theorem Dev.batt_upQme (s : Dev) (q : Nat) (f : Qme → Qme) : (s.upQme q f).batt = s.batt := rfl
@[simp] theorem Dev.otp_upQme (s : Dev) (q : Nat) (f : Qme → Qme) : (s.upQme q f).otp = s.otp := rfl
@[simp] theorem Dev.mgmt_upQme (s : Dev) (q : Nat) (f : Qme → Qme) : (s.upQme q f).mgmt = s.mgmt := rfl
@[simp] theorem Dev.coll_upQme (s : Dev) (q : Nat) (f : Qme → Qme) : (s.upQme q f).coll = s.coll := rfl
@[simp] theorem Dev.bist_upQme (s : Dev) (q : Nat) (f : Qme → Qme) : (s.upQme q f).bist = s.bist := rfl
@[simp] theorem Dev.icStart_upQme (s : Dev) (q : Nat) (f : Qme → Qme) : (s.upQme q f).icStart = s.icStart := rfl
@[simp] theorem Dev.bistWait_upQme (s : Dev) (q : Nat) (f : Qme → Qme) : (s.upQme q f).bistWait = s.bistWait := rfl
@[simp] theorem Dev.therm_upQme (s : Dev) (q : Nat) (f : Qme → Qme) : (s.upQme q f).therm = s.therm := rfl
@[simp] theorem Dev.power_upQme (s : Dev) (q : Nat) (f : Qme → Qme) : (s.upQme q f).power = s.power := rfl
@[simp] theorem Dev.trace_upQme (s : Dev) (q : Nat) (f : Qme → Qme) : (s.upQme q f).trace = s.trace := rfl
@[simp] theorem Dev.traceUnread_upQme (s : Dev) (q : Nat) (f : Qme → Qme) : (s.upQme q f).traceUnread = s.traceUnread := rfl
@[simp] theorem Dev.dbgBusy_upQme (s : Dev) (q : Nat) (f : Qme → Qme) : (s.upQme q f).dbgBusy = s.dbgBusy := rfl
@[simp] theorem Dev.xlate_upQme (s : Dev) (q : Nat) (f : Qme → Qme) : (s.upQme q f).xlate = s.xlate := rfl

/-! ### setHb -/

@[simp] theorem Dev.now_setHb (s : Dev) (n : Nat) (v : Hb) : (s.setHb n v).now = s.now := rfl
@[simp] theorem Dev.skew_setHb (s : Dev) (n : Nat) (v : Hb) : (s.setHb n v).skew = s.skew := rfl
@[simp] theorem Dev.slew_setHb (s : Dev) (n : Nat) (v : Hb) : (s.setHb n v).slew = s.slew := rfl
@[simp] theorem Dev.free_setHb (s : Dev) (n : Nat) (v : Hb) : (s.setHb n v).free = s.free := rfl
@[simp] theorem Dev.order_setHb (s : Dev) (n : Nat) (v : Hb) : (s.setHb n v).order = s.order := rfl
@[simp] theorem Dev.regs_setHb (s : Dev) (n : Nat) (v : Hb) : (s.setHb n v).regs = s.regs := rfl
@[simp] theorem Dev.wide_setHb (s : Dev) (n : Nat) (v : Hb) : (s.setHb n v).wide = s.wide := rfl
@[simp] theorem Dev.mbx_setHb (s : Dev) (n : Nat) (v : Hb) : (s.setHb n v).mbx = s.mbx := rfl
@[simp] theorem Dev.fps_setHb (s : Dev) (n : Nat) (v : Hb) : (s.setHb n v).fps = s.fps := rfl
@[simp] theorem Dev.routes_setHb (s : Dev) (n : Nat) (v : Hb) : (s.setHb n v).routes = s.routes := rfl
@[simp] theorem Dev.dups_setHb (s : Dev) (n : Nat) (v : Hb) : (s.setHb n v).dups = s.dups := rfl
@[simp] theorem Dev.outcomes_setHb (s : Dev) (n : Nat) (v : Hb) : (s.setHb n v).outcomes = s.outcomes := rfl
@[simp] theorem Dev.offsets_setHb (s : Dev) (n : Nat) (v : Hb) : (s.setHb n v).offsets = s.offsets := rfl
@[simp] theorem Dev.crown_setHb (s : Dev) (n : Nat) (v : Hb) : (s.setHb n v).crown = s.crown := rfl
@[simp] theorem Dev.pcs_setHb (s : Dev) (n : Nat) (v : Hb) : (s.setHb n v).pcs = s.pcs := rfl
@[simp] theorem Dev.qmes_setHb (s : Dev) (n : Nat) (v : Hb) : (s.setHb n v).qmes = s.qmes := rfl
@[simp] theorem Dev.ecc_setHb (s : Dev) (n : Nat) (v : Hb) : (s.setHb n v).ecc = s.ecc := rfl
@[simp] theorem Dev.fuller_setHb (s : Dev) (n : Nat) (v : Hb) : (s.setHb n v).fuller = s.fuller := rfl
@[simp] theorem Dev.pf_setHb (s : Dev) (n : Nat) (v : Hb) : (s.setHb n v).pf = s.pf := rfl
@[simp] theorem Dev.aesLast_setHb (s : Dev) (n : Nat) (v : Hb) : (s.setHb n v).aesLast = s.aesLast := rfl
@[simp] theorem Dev.batt_setHb (s : Dev) (n : Nat) (v : Hb) : (s.setHb n v).batt = s.batt := rfl
@[simp] theorem Dev.otp_setHb (s : Dev) (n : Nat) (v : Hb) : (s.setHb n v).otp = s.otp := rfl
@[simp] theorem Dev.mgmt_setHb (s : Dev) (n : Nat) (v : Hb) : (s.setHb n v).mgmt = s.mgmt := rfl
@[simp] theorem Dev.coll_setHb (s : Dev) (n : Nat) (v : Hb) : (s.setHb n v).coll = s.coll := rfl
@[simp] theorem Dev.bist_setHb (s : Dev) (n : Nat) (v : Hb) : (s.setHb n v).bist = s.bist := rfl
@[simp] theorem Dev.icStart_setHb (s : Dev) (n : Nat) (v : Hb) : (s.setHb n v).icStart = s.icStart := rfl
@[simp] theorem Dev.bistWait_setHb (s : Dev) (n : Nat) (v : Hb) : (s.setHb n v).bistWait = s.bistWait := rfl
@[simp] theorem Dev.therm_setHb (s : Dev) (n : Nat) (v : Hb) : (s.setHb n v).therm = s.therm := rfl
@[simp] theorem Dev.power_setHb (s : Dev) (n : Nat) (v : Hb) : (s.setHb n v).power = s.power := rfl
@[simp] theorem Dev.trace_setHb (s : Dev) (n : Nat) (v : Hb) : (s.setHb n v).trace = s.trace := rfl
@[simp] theorem Dev.traceUnread_setHb (s : Dev) (n : Nat) (v : Hb) : (s.setHb n v).traceUnread = s.traceUnread := rfl
@[simp] theorem Dev.dbgBusy_setHb (s : Dev) (n : Nat) (v : Hb) : (s.setHb n v).dbgBusy = s.dbgBusy := rfl
@[simp] theorem Dev.xlate_setHb (s : Dev) (n : Nat) (v : Hb) : (s.setHb n v).xlate = s.xlate := rfl

/-! ### upHb -/

@[simp] theorem Dev.now_upHb (s : Dev) (n : Nat) (f : Hb → Hb) : (s.upHb n f).now = s.now := rfl
@[simp] theorem Dev.skew_upHb (s : Dev) (n : Nat) (f : Hb → Hb) : (s.upHb n f).skew = s.skew := rfl
@[simp] theorem Dev.slew_upHb (s : Dev) (n : Nat) (f : Hb → Hb) : (s.upHb n f).slew = s.slew := rfl
@[simp] theorem Dev.free_upHb (s : Dev) (n : Nat) (f : Hb → Hb) : (s.upHb n f).free = s.free := rfl
@[simp] theorem Dev.order_upHb (s : Dev) (n : Nat) (f : Hb → Hb) : (s.upHb n f).order = s.order := rfl
@[simp] theorem Dev.regs_upHb (s : Dev) (n : Nat) (f : Hb → Hb) : (s.upHb n f).regs = s.regs := rfl
@[simp] theorem Dev.wide_upHb (s : Dev) (n : Nat) (f : Hb → Hb) : (s.upHb n f).wide = s.wide := rfl
@[simp] theorem Dev.mbx_upHb (s : Dev) (n : Nat) (f : Hb → Hb) : (s.upHb n f).mbx = s.mbx := rfl
@[simp] theorem Dev.fps_upHb (s : Dev) (n : Nat) (f : Hb → Hb) : (s.upHb n f).fps = s.fps := rfl
@[simp] theorem Dev.routes_upHb (s : Dev) (n : Nat) (f : Hb → Hb) : (s.upHb n f).routes = s.routes := rfl
@[simp] theorem Dev.dups_upHb (s : Dev) (n : Nat) (f : Hb → Hb) : (s.upHb n f).dups = s.dups := rfl
@[simp] theorem Dev.outcomes_upHb (s : Dev) (n : Nat) (f : Hb → Hb) : (s.upHb n f).outcomes = s.outcomes := rfl
@[simp] theorem Dev.offsets_upHb (s : Dev) (n : Nat) (f : Hb → Hb) : (s.upHb n f).offsets = s.offsets := rfl
@[simp] theorem Dev.crown_upHb (s : Dev) (n : Nat) (f : Hb → Hb) : (s.upHb n f).crown = s.crown := rfl
@[simp] theorem Dev.pcs_upHb (s : Dev) (n : Nat) (f : Hb → Hb) : (s.upHb n f).pcs = s.pcs := rfl
@[simp] theorem Dev.qmes_upHb (s : Dev) (n : Nat) (f : Hb → Hb) : (s.upHb n f).qmes = s.qmes := rfl
@[simp] theorem Dev.ecc_upHb (s : Dev) (n : Nat) (f : Hb → Hb) : (s.upHb n f).ecc = s.ecc := rfl
@[simp] theorem Dev.fuller_upHb (s : Dev) (n : Nat) (f : Hb → Hb) : (s.upHb n f).fuller = s.fuller := rfl
@[simp] theorem Dev.pf_upHb (s : Dev) (n : Nat) (f : Hb → Hb) : (s.upHb n f).pf = s.pf := rfl
@[simp] theorem Dev.aesLast_upHb (s : Dev) (n : Nat) (f : Hb → Hb) : (s.upHb n f).aesLast = s.aesLast := rfl
@[simp] theorem Dev.batt_upHb (s : Dev) (n : Nat) (f : Hb → Hb) : (s.upHb n f).batt = s.batt := rfl
@[simp] theorem Dev.otp_upHb (s : Dev) (n : Nat) (f : Hb → Hb) : (s.upHb n f).otp = s.otp := rfl
@[simp] theorem Dev.mgmt_upHb (s : Dev) (n : Nat) (f : Hb → Hb) : (s.upHb n f).mgmt = s.mgmt := rfl
@[simp] theorem Dev.coll_upHb (s : Dev) (n : Nat) (f : Hb → Hb) : (s.upHb n f).coll = s.coll := rfl
@[simp] theorem Dev.bist_upHb (s : Dev) (n : Nat) (f : Hb → Hb) : (s.upHb n f).bist = s.bist := rfl
@[simp] theorem Dev.icStart_upHb (s : Dev) (n : Nat) (f : Hb → Hb) : (s.upHb n f).icStart = s.icStart := rfl
@[simp] theorem Dev.bistWait_upHb (s : Dev) (n : Nat) (f : Hb → Hb) : (s.upHb n f).bistWait = s.bistWait := rfl
@[simp] theorem Dev.therm_upHb (s : Dev) (n : Nat) (f : Hb → Hb) : (s.upHb n f).therm = s.therm := rfl
@[simp] theorem Dev.power_upHb (s : Dev) (n : Nat) (f : Hb → Hb) : (s.upHb n f).power = s.power := rfl
@[simp] theorem Dev.trace_upHb (s : Dev) (n : Nat) (f : Hb → Hb) : (s.upHb n f).trace = s.trace := rfl
@[simp] theorem Dev.traceUnread_upHb (s : Dev) (n : Nat) (f : Hb → Hb) : (s.upHb n f).traceUnread = s.traceUnread := rfl
@[simp] theorem Dev.dbgBusy_upHb (s : Dev) (n : Nat) (f : Hb → Hb) : (s.upHb n f).dbgBusy = s.dbgBusy := rfl
@[simp] theorem Dev.xlate_upHb (s : Dev) (n : Nat) (f : Hb → Hb) : (s.upHb n f).xlate = s.xlate := rfl

/-! ### setRoute -/

@[simp] theorem Dev.now_setRoute (s : Dev) (k n : Nat) (v : BitVec 16) : (s.setRoute k n v).now = s.now := rfl
@[simp] theorem Dev.skew_setRoute (s : Dev) (k n : Nat) (v : BitVec 16) : (s.setRoute k n v).skew = s.skew := rfl
@[simp] theorem Dev.slew_setRoute (s : Dev) (k n : Nat) (v : BitVec 16) : (s.setRoute k n v).slew = s.slew := rfl
@[simp] theorem Dev.free_setRoute (s : Dev) (k n : Nat) (v : BitVec 16) : (s.setRoute k n v).free = s.free := rfl
@[simp] theorem Dev.order_setRoute (s : Dev) (k n : Nat) (v : BitVec 16) : (s.setRoute k n v).order = s.order := rfl
@[simp] theorem Dev.regs_setRoute (s : Dev) (k n : Nat) (v : BitVec 16) : (s.setRoute k n v).regs = s.regs := rfl
@[simp] theorem Dev.wide_setRoute (s : Dev) (k n : Nat) (v : BitVec 16) : (s.setRoute k n v).wide = s.wide := rfl
@[simp] theorem Dev.mbx_setRoute (s : Dev) (k n : Nat) (v : BitVec 16) : (s.setRoute k n v).mbx = s.mbx := rfl
@[simp] theorem Dev.fps_setRoute (s : Dev) (k n : Nat) (v : BitVec 16) : (s.setRoute k n v).fps = s.fps := rfl
@[simp] theorem Dev.dups_setRoute (s : Dev) (k n : Nat) (v : BitVec 16) : (s.setRoute k n v).dups = s.dups := rfl
@[simp] theorem Dev.outcomes_setRoute (s : Dev) (k n : Nat) (v : BitVec 16) : (s.setRoute k n v).outcomes = s.outcomes := rfl
@[simp] theorem Dev.offsets_setRoute (s : Dev) (k n : Nat) (v : BitVec 16) : (s.setRoute k n v).offsets = s.offsets := rfl
@[simp] theorem Dev.crown_setRoute (s : Dev) (k n : Nat) (v : BitVec 16) : (s.setRoute k n v).crown = s.crown := rfl
@[simp] theorem Dev.pcs_setRoute (s : Dev) (k n : Nat) (v : BitVec 16) : (s.setRoute k n v).pcs = s.pcs := rfl
@[simp] theorem Dev.qmes_setRoute (s : Dev) (k n : Nat) (v : BitVec 16) : (s.setRoute k n v).qmes = s.qmes := rfl
@[simp] theorem Dev.ecc_setRoute (s : Dev) (k n : Nat) (v : BitVec 16) : (s.setRoute k n v).ecc = s.ecc := rfl
@[simp] theorem Dev.fuller_setRoute (s : Dev) (k n : Nat) (v : BitVec 16) : (s.setRoute k n v).fuller = s.fuller := rfl
@[simp] theorem Dev.pf_setRoute (s : Dev) (k n : Nat) (v : BitVec 16) : (s.setRoute k n v).pf = s.pf := rfl
@[simp] theorem Dev.hbs_setRoute (s : Dev) (k n : Nat) (v : BitVec 16) : (s.setRoute k n v).hbs = s.hbs := rfl
@[simp] theorem Dev.aesLast_setRoute (s : Dev) (k n : Nat) (v : BitVec 16) : (s.setRoute k n v).aesLast = s.aesLast := rfl
@[simp] theorem Dev.batt_setRoute (s : Dev) (k n : Nat) (v : BitVec 16) : (s.setRoute k n v).batt = s.batt := rfl
@[simp] theorem Dev.otp_setRoute (s : Dev) (k n : Nat) (v : BitVec 16) : (s.setRoute k n v).otp = s.otp := rfl
@[simp] theorem Dev.mgmt_setRoute (s : Dev) (k n : Nat) (v : BitVec 16) : (s.setRoute k n v).mgmt = s.mgmt := rfl
@[simp] theorem Dev.coll_setRoute (s : Dev) (k n : Nat) (v : BitVec 16) : (s.setRoute k n v).coll = s.coll := rfl
@[simp] theorem Dev.bist_setRoute (s : Dev) (k n : Nat) (v : BitVec 16) : (s.setRoute k n v).bist = s.bist := rfl
@[simp] theorem Dev.icStart_setRoute (s : Dev) (k n : Nat) (v : BitVec 16) : (s.setRoute k n v).icStart = s.icStart := rfl
@[simp] theorem Dev.bistWait_setRoute (s : Dev) (k n : Nat) (v : BitVec 16) : (s.setRoute k n v).bistWait = s.bistWait := rfl
@[simp] theorem Dev.therm_setRoute (s : Dev) (k n : Nat) (v : BitVec 16) : (s.setRoute k n v).therm = s.therm := rfl
@[simp] theorem Dev.power_setRoute (s : Dev) (k n : Nat) (v : BitVec 16) : (s.setRoute k n v).power = s.power := rfl
@[simp] theorem Dev.trace_setRoute (s : Dev) (k n : Nat) (v : BitVec 16) : (s.setRoute k n v).trace = s.trace := rfl
@[simp] theorem Dev.traceUnread_setRoute (s : Dev) (k n : Nat) (v : BitVec 16) : (s.setRoute k n v).traceUnread = s.traceUnread := rfl
@[simp] theorem Dev.dbgBusy_setRoute (s : Dev) (k n : Nat) (v : BitVec 16) : (s.setRoute k n v).dbgBusy = s.dbgBusy := rfl
@[simp] theorem Dev.xlate_setRoute (s : Dev) (k n : Nat) (v : BitVec 16) : (s.setRoute k n v).xlate = s.xlate := rfl

/-! ### setOutRec -/

@[simp] theorem Dev.now_setOutRec (s : Dev) (e tag : Nat) (v : OutRec) : (s.setOutRec e tag v).now = s.now := rfl
@[simp] theorem Dev.skew_setOutRec (s : Dev) (e tag : Nat) (v : OutRec) : (s.setOutRec e tag v).skew = s.skew := rfl
@[simp] theorem Dev.slew_setOutRec (s : Dev) (e tag : Nat) (v : OutRec) : (s.setOutRec e tag v).slew = s.slew := rfl
@[simp] theorem Dev.free_setOutRec (s : Dev) (e tag : Nat) (v : OutRec) : (s.setOutRec e tag v).free = s.free := rfl
@[simp] theorem Dev.order_setOutRec (s : Dev) (e tag : Nat) (v : OutRec) : (s.setOutRec e tag v).order = s.order := rfl
@[simp] theorem Dev.regs_setOutRec (s : Dev) (e tag : Nat) (v : OutRec) : (s.setOutRec e tag v).regs = s.regs := rfl
@[simp] theorem Dev.wide_setOutRec (s : Dev) (e tag : Nat) (v : OutRec) : (s.setOutRec e tag v).wide = s.wide := rfl
@[simp] theorem Dev.mbx_setOutRec (s : Dev) (e tag : Nat) (v : OutRec) : (s.setOutRec e tag v).mbx = s.mbx := rfl
@[simp] theorem Dev.fps_setOutRec (s : Dev) (e tag : Nat) (v : OutRec) : (s.setOutRec e tag v).fps = s.fps := rfl
@[simp] theorem Dev.routes_setOutRec (s : Dev) (e tag : Nat) (v : OutRec) : (s.setOutRec e tag v).routes = s.routes := rfl
@[simp] theorem Dev.dups_setOutRec (s : Dev) (e tag : Nat) (v : OutRec) : (s.setOutRec e tag v).dups = s.dups := rfl
@[simp] theorem Dev.offsets_setOutRec (s : Dev) (e tag : Nat) (v : OutRec) : (s.setOutRec e tag v).offsets = s.offsets := rfl
@[simp] theorem Dev.crown_setOutRec (s : Dev) (e tag : Nat) (v : OutRec) : (s.setOutRec e tag v).crown = s.crown := rfl
@[simp] theorem Dev.pcs_setOutRec (s : Dev) (e tag : Nat) (v : OutRec) : (s.setOutRec e tag v).pcs = s.pcs := rfl
@[simp] theorem Dev.qmes_setOutRec (s : Dev) (e tag : Nat) (v : OutRec) : (s.setOutRec e tag v).qmes = s.qmes := rfl
@[simp] theorem Dev.ecc_setOutRec (s : Dev) (e tag : Nat) (v : OutRec) : (s.setOutRec e tag v).ecc = s.ecc := rfl
@[simp] theorem Dev.fuller_setOutRec (s : Dev) (e tag : Nat) (v : OutRec) : (s.setOutRec e tag v).fuller = s.fuller := rfl
@[simp] theorem Dev.pf_setOutRec (s : Dev) (e tag : Nat) (v : OutRec) : (s.setOutRec e tag v).pf = s.pf := rfl
@[simp] theorem Dev.hbs_setOutRec (s : Dev) (e tag : Nat) (v : OutRec) : (s.setOutRec e tag v).hbs = s.hbs := rfl
@[simp] theorem Dev.aesLast_setOutRec (s : Dev) (e tag : Nat) (v : OutRec) : (s.setOutRec e tag v).aesLast = s.aesLast := rfl
@[simp] theorem Dev.batt_setOutRec (s : Dev) (e tag : Nat) (v : OutRec) : (s.setOutRec e tag v).batt = s.batt := rfl
@[simp] theorem Dev.otp_setOutRec (s : Dev) (e tag : Nat) (v : OutRec) : (s.setOutRec e tag v).otp = s.otp := rfl
@[simp] theorem Dev.mgmt_setOutRec (s : Dev) (e tag : Nat) (v : OutRec) : (s.setOutRec e tag v).mgmt = s.mgmt := rfl
@[simp] theorem Dev.coll_setOutRec (s : Dev) (e tag : Nat) (v : OutRec) : (s.setOutRec e tag v).coll = s.coll := rfl
@[simp] theorem Dev.bist_setOutRec (s : Dev) (e tag : Nat) (v : OutRec) : (s.setOutRec e tag v).bist = s.bist := rfl
@[simp] theorem Dev.icStart_setOutRec (s : Dev) (e tag : Nat) (v : OutRec) : (s.setOutRec e tag v).icStart = s.icStart := rfl
@[simp] theorem Dev.bistWait_setOutRec (s : Dev) (e tag : Nat) (v : OutRec) : (s.setOutRec e tag v).bistWait = s.bistWait := rfl
@[simp] theorem Dev.therm_setOutRec (s : Dev) (e tag : Nat) (v : OutRec) : (s.setOutRec e tag v).therm = s.therm := rfl
@[simp] theorem Dev.power_setOutRec (s : Dev) (e tag : Nat) (v : OutRec) : (s.setOutRec e tag v).power = s.power := rfl
@[simp] theorem Dev.trace_setOutRec (s : Dev) (e tag : Nat) (v : OutRec) : (s.setOutRec e tag v).trace = s.trace := rfl
@[simp] theorem Dev.traceUnread_setOutRec (s : Dev) (e tag : Nat) (v : OutRec) : (s.setOutRec e tag v).traceUnread = s.traceUnread := rfl
@[simp] theorem Dev.dbgBusy_setOutRec (s : Dev) (e tag : Nat) (v : OutRec) : (s.setOutRec e tag v).dbgBusy = s.dbgBusy := rfl
@[simp] theorem Dev.xlate_setOutRec (s : Dev) (e tag : Nat) (v : OutRec) : (s.setOutRec e tag v).xlate = s.xlate := rfl

/-! ### setLine -/

@[simp] theorem Dev.now_setLine (s : Dev) (k : Nat) (v : Line) : (s.setLine k v).now = s.now := rfl
@[simp] theorem Dev.skew_setLine (s : Dev) (k : Nat) (v : Line) : (s.setLine k v).skew = s.skew := rfl
@[simp] theorem Dev.slew_setLine (s : Dev) (k : Nat) (v : Line) : (s.setLine k v).slew = s.slew := rfl
@[simp] theorem Dev.free_setLine (s : Dev) (k : Nat) (v : Line) : (s.setLine k v).free = s.free := rfl
@[simp] theorem Dev.order_setLine (s : Dev) (k : Nat) (v : Line) : (s.setLine k v).order = s.order := rfl
@[simp] theorem Dev.regs_setLine (s : Dev) (k : Nat) (v : Line) : (s.setLine k v).regs = s.regs := rfl
@[simp] theorem Dev.wide_setLine (s : Dev) (k : Nat) (v : Line) : (s.setLine k v).wide = s.wide := rfl
@[simp] theorem Dev.mbx_setLine (s : Dev) (k : Nat) (v : Line) : (s.setLine k v).mbx = s.mbx := rfl
@[simp] theorem Dev.fps_setLine (s : Dev) (k : Nat) (v : Line) : (s.setLine k v).fps = s.fps := rfl
@[simp] theorem Dev.routes_setLine (s : Dev) (k : Nat) (v : Line) : (s.setLine k v).routes = s.routes := rfl
@[simp] theorem Dev.dups_setLine (s : Dev) (k : Nat) (v : Line) : (s.setLine k v).dups = s.dups := rfl
@[simp] theorem Dev.outcomes_setLine (s : Dev) (k : Nat) (v : Line) : (s.setLine k v).outcomes = s.outcomes := rfl
@[simp] theorem Dev.offsets_setLine (s : Dev) (k : Nat) (v : Line) : (s.setLine k v).offsets = s.offsets := rfl
@[simp] theorem Dev.pcs_setLine (s : Dev) (k : Nat) (v : Line) : (s.setLine k v).pcs = s.pcs := rfl
@[simp] theorem Dev.qmes_setLine (s : Dev) (k : Nat) (v : Line) : (s.setLine k v).qmes = s.qmes := rfl
@[simp] theorem Dev.ecc_setLine (s : Dev) (k : Nat) (v : Line) : (s.setLine k v).ecc = s.ecc := rfl
@[simp] theorem Dev.fuller_setLine (s : Dev) (k : Nat) (v : Line) : (s.setLine k v).fuller = s.fuller := rfl
@[simp] theorem Dev.pf_setLine (s : Dev) (k : Nat) (v : Line) : (s.setLine k v).pf = s.pf := rfl
@[simp] theorem Dev.hbs_setLine (s : Dev) (k : Nat) (v : Line) : (s.setLine k v).hbs = s.hbs := rfl
@[simp] theorem Dev.aesLast_setLine (s : Dev) (k : Nat) (v : Line) : (s.setLine k v).aesLast = s.aesLast := rfl
@[simp] theorem Dev.batt_setLine (s : Dev) (k : Nat) (v : Line) : (s.setLine k v).batt = s.batt := rfl
@[simp] theorem Dev.otp_setLine (s : Dev) (k : Nat) (v : Line) : (s.setLine k v).otp = s.otp := rfl
@[simp] theorem Dev.mgmt_setLine (s : Dev) (k : Nat) (v : Line) : (s.setLine k v).mgmt = s.mgmt := rfl
@[simp] theorem Dev.coll_setLine (s : Dev) (k : Nat) (v : Line) : (s.setLine k v).coll = s.coll := rfl
@[simp] theorem Dev.bist_setLine (s : Dev) (k : Nat) (v : Line) : (s.setLine k v).bist = s.bist := rfl
@[simp] theorem Dev.icStart_setLine (s : Dev) (k : Nat) (v : Line) : (s.setLine k v).icStart = s.icStart := rfl
@[simp] theorem Dev.bistWait_setLine (s : Dev) (k : Nat) (v : Line) : (s.setLine k v).bistWait = s.bistWait := rfl
@[simp] theorem Dev.therm_setLine (s : Dev) (k : Nat) (v : Line) : (s.setLine k v).therm = s.therm := rfl
@[simp] theorem Dev.power_setLine (s : Dev) (k : Nat) (v : Line) : (s.setLine k v).power = s.power := rfl
@[simp] theorem Dev.trace_setLine (s : Dev) (k : Nat) (v : Line) : (s.setLine k v).trace = s.trace := rfl
@[simp] theorem Dev.traceUnread_setLine (s : Dev) (k : Nat) (v : Line) : (s.setLine k v).traceUnread = s.traceUnread := rfl
@[simp] theorem Dev.dbgBusy_setLine (s : Dev) (k : Nat) (v : Line) : (s.setLine k v).dbgBusy = s.dbgBusy := rfl
@[simp] theorem Dev.xlate_setLine (s : Dev) (k : Nat) (v : Line) : (s.setLine k v).xlate = s.xlate := rfl

/-! ### setUnitState -/

@[simp] theorem Dev.now_setUnitState (s : Dev) (u : Nat) (v : BitVec 2) : (s.setUnitState u v).now = s.now := rfl
@[simp] theorem Dev.skew_setUnitState (s : Dev) (u : Nat) (v : BitVec 2) : (s.setUnitState u v).skew = s.skew := rfl
@[simp] theorem Dev.slew_setUnitState (s : Dev) (u : Nat) (v : BitVec 2) : (s.setUnitState u v).slew = s.slew := rfl
@[simp] theorem Dev.free_setUnitState (s : Dev) (u : Nat) (v : BitVec 2) : (s.setUnitState u v).free = s.free := rfl
@[simp] theorem Dev.order_setUnitState (s : Dev) (u : Nat) (v : BitVec 2) : (s.setUnitState u v).order = s.order := rfl
@[simp] theorem Dev.regs_setUnitState (s : Dev) (u : Nat) (v : BitVec 2) : (s.setUnitState u v).regs = s.regs := rfl
@[simp] theorem Dev.wide_setUnitState (s : Dev) (u : Nat) (v : BitVec 2) : (s.setUnitState u v).wide = s.wide := rfl
@[simp] theorem Dev.mbx_setUnitState (s : Dev) (u : Nat) (v : BitVec 2) : (s.setUnitState u v).mbx = s.mbx := rfl
@[simp] theorem Dev.fps_setUnitState (s : Dev) (u : Nat) (v : BitVec 2) : (s.setUnitState u v).fps = s.fps := rfl
@[simp] theorem Dev.routes_setUnitState (s : Dev) (u : Nat) (v : BitVec 2) : (s.setUnitState u v).routes = s.routes := rfl
@[simp] theorem Dev.dups_setUnitState (s : Dev) (u : Nat) (v : BitVec 2) : (s.setUnitState u v).dups = s.dups := rfl
@[simp] theorem Dev.outcomes_setUnitState (s : Dev) (u : Nat) (v : BitVec 2) : (s.setUnitState u v).outcomes = s.outcomes := rfl
@[simp] theorem Dev.offsets_setUnitState (s : Dev) (u : Nat) (v : BitVec 2) : (s.setUnitState u v).offsets = s.offsets := rfl
@[simp] theorem Dev.crown_setUnitState (s : Dev) (u : Nat) (v : BitVec 2) : (s.setUnitState u v).crown = s.crown := rfl
@[simp] theorem Dev.pcs_setUnitState (s : Dev) (u : Nat) (v : BitVec 2) : (s.setUnitState u v).pcs = s.pcs := rfl
@[simp] theorem Dev.qmes_setUnitState (s : Dev) (u : Nat) (v : BitVec 2) : (s.setUnitState u v).qmes = s.qmes := rfl
@[simp] theorem Dev.ecc_setUnitState (s : Dev) (u : Nat) (v : BitVec 2) : (s.setUnitState u v).ecc = s.ecc := rfl
@[simp] theorem Dev.pf_setUnitState (s : Dev) (u : Nat) (v : BitVec 2) : (s.setUnitState u v).pf = s.pf := rfl
@[simp] theorem Dev.hbs_setUnitState (s : Dev) (u : Nat) (v : BitVec 2) : (s.setUnitState u v).hbs = s.hbs := rfl
@[simp] theorem Dev.aesLast_setUnitState (s : Dev) (u : Nat) (v : BitVec 2) : (s.setUnitState u v).aesLast = s.aesLast := rfl
@[simp] theorem Dev.batt_setUnitState (s : Dev) (u : Nat) (v : BitVec 2) : (s.setUnitState u v).batt = s.batt := rfl
@[simp] theorem Dev.otp_setUnitState (s : Dev) (u : Nat) (v : BitVec 2) : (s.setUnitState u v).otp = s.otp := rfl
@[simp] theorem Dev.mgmt_setUnitState (s : Dev) (u : Nat) (v : BitVec 2) : (s.setUnitState u v).mgmt = s.mgmt := rfl
@[simp] theorem Dev.coll_setUnitState (s : Dev) (u : Nat) (v : BitVec 2) : (s.setUnitState u v).coll = s.coll := rfl
@[simp] theorem Dev.bist_setUnitState (s : Dev) (u : Nat) (v : BitVec 2) : (s.setUnitState u v).bist = s.bist := rfl
@[simp] theorem Dev.icStart_setUnitState (s : Dev) (u : Nat) (v : BitVec 2) : (s.setUnitState u v).icStart = s.icStart := rfl
@[simp] theorem Dev.bistWait_setUnitState (s : Dev) (u : Nat) (v : BitVec 2) : (s.setUnitState u v).bistWait = s.bistWait := rfl
@[simp] theorem Dev.therm_setUnitState (s : Dev) (u : Nat) (v : BitVec 2) : (s.setUnitState u v).therm = s.therm := rfl
@[simp] theorem Dev.power_setUnitState (s : Dev) (u : Nat) (v : BitVec 2) : (s.setUnitState u v).power = s.power := rfl
@[simp] theorem Dev.trace_setUnitState (s : Dev) (u : Nat) (v : BitVec 2) : (s.setUnitState u v).trace = s.trace := rfl
@[simp] theorem Dev.traceUnread_setUnitState (s : Dev) (u : Nat) (v : BitVec 2) : (s.setUnitState u v).traceUnread = s.traceUnread := rfl
@[simp] theorem Dev.dbgBusy_setUnitState (s : Dev) (u : Nat) (v : BitVec 2) : (s.setUnitState u v).dbgBusy = s.dbgBusy := rfl
@[simp] theorem Dev.xlate_setUnitState (s : Dev) (u : Nat) (v : BitVec 2) : (s.setUnitState u v).xlate = s.xlate := rfl

/-! ### signal -/

@[simp] theorem Dev.now_signal (s : Dev) (n : Nat) (i : FaultInfo) : (s.signal n i).now = s.now := rfl
@[simp] theorem Dev.skew_signal (s : Dev) (n : Nat) (i : FaultInfo) : (s.signal n i).skew = s.skew := rfl
@[simp] theorem Dev.slew_signal (s : Dev) (n : Nat) (i : FaultInfo) : (s.signal n i).slew = s.slew := rfl
@[simp] theorem Dev.free_signal (s : Dev) (n : Nat) (i : FaultInfo) : (s.signal n i).free = s.free := rfl
@[simp] theorem Dev.order_signal (s : Dev) (n : Nat) (i : FaultInfo) : (s.signal n i).order = s.order := rfl
@[simp] theorem Dev.regs_signal (s : Dev) (n : Nat) (i : FaultInfo) : (s.signal n i).regs = s.regs := rfl
@[simp] theorem Dev.wide_signal (s : Dev) (n : Nat) (i : FaultInfo) : (s.signal n i).wide = s.wide := rfl
@[simp] theorem Dev.mbx_signal (s : Dev) (n : Nat) (i : FaultInfo) : (s.signal n i).mbx = s.mbx := rfl
@[simp] theorem Dev.fps_signal (s : Dev) (n : Nat) (i : FaultInfo) : (s.signal n i).fps = s.fps := rfl
@[simp] theorem Dev.routes_signal (s : Dev) (n : Nat) (i : FaultInfo) : (s.signal n i).routes = s.routes := rfl
@[simp] theorem Dev.dups_signal (s : Dev) (n : Nat) (i : FaultInfo) : (s.signal n i).dups = s.dups := rfl
@[simp] theorem Dev.outcomes_signal (s : Dev) (n : Nat) (i : FaultInfo) : (s.signal n i).outcomes = s.outcomes := rfl
@[simp] theorem Dev.offsets_signal (s : Dev) (n : Nat) (i : FaultInfo) : (s.signal n i).offsets = s.offsets := rfl
@[simp] theorem Dev.crown_signal (s : Dev) (n : Nat) (i : FaultInfo) : (s.signal n i).crown = s.crown := rfl
@[simp] theorem Dev.pcs_signal (s : Dev) (n : Nat) (i : FaultInfo) : (s.signal n i).pcs = s.pcs := rfl
@[simp] theorem Dev.qmes_signal (s : Dev) (n : Nat) (i : FaultInfo) : (s.signal n i).qmes = s.qmes := rfl
@[simp] theorem Dev.ecc_signal (s : Dev) (n : Nat) (i : FaultInfo) : (s.signal n i).ecc = s.ecc := rfl
@[simp] theorem Dev.fuller_signal (s : Dev) (n : Nat) (i : FaultInfo) : (s.signal n i).fuller = s.fuller := rfl
@[simp] theorem Dev.pf_signal (s : Dev) (n : Nat) (i : FaultInfo) : (s.signal n i).pf = s.pf := rfl
@[simp] theorem Dev.hbs_signal (s : Dev) (n : Nat) (i : FaultInfo) : (s.signal n i).hbs = s.hbs := rfl
@[simp] theorem Dev.aesLast_signal (s : Dev) (n : Nat) (i : FaultInfo) : (s.signal n i).aesLast = s.aesLast := rfl
@[simp] theorem Dev.batt_signal (s : Dev) (n : Nat) (i : FaultInfo) : (s.signal n i).batt = s.batt := rfl
@[simp] theorem Dev.otp_signal (s : Dev) (n : Nat) (i : FaultInfo) : (s.signal n i).otp = s.otp := rfl
@[simp] theorem Dev.mgmt_signal (s : Dev) (n : Nat) (i : FaultInfo) : (s.signal n i).mgmt = s.mgmt := rfl
@[simp] theorem Dev.bist_signal (s : Dev) (n : Nat) (i : FaultInfo) : (s.signal n i).bist = s.bist := rfl
@[simp] theorem Dev.icStart_signal (s : Dev) (n : Nat) (i : FaultInfo) : (s.signal n i).icStart = s.icStart := rfl
@[simp] theorem Dev.bistWait_signal (s : Dev) (n : Nat) (i : FaultInfo) : (s.signal n i).bistWait = s.bistWait := rfl
@[simp] theorem Dev.therm_signal (s : Dev) (n : Nat) (i : FaultInfo) : (s.signal n i).therm = s.therm := rfl
@[simp] theorem Dev.power_signal (s : Dev) (n : Nat) (i : FaultInfo) : (s.signal n i).power = s.power := rfl
@[simp] theorem Dev.trace_signal (s : Dev) (n : Nat) (i : FaultInfo) : (s.signal n i).trace = s.trace := rfl
@[simp] theorem Dev.traceUnread_signal (s : Dev) (n : Nat) (i : FaultInfo) : (s.signal n i).traceUnread = s.traceUnread := rfl
@[simp] theorem Dev.dbgBusy_signal (s : Dev) (n : Nat) (i : FaultInfo) : (s.signal n i).dbgBusy = s.dbgBusy := rfl
@[simp] theorem Dev.xlate_signal (s : Dev) (n : Nat) (i : FaultInfo) : (s.signal n i).xlate = s.xlate := rfl

/-! ### raise -/

@[simp] theorem Dev.now_raise (s : Dev) (n : Nat) : (s.raise n).now = s.now := rfl
@[simp] theorem Dev.skew_raise (s : Dev) (n : Nat) : (s.raise n).skew = s.skew := rfl
@[simp] theorem Dev.slew_raise (s : Dev) (n : Nat) : (s.raise n).slew = s.slew := rfl
@[simp] theorem Dev.free_raise (s : Dev) (n : Nat) : (s.raise n).free = s.free := rfl
@[simp] theorem Dev.order_raise (s : Dev) (n : Nat) : (s.raise n).order = s.order := rfl
@[simp] theorem Dev.regs_raise (s : Dev) (n : Nat) : (s.raise n).regs = s.regs := rfl
@[simp] theorem Dev.wide_raise (s : Dev) (n : Nat) : (s.raise n).wide = s.wide := rfl
@[simp] theorem Dev.mbx_raise (s : Dev) (n : Nat) : (s.raise n).mbx = s.mbx := rfl
@[simp] theorem Dev.fps_raise (s : Dev) (n : Nat) : (s.raise n).fps = s.fps := rfl
@[simp] theorem Dev.routes_raise (s : Dev) (n : Nat) : (s.raise n).routes = s.routes := rfl
@[simp] theorem Dev.dups_raise (s : Dev) (n : Nat) : (s.raise n).dups = s.dups := rfl
@[simp] theorem Dev.outcomes_raise (s : Dev) (n : Nat) : (s.raise n).outcomes = s.outcomes := rfl
@[simp] theorem Dev.offsets_raise (s : Dev) (n : Nat) : (s.raise n).offsets = s.offsets := rfl
@[simp] theorem Dev.crown_raise (s : Dev) (n : Nat) : (s.raise n).crown = s.crown := rfl
@[simp] theorem Dev.pcs_raise (s : Dev) (n : Nat) : (s.raise n).pcs = s.pcs := rfl
@[simp] theorem Dev.qmes_raise (s : Dev) (n : Nat) : (s.raise n).qmes = s.qmes := rfl
@[simp] theorem Dev.ecc_raise (s : Dev) (n : Nat) : (s.raise n).ecc = s.ecc := rfl
@[simp] theorem Dev.fuller_raise (s : Dev) (n : Nat) : (s.raise n).fuller = s.fuller := rfl
@[simp] theorem Dev.pf_raise (s : Dev) (n : Nat) : (s.raise n).pf = s.pf := rfl
@[simp] theorem Dev.hbs_raise (s : Dev) (n : Nat) : (s.raise n).hbs = s.hbs := rfl
@[simp] theorem Dev.aesLast_raise (s : Dev) (n : Nat) : (s.raise n).aesLast = s.aesLast := rfl
@[simp] theorem Dev.batt_raise (s : Dev) (n : Nat) : (s.raise n).batt = s.batt := rfl
@[simp] theorem Dev.otp_raise (s : Dev) (n : Nat) : (s.raise n).otp = s.otp := rfl
@[simp] theorem Dev.mgmt_raise (s : Dev) (n : Nat) : (s.raise n).mgmt = s.mgmt := rfl
@[simp] theorem Dev.bist_raise (s : Dev) (n : Nat) : (s.raise n).bist = s.bist := rfl
@[simp] theorem Dev.icStart_raise (s : Dev) (n : Nat) : (s.raise n).icStart = s.icStart := rfl
@[simp] theorem Dev.bistWait_raise (s : Dev) (n : Nat) : (s.raise n).bistWait = s.bistWait := rfl
@[simp] theorem Dev.therm_raise (s : Dev) (n : Nat) : (s.raise n).therm = s.therm := rfl
@[simp] theorem Dev.power_raise (s : Dev) (n : Nat) : (s.raise n).power = s.power := rfl
@[simp] theorem Dev.trace_raise (s : Dev) (n : Nat) : (s.raise n).trace = s.trace := rfl
@[simp] theorem Dev.traceUnread_raise (s : Dev) (n : Nat) : (s.raise n).traceUnread = s.traceUnread := rfl
@[simp] theorem Dev.dbgBusy_raise (s : Dev) (n : Nat) : (s.raise n).dbgBusy = s.dbgBusy := rfl
@[simp] theorem Dev.xlate_raise (s : Dev) (n : Nat) : (s.raise n).xlate = s.xlate := rfl

/-! ### count -/

@[simp] theorem Dev.now_count (s : Dev) (b : Nat) (f : Fld) : (s.count b f).now = s.now := by
  unfold Dev.count; split <;> rfl
@[simp] theorem Dev.skew_count (s : Dev) (b : Nat) (f : Fld) : (s.count b f).skew = s.skew := by
  unfold Dev.count; split <;> rfl
@[simp] theorem Dev.slew_count (s : Dev) (b : Nat) (f : Fld) : (s.count b f).slew = s.slew := by
  unfold Dev.count; split <;> rfl
@[simp] theorem Dev.free_count (s : Dev) (b : Nat) (f : Fld) : (s.count b f).free = s.free := by
  unfold Dev.count; split <;> rfl
@[simp] theorem Dev.order_count (s : Dev) (b : Nat) (f : Fld) : (s.count b f).order = s.order := by
  unfold Dev.count; split <;> rfl
@[simp] theorem Dev.wide_count (s : Dev) (b : Nat) (f : Fld) : (s.count b f).wide = s.wide := by
  unfold Dev.count; split <;> rfl
@[simp] theorem Dev.mbx_count (s : Dev) (b : Nat) (f : Fld) : (s.count b f).mbx = s.mbx := by
  unfold Dev.count; split <;> rfl
@[simp] theorem Dev.fps_count (s : Dev) (b : Nat) (f : Fld) : (s.count b f).fps = s.fps := by
  unfold Dev.count; split <;> rfl
@[simp] theorem Dev.routes_count (s : Dev) (b : Nat) (f : Fld) : (s.count b f).routes = s.routes := by
  unfold Dev.count; split <;> rfl
@[simp] theorem Dev.dups_count (s : Dev) (b : Nat) (f : Fld) : (s.count b f).dups = s.dups := by
  unfold Dev.count; split <;> rfl
@[simp] theorem Dev.outcomes_count (s : Dev) (b : Nat) (f : Fld) : (s.count b f).outcomes = s.outcomes := by
  unfold Dev.count; split <;> rfl
@[simp] theorem Dev.offsets_count (s : Dev) (b : Nat) (f : Fld) : (s.count b f).offsets = s.offsets := by
  unfold Dev.count; split <;> rfl
@[simp] theorem Dev.crown_count (s : Dev) (b : Nat) (f : Fld) : (s.count b f).crown = s.crown := by
  unfold Dev.count; split <;> rfl
@[simp] theorem Dev.pcs_count (s : Dev) (b : Nat) (f : Fld) : (s.count b f).pcs = s.pcs := by
  unfold Dev.count; split <;> rfl
@[simp] theorem Dev.qmes_count (s : Dev) (b : Nat) (f : Fld) : (s.count b f).qmes = s.qmes := by
  unfold Dev.count; split <;> rfl
@[simp] theorem Dev.ecc_count (s : Dev) (b : Nat) (f : Fld) : (s.count b f).ecc = s.ecc := by
  unfold Dev.count; split <;> rfl
@[simp] theorem Dev.fuller_count (s : Dev) (b : Nat) (f : Fld) : (s.count b f).fuller = s.fuller := by
  unfold Dev.count; split <;> rfl
@[simp] theorem Dev.pf_count (s : Dev) (b : Nat) (f : Fld) : (s.count b f).pf = s.pf := by
  unfold Dev.count; split <;> rfl
@[simp] theorem Dev.hbs_count (s : Dev) (b : Nat) (f : Fld) : (s.count b f).hbs = s.hbs := by
  unfold Dev.count; split <;> rfl
@[simp] theorem Dev.aesLast_count (s : Dev) (b : Nat) (f : Fld) : (s.count b f).aesLast = s.aesLast := by
  unfold Dev.count; split <;> rfl
@[simp] theorem Dev.batt_count (s : Dev) (b : Nat) (f : Fld) : (s.count b f).batt = s.batt := by
  unfold Dev.count; split <;> rfl
@[simp] theorem Dev.otp_count (s : Dev) (b : Nat) (f : Fld) : (s.count b f).otp = s.otp := by
  unfold Dev.count; split <;> rfl
@[simp] theorem Dev.mgmt_count (s : Dev) (b : Nat) (f : Fld) : (s.count b f).mgmt = s.mgmt := by
  unfold Dev.count; split <;> rfl
@[simp] theorem Dev.coll_count (s : Dev) (b : Nat) (f : Fld) : (s.count b f).coll = s.coll := by
  unfold Dev.count; split <;> rfl
@[simp] theorem Dev.bist_count (s : Dev) (b : Nat) (f : Fld) : (s.count b f).bist = s.bist := by
  unfold Dev.count; split <;> rfl
@[simp] theorem Dev.icStart_count (s : Dev) (b : Nat) (f : Fld) : (s.count b f).icStart = s.icStart := by
  unfold Dev.count; split <;> rfl
@[simp] theorem Dev.bistWait_count (s : Dev) (b : Nat) (f : Fld) : (s.count b f).bistWait = s.bistWait := by
  unfold Dev.count; split <;> rfl
@[simp] theorem Dev.therm_count (s : Dev) (b : Nat) (f : Fld) : (s.count b f).therm = s.therm := by
  unfold Dev.count; split <;> rfl
@[simp] theorem Dev.power_count (s : Dev) (b : Nat) (f : Fld) : (s.count b f).power = s.power := by
  unfold Dev.count; split <;> rfl
@[simp] theorem Dev.trace_count (s : Dev) (b : Nat) (f : Fld) : (s.count b f).trace = s.trace := by
  unfold Dev.count; split <;> rfl
@[simp] theorem Dev.traceUnread_count (s : Dev) (b : Nat) (f : Fld) : (s.count b f).traceUnread = s.traceUnread := by
  unfold Dev.count; split <;> rfl
@[simp] theorem Dev.dbgBusy_count (s : Dev) (b : Nat) (f : Fld) : (s.count b f).dbgBusy = s.dbgBusy := by
  unfold Dev.count; split <;> rfl
@[simp] theorem Dev.xlate_count (s : Dev) (b : Nat) (f : Fld) : (s.count b f).xlate = s.xlate := by
  unfold Dev.count; split <;> rfl

end Sys2Proof.Machine
end

