-- ==== Sys2Proof/Laws/Ops.lean ====
section
/-! SUPPORT. Laws of the shared operations: what a read of a register or of a part of the device sees after a status
event, a counter, a fault source, a journal record or an in-band interrupt, and after a plain field update. -/
namespace Sys2Proof.Machine

/-! ### Reads through an update of other fields -/

@[simp] theorem Dev.rd_mk (s : Dev) (b : Nat) (f : Fld)
    {x0 : Nat} {x1 : Int} {x2 : Int} {x3 : Nat} {x4 : Nat} {x6 : Tab Nat} {x7 : Tab Mbx} {x8 : Tab Fp} {x9 : Tab (BitVec 16)} {x10 : List (BitVec 12 × BitVec 12)} {x11 : Tab OutRec} {x12 : List Int} {x13 : Tab Line} {x14 : Tab Pc} {x15 : Tab Qme} {x16 : Ecc} {x17 : Fuller} {x18 : Pf} {x19 : Tab Hb} {x20 : Nat} {x21 : Batt} {x22 : Otp} {x23 : Mgmt} {x24 : Collector} {x25 : Option BistRun} {x26 : Option Nat} {x27 : Option (Nat × Conditions)} {x28 : Therm} {x29 : Power} {x30 : Tab (BitVec 192)} {x31 : Nat} {x32 : Bool} {x33 : Option (BitVec 37)} :
    Dev.rd (Dev.mk x0 x1 x2 x3 x4 (Dev.regs s) x6 x7 x8 x9 x10 x11 x12 x13 x14 x15 x16 x17 x18 x19 x20 x21 x22 x23 x24 x25 x26 x27 x28 x29 x30 x31 x32 x33) b f = s.rd b f := rfl
@[simp] theorem Dev.reg_mk (s : Dev) (a : Nat)
    {x0 : Nat} {x1 : Int} {x2 : Int} {x3 : Nat} {x4 : Nat} {x6 : Tab Nat} {x7 : Tab Mbx} {x8 : Tab Fp} {x9 : Tab (BitVec 16)} {x10 : List (BitVec 12 × BitVec 12)} {x11 : Tab OutRec} {x12 : List Int} {x13 : Tab Line} {x14 : Tab Pc} {x15 : Tab Qme} {x16 : Ecc} {x17 : Fuller} {x18 : Pf} {x19 : Tab Hb} {x20 : Nat} {x21 : Batt} {x22 : Otp} {x23 : Mgmt} {x24 : Collector} {x25 : Option BistRun} {x26 : Option Nat} {x27 : Option (Nat × Conditions)} {x28 : Therm} {x29 : Power} {x30 : Tab (BitVec 192)} {x31 : Nat} {x32 : Bool} {x33 : Option (BitVec 37)} :
    Dev.reg (Dev.mk x0 x1 x2 x3 x4 (Dev.regs s) x6 x7 x8 x9 x10 x11 x12 x13 x14 x15 x16 x17 x18 x19 x20 x21 x22 x23 x24 x25 x26 x27 x28 x29 x30 x31 x32 x33) a = s.reg a := rfl
@[simp] theorem Dev.flag_mk (s : Dev) (b : Nat) (f : Fld)
    {x0 : Nat} {x1 : Int} {x2 : Int} {x3 : Nat} {x4 : Nat} {x6 : Tab Nat} {x7 : Tab Mbx} {x8 : Tab Fp} {x9 : Tab (BitVec 16)} {x10 : List (BitVec 12 × BitVec 12)} {x11 : Tab OutRec} {x12 : List Int} {x13 : Tab Line} {x14 : Tab Pc} {x15 : Tab Qme} {x16 : Ecc} {x17 : Fuller} {x18 : Pf} {x19 : Tab Hb} {x20 : Nat} {x21 : Batt} {x22 : Otp} {x23 : Mgmt} {x24 : Collector} {x25 : Option BistRun} {x26 : Option Nat} {x27 : Option (Nat × Conditions)} {x28 : Therm} {x29 : Power} {x30 : Tab (BitVec 192)} {x31 : Nat} {x32 : Bool} {x33 : Option (BitVec 37)} :
    Dev.flag (Dev.mk x0 x1 x2 x3 x4 (Dev.regs s) x6 x7 x8 x9 x10 x11 x12 x13 x14 x15 x16 x17 x18 x19 x20 x21 x22 x23 x24 x25 x26 x27 x28 x29 x30 x31 x32 x33) b f = s.flag b f := rfl
@[simp] theorem Dev.wideOf_mk (s : Dev) (b sel : Nat)
    {x0 : Nat} {x1 : Int} {x2 : Int} {x3 : Nat} {x4 : Nat} {x5 : Tab Word} {x7 : Tab Mbx} {x8 : Tab Fp} {x9 : Tab (BitVec 16)} {x10 : List (BitVec 12 × BitVec 12)} {x11 : Tab OutRec} {x12 : List Int} {x13 : Tab Line} {x14 : Tab Pc} {x15 : Tab Qme} {x16 : Ecc} {x17 : Fuller} {x18 : Pf} {x19 : Tab Hb} {x20 : Nat} {x21 : Batt} {x22 : Otp} {x23 : Mgmt} {x24 : Collector} {x25 : Option BistRun} {x26 : Option Nat} {x27 : Option (Nat × Conditions)} {x28 : Therm} {x29 : Power} {x30 : Tab (BitVec 192)} {x31 : Nat} {x32 : Bool} {x33 : Option (BitVec 37)} :
    Dev.wideOf (Dev.mk x0 x1 x2 x3 x4 x5 (Dev.wide s) x7 x8 x9 x10 x11 x12 x13 x14 x15 x16 x17 x18 x19 x20 x21 x22 x23 x24 x25 x26 x27 x28 x29 x30 x31 x32 x33) b sel = s.wideOf b sel := rfl
@[simp] theorem Dev.pc_mk (s : Dev) (p : Nat)
    {x0 : Nat} {x1 : Int} {x2 : Int} {x3 : Nat} {x4 : Nat} {x5 : Tab Word} {x6 : Tab Nat} {x7 : Tab Mbx} {x8 : Tab Fp} {x9 : Tab (BitVec 16)} {x10 : List (BitVec 12 × BitVec 12)} {x11 : Tab OutRec} {x12 : List Int} {x13 : Tab Line} {x15 : Tab Qme} {x16 : Ecc} {x17 : Fuller} {x18 : Pf} {x19 : Tab Hb} {x20 : Nat} {x21 : Batt} {x22 : Otp} {x23 : Mgmt} {x24 : Collector} {x25 : Option BistRun} {x26 : Option Nat} {x27 : Option (Nat × Conditions)} {x28 : Therm} {x29 : Power} {x30 : Tab (BitVec 192)} {x31 : Nat} {x32 : Bool} {x33 : Option (BitVec 37)} :
    Dev.pc (Dev.mk x0 x1 x2 x3 x4 x5 x6 x7 x8 x9 x10 x11 x12 x13 (Dev.pcs s) x15 x16 x17 x18 x19 x20 x21 x22 x23 x24 x25 x26 x27 x28 x29 x30 x31 x32 x33) p = s.pc p := rfl
@[simp] theorem Dev.fp_mk (s : Dev) (p : Nat)
    {x0 : Nat} {x1 : Int} {x2 : Int} {x3 : Nat} {x4 : Nat} {x5 : Tab Word} {x6 : Tab Nat} {x7 : Tab Mbx} {x9 : Tab (BitVec 16)} {x10 : List (BitVec 12 × BitVec 12)} {x11 : Tab OutRec} {x12 : List Int} {x13 : Tab Line} {x14 : Tab Pc} {x15 : Tab Qme} {x16 : Ecc} {x17 : Fuller} {x18 : Pf} {x19 : Tab Hb} {x20 : Nat} {x21 : Batt} {x22 : Otp} {x23 : Mgmt} {x24 : Collector} {x25 : Option BistRun} {x26 : Option Nat} {x27 : Option (Nat × Conditions)} {x28 : Therm} {x29 : Power} {x30 : Tab (BitVec 192)} {x31 : Nat} {x32 : Bool} {x33 : Option (BitVec 37)} :
    Dev.fp (Dev.mk x0 x1 x2 x3 x4 x5 x6 x7 (Dev.fps s) x9 x10 x11 x12 x13 x14 x15 x16 x17 x18 x19 x20 x21 x22 x23 x24 x25 x26 x27 x28 x29 x30 x31 x32 x33) p = s.fp p := rfl
@[simp] theorem Dev.hb_mk (s : Dev) (p : Nat)
    {x0 : Nat} {x1 : Int} {x2 : Int} {x3 : Nat} {x4 : Nat} {x5 : Tab Word} {x6 : Tab Nat} {x7 : Tab Mbx} {x8 : Tab Fp} {x9 : Tab (BitVec 16)} {x10 : List (BitVec 12 × BitVec 12)} {x11 : Tab OutRec} {x12 : List Int} {x13 : Tab Line} {x14 : Tab Pc} {x15 : Tab Qme} {x16 : Ecc} {x17 : Fuller} {x18 : Pf} {x20 : Nat} {x21 : Batt} {x22 : Otp} {x23 : Mgmt} {x24 : Collector} {x25 : Option BistRun} {x26 : Option Nat} {x27 : Option (Nat × Conditions)} {x28 : Therm} {x29 : Power} {x30 : Tab (BitVec 192)} {x31 : Nat} {x32 : Bool} {x33 : Option (BitVec 37)} :
    Dev.hb (Dev.mk x0 x1 x2 x3 x4 x5 x6 x7 x8 x9 x10 x11 x12 x13 x14 x15 x16 x17 x18 (Dev.hbs s) x20 x21 x22 x23 x24 x25 x26 x27 x28 x29 x30 x31 x32 x33) p = s.hb p := rfl
@[simp] theorem Dev.qme_mk (s : Dev) (p : Nat)
    {x0 : Nat} {x1 : Int} {x2 : Int} {x3 : Nat} {x4 : Nat} {x5 : Tab Word} {x6 : Tab Nat} {x7 : Tab Mbx} {x8 : Tab Fp} {x9 : Tab (BitVec 16)} {x10 : List (BitVec 12 × BitVec 12)} {x11 : Tab OutRec} {x12 : List Int} {x13 : Tab Line} {x14 : Tab Pc} {x16 : Ecc} {x17 : Fuller} {x18 : Pf} {x19 : Tab Hb} {x20 : Nat} {x21 : Batt} {x22 : Otp} {x23 : Mgmt} {x24 : Collector} {x25 : Option BistRun} {x26 : Option Nat} {x27 : Option (Nat × Conditions)} {x28 : Therm} {x29 : Power} {x30 : Tab (BitVec 192)} {x31 : Nat} {x32 : Bool} {x33 : Option (BitVec 37)} :
    Dev.qme (Dev.mk x0 x1 x2 x3 x4 x5 x6 x7 x8 x9 x10 x11 x12 x13 x14 (Dev.qmes s) x16 x17 x18 x19 x20 x21 x22 x23 x24 x25 x26 x27 x28 x29 x30 x31 x32 x33) p = s.qme p := rfl
@[simp] theorem Dev.mailbox_mk (s : Dev) (p : Nat)
    {x0 : Nat} {x1 : Int} {x2 : Int} {x3 : Nat} {x4 : Nat} {x5 : Tab Word} {x6 : Tab Nat} {x8 : Tab Fp} {x9 : Tab (BitVec 16)} {x10 : List (BitVec 12 × BitVec 12)} {x11 : Tab OutRec} {x12 : List Int} {x13 : Tab Line} {x14 : Tab Pc} {x15 : Tab Qme} {x16 : Ecc} {x17 : Fuller} {x18 : Pf} {x19 : Tab Hb} {x20 : Nat} {x21 : Batt} {x22 : Otp} {x23 : Mgmt} {x24 : Collector} {x25 : Option BistRun} {x26 : Option Nat} {x27 : Option (Nat × Conditions)} {x28 : Therm} {x29 : Power} {x30 : Tab (BitVec 192)} {x31 : Nat} {x32 : Bool} {x33 : Option (BitVec 37)} :
    Dev.mailbox (Dev.mk x0 x1 x2 x3 x4 x5 x6 (Dev.mbx s) x8 x9 x10 x11 x12 x13 x14 x15 x16 x17 x18 x19 x20 x21 x22 x23 x24 x25 x26 x27 x28 x29 x30 x31 x32 x33) p = s.mailbox p := rfl
@[simp] theorem Dev.lineAt_mk (s : Dev) (p : Nat)
    {x0 : Nat} {x1 : Int} {x2 : Int} {x3 : Nat} {x4 : Nat} {x5 : Tab Word} {x6 : Tab Nat} {x7 : Tab Mbx} {x8 : Tab Fp} {x9 : Tab (BitVec 16)} {x10 : List (BitVec 12 × BitVec 12)} {x11 : Tab OutRec} {x12 : List Int} {x14 : Tab Pc} {x15 : Tab Qme} {x16 : Ecc} {x17 : Fuller} {x18 : Pf} {x19 : Tab Hb} {x20 : Nat} {x21 : Batt} {x22 : Otp} {x23 : Mgmt} {x24 : Collector} {x25 : Option BistRun} {x26 : Option Nat} {x27 : Option (Nat × Conditions)} {x28 : Therm} {x29 : Power} {x30 : Tab (BitVec 192)} {x31 : Nat} {x32 : Bool} {x33 : Option (BitVec 37)} :
    Dev.lineAt (Dev.mk x0 x1 x2 x3 x4 x5 x6 x7 x8 x9 x10 x11 x12 (Dev.crown s) x14 x15 x16 x17 x18 x19 x20 x21 x22 x23 x24 x25 x26 x27 x28 x29 x30 x31 x32 x33) p = s.lineAt p := rfl
@[simp] theorem Dev.route_mk (s : Dev) (k n : Nat)
    {x0 : Nat} {x1 : Int} {x2 : Int} {x3 : Nat} {x4 : Nat} {x5 : Tab Word} {x6 : Tab Nat} {x7 : Tab Mbx} {x8 : Tab Fp} {x10 : List (BitVec 12 × BitVec 12)} {x11 : Tab OutRec} {x12 : List Int} {x13 : Tab Line} {x14 : Tab Pc} {x15 : Tab Qme} {x16 : Ecc} {x17 : Fuller} {x18 : Pf} {x19 : Tab Hb} {x20 : Nat} {x21 : Batt} {x22 : Otp} {x23 : Mgmt} {x24 : Collector} {x25 : Option BistRun} {x26 : Option Nat} {x27 : Option (Nat × Conditions)} {x28 : Therm} {x29 : Power} {x30 : Tab (BitVec 192)} {x31 : Nat} {x32 : Bool} {x33 : Option (BitVec 37)} :
    Dev.route (Dev.mk x0 x1 x2 x3 x4 x5 x6 x7 x8 (Dev.routes s) x10 x11 x12 x13 x14 x15 x16 x17 x18 x19 x20 x21 x22 x23 x24 x25 x26 x27 x28 x29 x30 x31 x32 x33) k n = s.route k n := rfl
@[simp] theorem Dev.outRec_mk (s : Dev) (k n : Nat)
    {x0 : Nat} {x1 : Int} {x2 : Int} {x3 : Nat} {x4 : Nat} {x5 : Tab Word} {x6 : Tab Nat} {x7 : Tab Mbx} {x8 : Tab Fp} {x9 : Tab (BitVec 16)} {x10 : List (BitVec 12 × BitVec 12)} {x12 : List Int} {x13 : Tab Line} {x14 : Tab Pc} {x15 : Tab Qme} {x16 : Ecc} {x17 : Fuller} {x18 : Pf} {x19 : Tab Hb} {x20 : Nat} {x21 : Batt} {x22 : Otp} {x23 : Mgmt} {x24 : Collector} {x25 : Option BistRun} {x26 : Option Nat} {x27 : Option (Nat × Conditions)} {x28 : Therm} {x29 : Power} {x30 : Tab (BitVec 192)} {x31 : Nat} {x32 : Bool} {x33 : Option (BitVec 37)} :
    Dev.outRec (Dev.mk x0 x1 x2 x3 x4 x5 x6 x7 x8 x9 x10 (Dev.outcomes s) x12 x13 x14 x15 x16 x17 x18 x19 x20 x21 x22 x23 x24 x25 x26 x27 x28 x29 x30 x31 x32 x33) k n = s.outRec k n := rfl

/-! ### Reads through the named updates -/

@[simp] theorem Dev.rd_setWide (s : Dev) (b' sel' v : Nat) (b : Nat) (f : Fld) :
    (s.setWide b' sel' v).rd b f = s.rd b f := rfl
@[simp] theorem Dev.rd_setMailbox (s : Dev) (b' : Nat) (v : Mbx) (b : Nat) (f : Fld) :
    (s.setMailbox b' v).rd b f = s.rd b f := rfl
@[simp] theorem Dev.rd_setFp (s : Dev) (n' : Nat) (v : Fp) (b : Nat) (f : Fld) :
    (s.setFp n' v).rd b f = s.rd b f := rfl
@[simp] theorem Dev.rd_upFp (s : Dev) (n' : Nat) (f' : Fp → Fp) (b : Nat) (f : Fld) :
    (s.upFp n' f').rd b f = s.rd b f := rfl
@[simp] theorem Dev.rd_setPc (s : Dev) (p' : Nat) (v : Pc) (b : Nat) (f : Fld) :
    (s.setPc p' v).rd b f = s.rd b f := rfl
@[simp] theorem Dev.rd_upPc (s : Dev) (p' : Nat) (f' : Pc → Pc) (b : Nat) (f : Fld) :
    (s.upPc p' f').rd b f = s.rd b f := rfl
@[simp] theorem Dev.rd_setQme (s : Dev) (q : Nat) (v : Qme) (b : Nat) (f : Fld) :
    (s.setQme q v).rd b f = s.rd b f := rfl
@[simp] theorem Dev.rd_upQme (s : Dev) (q : Nat) (f' : Qme → Qme) (b : Nat) (f : Fld) :
    (s.upQme q f').rd b f = s.rd b f := rfl
@[simp] theorem Dev.rd_setHb (s : Dev) (n' : Nat) (v : Hb) (b : Nat) (f : Fld) :
    (s.setHb n' v).rd b f = s.rd b f := rfl
@[simp] theorem Dev.rd_upHb (s : Dev) (n' : Nat) (f' : Hb → Hb) (b : Nat) (f : Fld) :
    (s.upHb n' f').rd b f = s.rd b f := rfl
@[simp] theorem Dev.rd_setRoute (s : Dev) (k' n' : Nat) (v : BitVec 16) (b : Nat) (f : Fld) :
    (s.setRoute k' n' v).rd b f = s.rd b f := rfl
@[simp] theorem Dev.rd_setOutRec (s : Dev) (e tag : Nat) (v : OutRec) (b : Nat) (f : Fld) :
    (s.setOutRec e tag v).rd b f = s.rd b f := rfl
@[simp] theorem Dev.rd_setLine (s : Dev) (k' : Nat) (v : Line) (b : Nat) (f : Fld) :
    (s.setLine k' v).rd b f = s.rd b f := rfl
@[simp] theorem Dev.rd_setUnitState (s : Dev) (u : Nat) (v : BitVec 2) (b : Nat) (f : Fld) :
    (s.setUnitState u v).rd b f = s.rd b f := rfl
@[simp] theorem Dev.rd_signal (s : Dev) (n' : Nat) (i : FaultInfo) (b : Nat) (f : Fld) :
    (s.signal n' i).rd b f = s.rd b f := rfl
@[simp] theorem Dev.rd_raise (s : Dev) (n' : Nat) (b : Nat) (f : Fld) :
    (s.raise n').rd b f = s.rd b f := rfl
@[simp] theorem Dev.reg_setWide (s : Dev) (b' sel' v : Nat) (a : Nat) :
    (s.setWide b' sel' v).reg a = s.reg a := rfl
@[simp] theorem Dev.reg_setMailbox (s : Dev) (b' : Nat) (v : Mbx) (a : Nat) :
    (s.setMailbox b' v).reg a = s.reg a := rfl
@[simp] theorem Dev.reg_setFp (s : Dev) (n' : Nat) (v : Fp) (a : Nat) :
    (s.setFp n' v).reg a = s.reg a := rfl
@[simp] theorem Dev.reg_upFp (s : Dev) (n' : Nat) (f' : Fp → Fp) (a : Nat) :
    (s.upFp n' f').reg a = s.reg a := rfl
@[simp] theorem Dev.reg_setPc (s : Dev) (p' : Nat) (v : Pc) (a : Nat) :
    (s.setPc p' v).reg a = s.reg a := rfl
@[simp] theorem Dev.reg_upPc (s : Dev) (p' : Nat) (f' : Pc → Pc) (a : Nat) :
    (s.upPc p' f').reg a = s.reg a := rfl
@[simp] theorem Dev.reg_setQme (s : Dev) (q : Nat) (v : Qme) (a : Nat) :
    (s.setQme q v).reg a = s.reg a := rfl
@[simp] theorem Dev.reg_upQme (s : Dev) (q : Nat) (f' : Qme → Qme) (a : Nat) :
    (s.upQme q f').reg a = s.reg a := rfl
@[simp] theorem Dev.reg_setHb (s : Dev) (n' : Nat) (v : Hb) (a : Nat) :
    (s.setHb n' v).reg a = s.reg a := rfl
@[simp] theorem Dev.reg_upHb (s : Dev) (n' : Nat) (f' : Hb → Hb) (a : Nat) :
    (s.upHb n' f').reg a = s.reg a := rfl
@[simp] theorem Dev.reg_setRoute (s : Dev) (k' n' : Nat) (v : BitVec 16) (a : Nat) :
    (s.setRoute k' n' v).reg a = s.reg a := rfl
@[simp] theorem Dev.reg_setOutRec (s : Dev) (e tag : Nat) (v : OutRec) (a : Nat) :
    (s.setOutRec e tag v).reg a = s.reg a := rfl
@[simp] theorem Dev.reg_setLine (s : Dev) (k' : Nat) (v : Line) (a : Nat) :
    (s.setLine k' v).reg a = s.reg a := rfl
@[simp] theorem Dev.reg_setUnitState (s : Dev) (u : Nat) (v : BitVec 2) (a : Nat) :
    (s.setUnitState u v).reg a = s.reg a := rfl
@[simp] theorem Dev.reg_signal (s : Dev) (n' : Nat) (i : FaultInfo) (a : Nat) :
    (s.signal n' i).reg a = s.reg a := rfl
@[simp] theorem Dev.reg_raise (s : Dev) (n' : Nat) (a : Nat) :
    (s.raise n').reg a = s.reg a := rfl
@[simp] theorem Dev.flag_setWide (s : Dev) (b' sel' v : Nat) (b : Nat) (f : Fld) :
    (s.setWide b' sel' v).flag b f = s.flag b f := rfl
@[simp] theorem Dev.flag_setMailbox (s : Dev) (b' : Nat) (v : Mbx) (b : Nat) (f : Fld) :
    (s.setMailbox b' v).flag b f = s.flag b f := rfl
@[simp] theorem Dev.flag_setFp (s : Dev) (n' : Nat) (v : Fp) (b : Nat) (f : Fld) :
    (s.setFp n' v).flag b f = s.flag b f := rfl
@[simp] theorem Dev.flag_upFp (s : Dev) (n' : Nat) (f' : Fp → Fp) (b : Nat) (f : Fld) :
    (s.upFp n' f').flag b f = s.flag b f := rfl
@[simp] theorem Dev.flag_setPc (s : Dev) (p' : Nat) (v : Pc) (b : Nat) (f : Fld) :
    (s.setPc p' v).flag b f = s.flag b f := rfl
@[simp] theorem Dev.flag_upPc (s : Dev) (p' : Nat) (f' : Pc → Pc) (b : Nat) (f : Fld) :
    (s.upPc p' f').flag b f = s.flag b f := rfl
@[simp] theorem Dev.flag_setQme (s : Dev) (q : Nat) (v : Qme) (b : Nat) (f : Fld) :
    (s.setQme q v).flag b f = s.flag b f := rfl
@[simp] theorem Dev.flag_upQme (s : Dev) (q : Nat) (f' : Qme → Qme) (b : Nat) (f : Fld) :
    (s.upQme q f').flag b f = s.flag b f := rfl
@[simp] theorem Dev.flag_setHb (s : Dev) (n' : Nat) (v : Hb) (b : Nat) (f : Fld) :
    (s.setHb n' v).flag b f = s.flag b f := rfl
@[simp] theorem Dev.flag_upHb (s : Dev) (n' : Nat) (f' : Hb → Hb) (b : Nat) (f : Fld) :
    (s.upHb n' f').flag b f = s.flag b f := rfl
@[simp] theorem Dev.flag_setRoute (s : Dev) (k' n' : Nat) (v : BitVec 16) (b : Nat) (f : Fld) :
    (s.setRoute k' n' v).flag b f = s.flag b f := rfl
@[simp] theorem Dev.flag_setOutRec (s : Dev) (e tag : Nat) (v : OutRec) (b : Nat) (f : Fld) :
    (s.setOutRec e tag v).flag b f = s.flag b f := rfl
@[simp] theorem Dev.flag_setLine (s : Dev) (k' : Nat) (v : Line) (b : Nat) (f : Fld) :
    (s.setLine k' v).flag b f = s.flag b f := rfl
@[simp] theorem Dev.flag_setUnitState (s : Dev) (u : Nat) (v : BitVec 2) (b : Nat) (f : Fld) :
    (s.setUnitState u v).flag b f = s.flag b f := rfl
@[simp] theorem Dev.flag_signal (s : Dev) (n' : Nat) (i : FaultInfo) (b : Nat) (f : Fld) :
    (s.signal n' i).flag b f = s.flag b f := rfl
@[simp] theorem Dev.flag_raise (s : Dev) (n' : Nat) (b : Nat) (f : Fld) :
    (s.raise n').flag b f = s.flag b f := rfl
@[simp] theorem Dev.wideOf_setReg (s : Dev) (a' : Nat) (w : Word) (b sel : Nat) :
    (s.setReg a' w).wideOf b sel = s.wideOf b sel := rfl
@[simp] theorem Dev.wideOf_put (s : Dev) (b' : Nat) (f' : Fld) (v : Nat) (b sel : Nat) :
    (s.put b' f' v).wideOf b sel = s.wideOf b sel := rfl
@[simp] theorem Dev.wideOf_putFlag (s : Dev) (b' : Nat) (f' : Fld) (v : Bool) (b sel : Nat) :
    (s.putFlag b' f' v).wideOf b sel = s.wideOf b sel := rfl
@[simp] theorem Dev.wideOf_bump (s : Dev) (b' : Nat) (f' : Fld) (b sel : Nat) :
    (s.bump b' f').wideOf b sel = s.wideOf b sel := rfl
@[simp] theorem Dev.wideOf_setMailbox (s : Dev) (b' : Nat) (v : Mbx) (b sel : Nat) :
    (s.setMailbox b' v).wideOf b sel = s.wideOf b sel := rfl
@[simp] theorem Dev.wideOf_setFp (s : Dev) (n' : Nat) (v : Fp) (b sel : Nat) :
    (s.setFp n' v).wideOf b sel = s.wideOf b sel := rfl
@[simp] theorem Dev.wideOf_upFp (s : Dev) (n' : Nat) (f' : Fp → Fp) (b sel : Nat) :
    (s.upFp n' f').wideOf b sel = s.wideOf b sel := rfl
@[simp] theorem Dev.wideOf_setPc (s : Dev) (p' : Nat) (v : Pc) (b sel : Nat) :
    (s.setPc p' v).wideOf b sel = s.wideOf b sel := rfl
@[simp] theorem Dev.wideOf_upPc (s : Dev) (p' : Nat) (f' : Pc → Pc) (b sel : Nat) :
    (s.upPc p' f').wideOf b sel = s.wideOf b sel := rfl
@[simp] theorem Dev.wideOf_setQme (s : Dev) (q : Nat) (v : Qme) (b sel : Nat) :
    (s.setQme q v).wideOf b sel = s.wideOf b sel := rfl
@[simp] theorem Dev.wideOf_upQme (s : Dev) (q : Nat) (f' : Qme → Qme) (b sel : Nat) :
    (s.upQme q f').wideOf b sel = s.wideOf b sel := rfl
@[simp] theorem Dev.wideOf_setHb (s : Dev) (n' : Nat) (v : Hb) (b sel : Nat) :
    (s.setHb n' v).wideOf b sel = s.wideOf b sel := rfl
@[simp] theorem Dev.wideOf_upHb (s : Dev) (n' : Nat) (f' : Hb → Hb) (b sel : Nat) :
    (s.upHb n' f').wideOf b sel = s.wideOf b sel := rfl
@[simp] theorem Dev.wideOf_setRoute (s : Dev) (k' n' : Nat) (v : BitVec 16) (b sel : Nat) :
    (s.setRoute k' n' v).wideOf b sel = s.wideOf b sel := rfl
@[simp] theorem Dev.wideOf_setOutRec (s : Dev) (e tag : Nat) (v : OutRec) (b sel : Nat) :
    (s.setOutRec e tag v).wideOf b sel = s.wideOf b sel := rfl
@[simp] theorem Dev.wideOf_setLine (s : Dev) (k' : Nat) (v : Line) (b sel : Nat) :
    (s.setLine k' v).wideOf b sel = s.wideOf b sel := rfl
@[simp] theorem Dev.wideOf_setUnitState (s : Dev) (u : Nat) (v : BitVec 2) (b sel : Nat) :
    (s.setUnitState u v).wideOf b sel = s.wideOf b sel := rfl
@[simp] theorem Dev.wideOf_signal (s : Dev) (n' : Nat) (i : FaultInfo) (b sel : Nat) :
    (s.signal n' i).wideOf b sel = s.wideOf b sel := rfl
@[simp] theorem Dev.wideOf_raise (s : Dev) (n' : Nat) (b sel : Nat) :
    (s.raise n').wideOf b sel = s.wideOf b sel := rfl
@[simp] theorem Dev.wideOf_count (s : Dev) (b' : Nat) (f' : Fld) (b sel : Nat) :
    (s.count b' f').wideOf b sel = s.wideOf b sel := by
  unfold Dev.count; split <;> rfl
@[simp] theorem Dev.pc_setReg (s : Dev) (a' : Nat) (w : Word) (p : Nat) :
    (s.setReg a' w).pc p = s.pc p := rfl
@[simp] theorem Dev.pc_put (s : Dev) (b' : Nat) (f' : Fld) (v : Nat) (p : Nat) :
    (s.put b' f' v).pc p = s.pc p := rfl
@[simp] theorem Dev.pc_putFlag (s : Dev) (b' : Nat) (f' : Fld) (v : Bool) (p : Nat) :
    (s.putFlag b' f' v).pc p = s.pc p := rfl
@[simp] theorem Dev.pc_bump (s : Dev) (b' : Nat) (f' : Fld) (p : Nat) :
    (s.bump b' f').pc p = s.pc p := rfl
@[simp] theorem Dev.pc_setWide (s : Dev) (b' sel' v : Nat) (p : Nat) :
    (s.setWide b' sel' v).pc p = s.pc p := rfl
@[simp] theorem Dev.pc_setMailbox (s : Dev) (b' : Nat) (v : Mbx) (p : Nat) :
    (s.setMailbox b' v).pc p = s.pc p := rfl
@[simp] theorem Dev.pc_setFp (s : Dev) (n' : Nat) (v : Fp) (p : Nat) :
    (s.setFp n' v).pc p = s.pc p := rfl
@[simp] theorem Dev.pc_upFp (s : Dev) (n' : Nat) (f' : Fp → Fp) (p : Nat) :
    (s.upFp n' f').pc p = s.pc p := rfl
@[simp] theorem Dev.pc_setQme (s : Dev) (q : Nat) (v : Qme) (p : Nat) :
    (s.setQme q v).pc p = s.pc p := rfl
@[simp] theorem Dev.pc_upQme (s : Dev) (q : Nat) (f' : Qme → Qme) (p : Nat) :
    (s.upQme q f').pc p = s.pc p := rfl
@[simp] theorem Dev.pc_setHb (s : Dev) (n' : Nat) (v : Hb) (p : Nat) :
    (s.setHb n' v).pc p = s.pc p := rfl
@[simp] theorem Dev.pc_upHb (s : Dev) (n' : Nat) (f' : Hb → Hb) (p : Nat) :
    (s.upHb n' f').pc p = s.pc p := rfl
@[simp] theorem Dev.pc_setRoute (s : Dev) (k' n' : Nat) (v : BitVec 16) (p : Nat) :
    (s.setRoute k' n' v).pc p = s.pc p := rfl
@[simp] theorem Dev.pc_setOutRec (s : Dev) (e tag : Nat) (v : OutRec) (p : Nat) :
    (s.setOutRec e tag v).pc p = s.pc p := rfl
@[simp] theorem Dev.pc_setLine (s : Dev) (k' : Nat) (v : Line) (p : Nat) :
    (s.setLine k' v).pc p = s.pc p := rfl
@[simp] theorem Dev.pc_setUnitState (s : Dev) (u : Nat) (v : BitVec 2) (p : Nat) :
    (s.setUnitState u v).pc p = s.pc p := rfl
@[simp] theorem Dev.pc_signal (s : Dev) (n' : Nat) (i : FaultInfo) (p : Nat) :
    (s.signal n' i).pc p = s.pc p := rfl
@[simp] theorem Dev.pc_raise (s : Dev) (n' : Nat) (p : Nat) :
    (s.raise n').pc p = s.pc p := rfl
@[simp] theorem Dev.pc_count (s : Dev) (b' : Nat) (f' : Fld) (p : Nat) :
    (s.count b' f').pc p = s.pc p := by
  unfold Dev.count; split <;> rfl
@[simp] theorem Dev.fp_setReg (s : Dev) (a' : Nat) (w : Word) (p : Nat) :
    (s.setReg a' w).fp p = s.fp p := rfl
@[simp] theorem Dev.fp_put (s : Dev) (b' : Nat) (f' : Fld) (v : Nat) (p : Nat) :
    (s.put b' f' v).fp p = s.fp p := rfl
@[simp] theorem Dev.fp_putFlag (s : Dev) (b' : Nat) (f' : Fld) (v : Bool) (p : Nat) :
    (s.putFlag b' f' v).fp p = s.fp p := rfl
@[simp] theorem Dev.fp_bump (s : Dev) (b' : Nat) (f' : Fld) (p : Nat) :
    (s.bump b' f').fp p = s.fp p := rfl
@[simp] theorem Dev.fp_setWide (s : Dev) (b' sel' v : Nat) (p : Nat) :
    (s.setWide b' sel' v).fp p = s.fp p := rfl
@[simp] theorem Dev.fp_setMailbox (s : Dev) (b' : Nat) (v : Mbx) (p : Nat) :
    (s.setMailbox b' v).fp p = s.fp p := rfl
@[simp] theorem Dev.fp_setPc (s : Dev) (p' : Nat) (v : Pc) (p : Nat) :
    (s.setPc p' v).fp p = s.fp p := rfl
@[simp] theorem Dev.fp_upPc (s : Dev) (p' : Nat) (f' : Pc → Pc) (p : Nat) :
    (s.upPc p' f').fp p = s.fp p := rfl
@[simp] theorem Dev.fp_setQme (s : Dev) (q : Nat) (v : Qme) (p : Nat) :
    (s.setQme q v).fp p = s.fp p := rfl
@[simp] theorem Dev.fp_upQme (s : Dev) (q : Nat) (f' : Qme → Qme) (p : Nat) :
    (s.upQme q f').fp p = s.fp p := rfl
@[simp] theorem Dev.fp_setHb (s : Dev) (n' : Nat) (v : Hb) (p : Nat) :
    (s.setHb n' v).fp p = s.fp p := rfl
@[simp] theorem Dev.fp_upHb (s : Dev) (n' : Nat) (f' : Hb → Hb) (p : Nat) :
    (s.upHb n' f').fp p = s.fp p := rfl
@[simp] theorem Dev.fp_setRoute (s : Dev) (k' n' : Nat) (v : BitVec 16) (p : Nat) :
    (s.setRoute k' n' v).fp p = s.fp p := rfl
@[simp] theorem Dev.fp_setOutRec (s : Dev) (e tag : Nat) (v : OutRec) (p : Nat) :
    (s.setOutRec e tag v).fp p = s.fp p := rfl
@[simp] theorem Dev.fp_setLine (s : Dev) (k' : Nat) (v : Line) (p : Nat) :
    (s.setLine k' v).fp p = s.fp p := rfl
@[simp] theorem Dev.fp_setUnitState (s : Dev) (u : Nat) (v : BitVec 2) (p : Nat) :
    (s.setUnitState u v).fp p = s.fp p := rfl
@[simp] theorem Dev.fp_signal (s : Dev) (n' : Nat) (i : FaultInfo) (p : Nat) :
    (s.signal n' i).fp p = s.fp p := rfl
@[simp] theorem Dev.fp_raise (s : Dev) (n' : Nat) (p : Nat) :
    (s.raise n').fp p = s.fp p := rfl
@[simp] theorem Dev.fp_count (s : Dev) (b' : Nat) (f' : Fld) (p : Nat) :
    (s.count b' f').fp p = s.fp p := by
  unfold Dev.count; split <;> rfl
@[simp] theorem Dev.hb_setReg (s : Dev) (a' : Nat) (w : Word) (p : Nat) :
    (s.setReg a' w).hb p = s.hb p := rfl
@[simp] theorem Dev.hb_put (s : Dev) (b' : Nat) (f' : Fld) (v : Nat) (p : Nat) :
    (s.put b' f' v).hb p = s.hb p := rfl
@[simp] theorem Dev.hb_putFlag (s : Dev) (b' : Nat) (f' : Fld) (v : Bool) (p : Nat) :
    (s.putFlag b' f' v).hb p = s.hb p := rfl
@[simp] theorem Dev.hb_bump (s : Dev) (b' : Nat) (f' : Fld) (p : Nat) :
    (s.bump b' f').hb p = s.hb p := rfl
@[simp] theorem Dev.hb_setWide (s : Dev) (b' sel' v : Nat) (p : Nat) :
    (s.setWide b' sel' v).hb p = s.hb p := rfl
@[simp] theorem Dev.hb_setMailbox (s : Dev) (b' : Nat) (v : Mbx) (p : Nat) :
    (s.setMailbox b' v).hb p = s.hb p := rfl
@[simp] theorem Dev.hb_setFp (s : Dev) (n' : Nat) (v : Fp) (p : Nat) :
    (s.setFp n' v).hb p = s.hb p := rfl
@[simp] theorem Dev.hb_upFp (s : Dev) (n' : Nat) (f' : Fp → Fp) (p : Nat) :
    (s.upFp n' f').hb p = s.hb p := rfl
@[simp] theorem Dev.hb_setPc (s : Dev) (p' : Nat) (v : Pc) (p : Nat) :
    (s.setPc p' v).hb p = s.hb p := rfl
@[simp] theorem Dev.hb_upPc (s : Dev) (p' : Nat) (f' : Pc → Pc) (p : Nat) :
    (s.upPc p' f').hb p = s.hb p := rfl
@[simp] theorem Dev.hb_setQme (s : Dev) (q : Nat) (v : Qme) (p : Nat) :
    (s.setQme q v).hb p = s.hb p := rfl
@[simp] theorem Dev.hb_upQme (s : Dev) (q : Nat) (f' : Qme → Qme) (p : Nat) :
    (s.upQme q f').hb p = s.hb p := rfl
@[simp] theorem Dev.hb_setRoute (s : Dev) (k' n' : Nat) (v : BitVec 16) (p : Nat) :
    (s.setRoute k' n' v).hb p = s.hb p := rfl
@[simp] theorem Dev.hb_setOutRec (s : Dev) (e tag : Nat) (v : OutRec) (p : Nat) :
    (s.setOutRec e tag v).hb p = s.hb p := rfl
@[simp] theorem Dev.hb_setLine (s : Dev) (k' : Nat) (v : Line) (p : Nat) :
    (s.setLine k' v).hb p = s.hb p := rfl
@[simp] theorem Dev.hb_setUnitState (s : Dev) (u : Nat) (v : BitVec 2) (p : Nat) :
    (s.setUnitState u v).hb p = s.hb p := rfl
@[simp] theorem Dev.hb_signal (s : Dev) (n' : Nat) (i : FaultInfo) (p : Nat) :
    (s.signal n' i).hb p = s.hb p := rfl
@[simp] theorem Dev.hb_raise (s : Dev) (n' : Nat) (p : Nat) :
    (s.raise n').hb p = s.hb p := rfl
@[simp] theorem Dev.hb_count (s : Dev) (b' : Nat) (f' : Fld) (p : Nat) :
    (s.count b' f').hb p = s.hb p := by
  unfold Dev.count; split <;> rfl
@[simp] theorem Dev.qme_setReg (s : Dev) (a' : Nat) (w : Word) (p : Nat) :
    (s.setReg a' w).qme p = s.qme p := rfl
@[simp] theorem Dev.qme_put (s : Dev) (b' : Nat) (f' : Fld) (v : Nat) (p : Nat) :
    (s.put b' f' v).qme p = s.qme p := rfl
@[simp] theorem Dev.qme_putFlag (s : Dev) (b' : Nat) (f' : Fld) (v : Bool) (p : Nat) :
    (s.putFlag b' f' v).qme p = s.qme p := rfl
@[simp] theorem Dev.qme_bump (s : Dev) (b' : Nat) (f' : Fld) (p : Nat) :
    (s.bump b' f').qme p = s.qme p := rfl
@[simp] theorem Dev.qme_setWide (s : Dev) (b' sel' v : Nat) (p : Nat) :
    (s.setWide b' sel' v).qme p = s.qme p := rfl
@[simp] theorem Dev.qme_setMailbox (s : Dev) (b' : Nat) (v : Mbx) (p : Nat) :
    (s.setMailbox b' v).qme p = s.qme p := rfl
@[simp] theorem Dev.qme_setFp (s : Dev) (n' : Nat) (v : Fp) (p : Nat) :
    (s.setFp n' v).qme p = s.qme p := rfl
@[simp] theorem Dev.qme_upFp (s : Dev) (n' : Nat) (f' : Fp → Fp) (p : Nat) :
    (s.upFp n' f').qme p = s.qme p := rfl
@[simp] theorem Dev.qme_setPc (s : Dev) (p' : Nat) (v : Pc) (p : Nat) :
    (s.setPc p' v).qme p = s.qme p := rfl
@[simp] theorem Dev.qme_upPc (s : Dev) (p' : Nat) (f' : Pc → Pc) (p : Nat) :
    (s.upPc p' f').qme p = s.qme p := rfl
@[simp] theorem Dev.qme_setHb (s : Dev) (n' : Nat) (v : Hb) (p : Nat) :
    (s.setHb n' v).qme p = s.qme p := rfl
@[simp] theorem Dev.qme_upHb (s : Dev) (n' : Nat) (f' : Hb → Hb) (p : Nat) :
    (s.upHb n' f').qme p = s.qme p := rfl
@[simp] theorem Dev.qme_setRoute (s : Dev) (k' n' : Nat) (v : BitVec 16) (p : Nat) :
    (s.setRoute k' n' v).qme p = s.qme p := rfl
@[simp] theorem Dev.qme_setOutRec (s : Dev) (e tag : Nat) (v : OutRec) (p : Nat) :
    (s.setOutRec e tag v).qme p = s.qme p := rfl
@[simp] theorem Dev.qme_setLine (s : Dev) (k' : Nat) (v : Line) (p : Nat) :
    (s.setLine k' v).qme p = s.qme p := rfl
@[simp] theorem Dev.qme_setUnitState (s : Dev) (u : Nat) (v : BitVec 2) (p : Nat) :
    (s.setUnitState u v).qme p = s.qme p := rfl
@[simp] theorem Dev.qme_signal (s : Dev) (n' : Nat) (i : FaultInfo) (p : Nat) :
    (s.signal n' i).qme p = s.qme p := rfl
@[simp] theorem Dev.qme_raise (s : Dev) (n' : Nat) (p : Nat) :
    (s.raise n').qme p = s.qme p := rfl
@[simp] theorem Dev.qme_count (s : Dev) (b' : Nat) (f' : Fld) (p : Nat) :
    (s.count b' f').qme p = s.qme p := by
  unfold Dev.count; split <;> rfl
@[simp] theorem Dev.mailbox_setReg (s : Dev) (a' : Nat) (w : Word) (p : Nat) :
    (s.setReg a' w).mailbox p = s.mailbox p := rfl
@[simp] theorem Dev.mailbox_put (s : Dev) (b' : Nat) (f' : Fld) (v : Nat) (p : Nat) :
    (s.put b' f' v).mailbox p = s.mailbox p := rfl
@[simp] theorem Dev.mailbox_putFlag (s : Dev) (b' : Nat) (f' : Fld) (v : Bool) (p : Nat) :
    (s.putFlag b' f' v).mailbox p = s.mailbox p := rfl
@[simp] theorem Dev.mailbox_bump (s : Dev) (b' : Nat) (f' : Fld) (p : Nat) :
    (s.bump b' f').mailbox p = s.mailbox p := rfl
@[simp] theorem Dev.mailbox_setWide (s : Dev) (b' sel' v : Nat) (p : Nat) :
    (s.setWide b' sel' v).mailbox p = s.mailbox p := rfl
@[simp] theorem Dev.mailbox_setFp (s : Dev) (n' : Nat) (v : Fp) (p : Nat) :
    (s.setFp n' v).mailbox p = s.mailbox p := rfl
@[simp] theorem Dev.mailbox_upFp (s : Dev) (n' : Nat) (f' : Fp → Fp) (p : Nat) :
    (s.upFp n' f').mailbox p = s.mailbox p := rfl
@[simp] theorem Dev.mailbox_setPc (s : Dev) (p' : Nat) (v : Pc) (p : Nat) :
    (s.setPc p' v).mailbox p = s.mailbox p := rfl
@[simp] theorem Dev.mailbox_upPc (s : Dev) (p' : Nat) (f' : Pc → Pc) (p : Nat) :
    (s.upPc p' f').mailbox p = s.mailbox p := rfl
@[simp] theorem Dev.mailbox_setQme (s : Dev) (q : Nat) (v : Qme) (p : Nat) :
    (s.setQme q v).mailbox p = s.mailbox p := rfl
@[simp] theorem Dev.mailbox_upQme (s : Dev) (q : Nat) (f' : Qme → Qme) (p : Nat) :
    (s.upQme q f').mailbox p = s.mailbox p := rfl
@[simp] theorem Dev.mailbox_setHb (s : Dev) (n' : Nat) (v : Hb) (p : Nat) :
    (s.setHb n' v).mailbox p = s.mailbox p := rfl
@[simp] theorem Dev.mailbox_upHb (s : Dev) (n' : Nat) (f' : Hb → Hb) (p : Nat) :
    (s.upHb n' f').mailbox p = s.mailbox p := rfl
@[simp] theorem Dev.mailbox_setRoute (s : Dev) (k' n' : Nat) (v : BitVec 16) (p : Nat) :
    (s.setRoute k' n' v).mailbox p = s.mailbox p := rfl
@[simp] theorem Dev.mailbox_setOutRec (s : Dev) (e tag : Nat) (v : OutRec) (p : Nat) :
    (s.setOutRec e tag v).mailbox p = s.mailbox p := rfl
@[simp] theorem Dev.mailbox_setLine (s : Dev) (k' : Nat) (v : Line) (p : Nat) :
    (s.setLine k' v).mailbox p = s.mailbox p := rfl
@[simp] theorem Dev.mailbox_setUnitState (s : Dev) (u : Nat) (v : BitVec 2) (p : Nat) :
    (s.setUnitState u v).mailbox p = s.mailbox p := rfl
@[simp] theorem Dev.mailbox_signal (s : Dev) (n' : Nat) (i : FaultInfo) (p : Nat) :
    (s.signal n' i).mailbox p = s.mailbox p := rfl
@[simp] theorem Dev.mailbox_raise (s : Dev) (n' : Nat) (p : Nat) :
    (s.raise n').mailbox p = s.mailbox p := rfl
@[simp] theorem Dev.mailbox_count (s : Dev) (b' : Nat) (f' : Fld) (p : Nat) :
    (s.count b' f').mailbox p = s.mailbox p := by
  unfold Dev.count; split <;> rfl
@[simp] theorem Dev.lineAt_setReg (s : Dev) (a' : Nat) (w : Word) (p : Nat) :
    (s.setReg a' w).lineAt p = s.lineAt p := rfl
@[simp] theorem Dev.lineAt_put (s : Dev) (b' : Nat) (f' : Fld) (v : Nat) (p : Nat) :
    (s.put b' f' v).lineAt p = s.lineAt p := rfl
@[simp] theorem Dev.lineAt_putFlag (s : Dev) (b' : Nat) (f' : Fld) (v : Bool) (p : Nat) :
    (s.putFlag b' f' v).lineAt p = s.lineAt p := rfl
@[simp] theorem Dev.lineAt_bump (s : Dev) (b' : Nat) (f' : Fld) (p : Nat) :
    (s.bump b' f').lineAt p = s.lineAt p := rfl
@[simp] theorem Dev.lineAt_setWide (s : Dev) (b' sel' v : Nat) (p : Nat) :
    (s.setWide b' sel' v).lineAt p = s.lineAt p := rfl
@[simp] theorem Dev.lineAt_setMailbox (s : Dev) (b' : Nat) (v : Mbx) (p : Nat) :
    (s.setMailbox b' v).lineAt p = s.lineAt p := rfl
@[simp] theorem Dev.lineAt_setFp (s : Dev) (n' : Nat) (v : Fp) (p : Nat) :
    (s.setFp n' v).lineAt p = s.lineAt p := rfl
@[simp] theorem Dev.lineAt_upFp (s : Dev) (n' : Nat) (f' : Fp → Fp) (p : Nat) :
    (s.upFp n' f').lineAt p = s.lineAt p := rfl
@[simp] theorem Dev.lineAt_setPc (s : Dev) (p' : Nat) (v : Pc) (p : Nat) :
    (s.setPc p' v).lineAt p = s.lineAt p := rfl
@[simp] theorem Dev.lineAt_upPc (s : Dev) (p' : Nat) (f' : Pc → Pc) (p : Nat) :
    (s.upPc p' f').lineAt p = s.lineAt p := rfl
@[simp] theorem Dev.lineAt_setQme (s : Dev) (q : Nat) (v : Qme) (p : Nat) :
    (s.setQme q v).lineAt p = s.lineAt p := rfl
@[simp] theorem Dev.lineAt_upQme (s : Dev) (q : Nat) (f' : Qme → Qme) (p : Nat) :
    (s.upQme q f').lineAt p = s.lineAt p := rfl
@[simp] theorem Dev.lineAt_setHb (s : Dev) (n' : Nat) (v : Hb) (p : Nat) :
    (s.setHb n' v).lineAt p = s.lineAt p := rfl
@[simp] theorem Dev.lineAt_upHb (s : Dev) (n' : Nat) (f' : Hb → Hb) (p : Nat) :
    (s.upHb n' f').lineAt p = s.lineAt p := rfl
@[simp] theorem Dev.lineAt_setRoute (s : Dev) (k' n' : Nat) (v : BitVec 16) (p : Nat) :
    (s.setRoute k' n' v).lineAt p = s.lineAt p := rfl
@[simp] theorem Dev.lineAt_setOutRec (s : Dev) (e tag : Nat) (v : OutRec) (p : Nat) :
    (s.setOutRec e tag v).lineAt p = s.lineAt p := rfl
@[simp] theorem Dev.lineAt_setUnitState (s : Dev) (u : Nat) (v : BitVec 2) (p : Nat) :
    (s.setUnitState u v).lineAt p = s.lineAt p := rfl
@[simp] theorem Dev.lineAt_signal (s : Dev) (n' : Nat) (i : FaultInfo) (p : Nat) :
    (s.signal n' i).lineAt p = s.lineAt p := rfl
@[simp] theorem Dev.lineAt_raise (s : Dev) (n' : Nat) (p : Nat) :
    (s.raise n').lineAt p = s.lineAt p := rfl
@[simp] theorem Dev.lineAt_count (s : Dev) (b' : Nat) (f' : Fld) (p : Nat) :
    (s.count b' f').lineAt p = s.lineAt p := by
  unfold Dev.count; split <;> rfl
@[simp] theorem Dev.unitState_setReg (s : Dev) (a' : Nat) (w : Word) (p : Nat) :
    (s.setReg a' w).unitState p = s.unitState p := rfl
@[simp] theorem Dev.unitState_put (s : Dev) (b' : Nat) (f' : Fld) (v : Nat) (p : Nat) :
    (s.put b' f' v).unitState p = s.unitState p := rfl
@[simp] theorem Dev.unitState_putFlag (s : Dev) (b' : Nat) (f' : Fld) (v : Bool) (p : Nat) :
    (s.putFlag b' f' v).unitState p = s.unitState p := rfl
@[simp] theorem Dev.unitState_bump (s : Dev) (b' : Nat) (f' : Fld) (p : Nat) :
    (s.bump b' f').unitState p = s.unitState p := rfl
@[simp] theorem Dev.unitState_setWide (s : Dev) (b' sel' v : Nat) (p : Nat) :
    (s.setWide b' sel' v).unitState p = s.unitState p := rfl
@[simp] theorem Dev.unitState_setMailbox (s : Dev) (b' : Nat) (v : Mbx) (p : Nat) :
    (s.setMailbox b' v).unitState p = s.unitState p := rfl
@[simp] theorem Dev.unitState_setFp (s : Dev) (n' : Nat) (v : Fp) (p : Nat) :
    (s.setFp n' v).unitState p = s.unitState p := rfl
@[simp] theorem Dev.unitState_upFp (s : Dev) (n' : Nat) (f' : Fp → Fp) (p : Nat) :
    (s.upFp n' f').unitState p = s.unitState p := rfl
@[simp] theorem Dev.unitState_setPc (s : Dev) (p' : Nat) (v : Pc) (p : Nat) :
    (s.setPc p' v).unitState p = s.unitState p := rfl
@[simp] theorem Dev.unitState_upPc (s : Dev) (p' : Nat) (f' : Pc → Pc) (p : Nat) :
    (s.upPc p' f').unitState p = s.unitState p := rfl
@[simp] theorem Dev.unitState_setQme (s : Dev) (q : Nat) (v : Qme) (p : Nat) :
    (s.setQme q v).unitState p = s.unitState p := rfl
@[simp] theorem Dev.unitState_upQme (s : Dev) (q : Nat) (f' : Qme → Qme) (p : Nat) :
    (s.upQme q f').unitState p = s.unitState p := rfl
@[simp] theorem Dev.unitState_setHb (s : Dev) (n' : Nat) (v : Hb) (p : Nat) :
    (s.setHb n' v).unitState p = s.unitState p := rfl
@[simp] theorem Dev.unitState_upHb (s : Dev) (n' : Nat) (f' : Hb → Hb) (p : Nat) :
    (s.upHb n' f').unitState p = s.unitState p := rfl
@[simp] theorem Dev.unitState_setRoute (s : Dev) (k' n' : Nat) (v : BitVec 16) (p : Nat) :
    (s.setRoute k' n' v).unitState p = s.unitState p := rfl
@[simp] theorem Dev.unitState_setOutRec (s : Dev) (e tag : Nat) (v : OutRec) (p : Nat) :
    (s.setOutRec e tag v).unitState p = s.unitState p := rfl
@[simp] theorem Dev.unitState_setLine (s : Dev) (k' : Nat) (v : Line) (p : Nat) :
    (s.setLine k' v).unitState p = s.unitState p := rfl
@[simp] theorem Dev.unitState_signal (s : Dev) (n' : Nat) (i : FaultInfo) (p : Nat) :
    (s.signal n' i).unitState p = s.unitState p := rfl
@[simp] theorem Dev.unitState_raise (s : Dev) (n' : Nat) (p : Nat) :
    (s.raise n').unitState p = s.unitState p := rfl
@[simp] theorem Dev.unitState_count (s : Dev) (b' : Nat) (f' : Fld) (p : Nat) :
    (s.count b' f').unitState p = s.unitState p := by
  unfold Dev.count; split <;> rfl
@[simp] theorem Dev.route_setReg (s : Dev) (a' : Nat) (w : Word) (k n : Nat) :
    (s.setReg a' w).route k n = s.route k n := rfl
@[simp] theorem Dev.route_put (s : Dev) (b' : Nat) (f' : Fld) (v : Nat) (k n : Nat) :
    (s.put b' f' v).route k n = s.route k n := rfl
@[simp] theorem Dev.route_putFlag (s : Dev) (b' : Nat) (f' : Fld) (v : Bool) (k n : Nat) :
    (s.putFlag b' f' v).route k n = s.route k n := rfl
@[simp] theorem Dev.route_bump (s : Dev) (b' : Nat) (f' : Fld) (k n : Nat) :
    (s.bump b' f').route k n = s.route k n := rfl
@[simp] theorem Dev.route_setWide (s : Dev) (b' sel' v : Nat) (k n : Nat) :
    (s.setWide b' sel' v).route k n = s.route k n := rfl
@[simp] theorem Dev.route_setMailbox (s : Dev) (b' : Nat) (v : Mbx) (k n : Nat) :
    (s.setMailbox b' v).route k n = s.route k n := rfl
@[simp] theorem Dev.route_setFp (s : Dev) (n' : Nat) (v : Fp) (k n : Nat) :
    (s.setFp n' v).route k n = s.route k n := rfl
@[simp] theorem Dev.route_upFp (s : Dev) (n' : Nat) (f' : Fp → Fp) (k n : Nat) :
    (s.upFp n' f').route k n = s.route k n := rfl
@[simp] theorem Dev.route_setPc (s : Dev) (p' : Nat) (v : Pc) (k n : Nat) :
    (s.setPc p' v).route k n = s.route k n := rfl
@[simp] theorem Dev.route_upPc (s : Dev) (p' : Nat) (f' : Pc → Pc) (k n : Nat) :
    (s.upPc p' f').route k n = s.route k n := rfl
@[simp] theorem Dev.route_setQme (s : Dev) (q : Nat) (v : Qme) (k n : Nat) :
    (s.setQme q v).route k n = s.route k n := rfl
@[simp] theorem Dev.route_upQme (s : Dev) (q : Nat) (f' : Qme → Qme) (k n : Nat) :
    (s.upQme q f').route k n = s.route k n := rfl
@[simp] theorem Dev.route_setHb (s : Dev) (n' : Nat) (v : Hb) (k n : Nat) :
    (s.setHb n' v).route k n = s.route k n := rfl
@[simp] theorem Dev.route_upHb (s : Dev) (n' : Nat) (f' : Hb → Hb) (k n : Nat) :
    (s.upHb n' f').route k n = s.route k n := rfl
@[simp] theorem Dev.route_setOutRec (s : Dev) (e tag : Nat) (v : OutRec) (k n : Nat) :
    (s.setOutRec e tag v).route k n = s.route k n := rfl
@[simp] theorem Dev.route_setLine (s : Dev) (k' : Nat) (v : Line) (k n : Nat) :
    (s.setLine k' v).route k n = s.route k n := rfl
@[simp] theorem Dev.route_setUnitState (s : Dev) (u : Nat) (v : BitVec 2) (k n : Nat) :
    (s.setUnitState u v).route k n = s.route k n := rfl
@[simp] theorem Dev.route_signal (s : Dev) (n' : Nat) (i : FaultInfo) (k n : Nat) :
    (s.signal n' i).route k n = s.route k n := rfl
@[simp] theorem Dev.route_raise (s : Dev) (n' : Nat) (k n : Nat) :
    (s.raise n').route k n = s.route k n := rfl
@[simp] theorem Dev.route_count (s : Dev) (b' : Nat) (f' : Fld) (k n : Nat) :
    (s.count b' f').route k n = s.route k n := by
  unfold Dev.count; split <;> rfl
@[simp] theorem Dev.outRec_setReg (s : Dev) (a' : Nat) (w : Word) (k n : Nat) :
    (s.setReg a' w).outRec k n = s.outRec k n := rfl
@[simp] theorem Dev.outRec_put (s : Dev) (b' : Nat) (f' : Fld) (v : Nat) (k n : Nat) :
    (s.put b' f' v).outRec k n = s.outRec k n := rfl
@[simp] theorem Dev.outRec_putFlag (s : Dev) (b' : Nat) (f' : Fld) (v : Bool) (k n : Nat) :
    (s.putFlag b' f' v).outRec k n = s.outRec k n := rfl
@[simp] theorem Dev.outRec_bump (s : Dev) (b' : Nat) (f' : Fld) (k n : Nat) :
    (s.bump b' f').outRec k n = s.outRec k n := rfl
@[simp] theorem Dev.outRec_setWide (s : Dev) (b' sel' v : Nat) (k n : Nat) :
    (s.setWide b' sel' v).outRec k n = s.outRec k n := rfl
@[simp] theorem Dev.outRec_setMailbox (s : Dev) (b' : Nat) (v : Mbx) (k n : Nat) :
    (s.setMailbox b' v).outRec k n = s.outRec k n := rfl
@[simp] theorem Dev.outRec_setFp (s : Dev) (n' : Nat) (v : Fp) (k n : Nat) :
    (s.setFp n' v).outRec k n = s.outRec k n := rfl
@[simp] theorem Dev.outRec_upFp (s : Dev) (n' : Nat) (f' : Fp → Fp) (k n : Nat) :
    (s.upFp n' f').outRec k n = s.outRec k n := rfl
@[simp] theorem Dev.outRec_setPc (s : Dev) (p' : Nat) (v : Pc) (k n : Nat) :
    (s.setPc p' v).outRec k n = s.outRec k n := rfl
@[simp] theorem Dev.outRec_upPc (s : Dev) (p' : Nat) (f' : Pc → Pc) (k n : Nat) :
    (s.upPc p' f').outRec k n = s.outRec k n := rfl
@[simp] theorem Dev.outRec_setQme (s : Dev) (q : Nat) (v : Qme) (k n : Nat) :
    (s.setQme q v).outRec k n = s.outRec k n := rfl
@[simp] theorem Dev.outRec_upQme (s : Dev) (q : Nat) (f' : Qme → Qme) (k n : Nat) :
    (s.upQme q f').outRec k n = s.outRec k n := rfl
@[simp] theorem Dev.outRec_setHb (s : Dev) (n' : Nat) (v : Hb) (k n : Nat) :
    (s.setHb n' v).outRec k n = s.outRec k n := rfl
@[simp] theorem Dev.outRec_upHb (s : Dev) (n' : Nat) (f' : Hb → Hb) (k n : Nat) :
    (s.upHb n' f').outRec k n = s.outRec k n := rfl
@[simp] theorem Dev.outRec_setRoute (s : Dev) (k' n' : Nat) (v : BitVec 16) (k n : Nat) :
    (s.setRoute k' n' v).outRec k n = s.outRec k n := rfl
@[simp] theorem Dev.outRec_setLine (s : Dev) (k' : Nat) (v : Line) (k n : Nat) :
    (s.setLine k' v).outRec k n = s.outRec k n := rfl
@[simp] theorem Dev.outRec_setUnitState (s : Dev) (u : Nat) (v : BitVec 2) (k n : Nat) :
    (s.setUnitState u v).outRec k n = s.outRec k n := rfl
@[simp] theorem Dev.outRec_signal (s : Dev) (n' : Nat) (i : FaultInfo) (k n : Nat) :
    (s.signal n' i).outRec k n = s.outRec k n := rfl
@[simp] theorem Dev.outRec_raise (s : Dev) (n' : Nat) (k n : Nat) :
    (s.raise n').outRec k n = s.outRec k n := rfl
@[simp] theorem Dev.outRec_count (s : Dev) (b' : Nat) (f' : Fld) (k n : Nat) :
    (s.count b' f').outRec k n = s.outRec k n := by
  unfold Dev.count; split <;> rfl

/-! ### Status events, counters, journal records, interrupts -/

/-- A counter touches its own register only. -/
theorem Dev.reg_count_ne (s : Dev) (b : Nat) (f : Fld) (a : Nat) (h : a ≠ b + f.off) : (s.count b f).reg a = s.reg a := by
  unfold Dev.count; split <;> simp [Dev.reg_put, h]

theorem Dev.rd_count_other (s : Dev) (b c : Nat) (f g : Fld) (h : c + g.off ≠ b + f.off) :
    (s.count b f).rd c g = s.rd c g := by simp [Dev.rd, Dev.reg_count_ne _ _ _ _ h]

/-- SEQ advances. -/
theorem Dev.rd_bump_same (s : Dev) (b : Nat) (f : Fld) (h : f.lo + f.len ≤ 32) :
    (s.bump b f).rd b f = nextSeq (s.rd b f) % 2 ^ f.len := by simp [Dev.bump, Dev.rd_put_same _ _ _ _ h]

theorem Dev.rd_bump_other (s : Dev) (b c : Nat) (f g : Fld) (h : c + g.off ≠ b + f.off) :
    (s.bump b f).rd c g = s.rd c g := by simp [Dev.bump, Dev.rd_put_other _ _ _ _ _ _ h]

theorem Dev.rd_bump_apart (s : Dev) (b : Nat) (f g : Fld) (ho : g.off = f.off)
    (h : g.lo + g.len ≤ f.lo ∨ f.lo + f.len ≤ g.lo) : (s.bump b f).rd b g = s.rd b g := by
  simp [Dev.bump, Dev.rd_put_apart _ _ _ _ _ ho h]

/-- Everything that a journal record can change: the log's buffer, and with a full buffer LOG_DROP and its source. -/
theorem Dev.journal_cases (s : Dev) (cls : BitVec 8) (code : Nat) (data : BitVec 256) :
    s.journal cls code data = (s.count base.log LOG.LOG_DROP.COUNT).raise 0x00D ∨
      ∃ m : Mgmt, s.journal cls code data = { s with mgmt := m } := by
  unfold Dev.journal
  split
  · exact .inl rfl
  · exact .inr ⟨_, rfl⟩

theorem Dev.reg_journal (s : Dev) (cls : BitVec 8) (code : Nat) (data : BitVec 256) (a : Nat)
    (h : a ≠ base.log + LOG.LOG_DROP.COUNT.off) : (s.journal cls code data).reg a = s.reg a := by
  rcases s.journal_cases cls code data with e | ⟨m, e⟩ <;> rw [e]
  · simp [Dev.reg_count_ne _ _ _ _ h]
  · rfl

theorem Dev.rd_journal (s : Dev) (cls : BitVec 8) (code : Nat) (data : BitVec 256) (b : Nat) (f : Fld)
    (h : b + f.off ≠ base.log + LOG.LOG_DROP.COUNT.off) : (s.journal cls code data).rd b f = s.rd b f := by
  simp [Dev.rd, Dev.reg_journal _ _ _ _ _ h]

@[simp] theorem Dev.now_journal (s : Dev) (c : BitVec 8) (n : Nat) (d : BitVec 256) : (s.journal c n d).now = s.now := by
  rcases s.journal_cases c n d with e | ⟨m, e⟩
  · rw [e]; simp
  · rw [e]
@[simp] theorem Dev.skew_journal (s : Dev) (c : BitVec 8) (n : Nat) (d : BitVec 256) : (s.journal c n d).skew = s.skew := by
  rcases s.journal_cases c n d with e | ⟨m, e⟩
  · rw [e]; simp
  · rw [e]
@[simp] theorem Dev.slew_journal (s : Dev) (c : BitVec 8) (n : Nat) (d : BitVec 256) : (s.journal c n d).slew = s.slew := by
  rcases s.journal_cases c n d with e | ⟨m, e⟩
  · rw [e]; simp
  · rw [e]
@[simp] theorem Dev.free_journal (s : Dev) (c : BitVec 8) (n : Nat) (d : BitVec 256) : (s.journal c n d).free = s.free := by
  rcases s.journal_cases c n d with e | ⟨m, e⟩
  · rw [e]; simp
  · rw [e]
@[simp] theorem Dev.order_journal (s : Dev) (c : BitVec 8) (n : Nat) (d : BitVec 256) : (s.journal c n d).order = s.order := by
  rcases s.journal_cases c n d with e | ⟨m, e⟩
  · rw [e]; simp
  · rw [e]
@[simp] theorem Dev.wide_journal (s : Dev) (c : BitVec 8) (n : Nat) (d : BitVec 256) : (s.journal c n d).wide = s.wide := by
  rcases s.journal_cases c n d with e | ⟨m, e⟩
  · rw [e]; simp
  · rw [e]
@[simp] theorem Dev.mbx_journal (s : Dev) (c : BitVec 8) (n : Nat) (d : BitVec 256) : (s.journal c n d).mbx = s.mbx := by
  rcases s.journal_cases c n d with e | ⟨m, e⟩
  · rw [e]; simp
  · rw [e]
@[simp] theorem Dev.fps_journal (s : Dev) (c : BitVec 8) (n : Nat) (d : BitVec 256) : (s.journal c n d).fps = s.fps := by
  rcases s.journal_cases c n d with e | ⟨m, e⟩
  · rw [e]; simp
  · rw [e]
@[simp] theorem Dev.routes_journal (s : Dev) (c : BitVec 8) (n : Nat) (d : BitVec 256) : (s.journal c n d).routes = s.routes := by
  rcases s.journal_cases c n d with e | ⟨m, e⟩
  · rw [e]; simp
  · rw [e]
@[simp] theorem Dev.dups_journal (s : Dev) (c : BitVec 8) (n : Nat) (d : BitVec 256) : (s.journal c n d).dups = s.dups := by
  rcases s.journal_cases c n d with e | ⟨m, e⟩
  · rw [e]; simp
  · rw [e]
@[simp] theorem Dev.outcomes_journal (s : Dev) (c : BitVec 8) (n : Nat) (d : BitVec 256) : (s.journal c n d).outcomes = s.outcomes := by
  rcases s.journal_cases c n d with e | ⟨m, e⟩
  · rw [e]; simp
  · rw [e]
@[simp] theorem Dev.offsets_journal (s : Dev) (c : BitVec 8) (n : Nat) (d : BitVec 256) : (s.journal c n d).offsets = s.offsets := by
  rcases s.journal_cases c n d with e | ⟨m, e⟩
  · rw [e]; simp
  · rw [e]
@[simp] theorem Dev.crown_journal (s : Dev) (c : BitVec 8) (n : Nat) (d : BitVec 256) : (s.journal c n d).crown = s.crown := by
  rcases s.journal_cases c n d with e | ⟨m, e⟩
  · rw [e]; simp
  · rw [e]
@[simp] theorem Dev.pcs_journal (s : Dev) (c : BitVec 8) (n : Nat) (d : BitVec 256) : (s.journal c n d).pcs = s.pcs := by
  rcases s.journal_cases c n d with e | ⟨m, e⟩
  · rw [e]; simp
  · rw [e]
@[simp] theorem Dev.qmes_journal (s : Dev) (c : BitVec 8) (n : Nat) (d : BitVec 256) : (s.journal c n d).qmes = s.qmes := by
  rcases s.journal_cases c n d with e | ⟨m, e⟩
  · rw [e]; simp
  · rw [e]
@[simp] theorem Dev.ecc_journal (s : Dev) (c : BitVec 8) (n : Nat) (d : BitVec 256) : (s.journal c n d).ecc = s.ecc := by
  rcases s.journal_cases c n d with e | ⟨m, e⟩
  · rw [e]; simp
  · rw [e]
@[simp] theorem Dev.fuller_journal (s : Dev) (c : BitVec 8) (n : Nat) (d : BitVec 256) : (s.journal c n d).fuller = s.fuller := by
  rcases s.journal_cases c n d with e | ⟨m, e⟩
  · rw [e]; simp
  · rw [e]
@[simp] theorem Dev.pf_journal (s : Dev) (c : BitVec 8) (n : Nat) (d : BitVec 256) : (s.journal c n d).pf = s.pf := by
  rcases s.journal_cases c n d with e | ⟨m, e⟩
  · rw [e]; simp
  · rw [e]
@[simp] theorem Dev.hbs_journal (s : Dev) (c : BitVec 8) (n : Nat) (d : BitVec 256) : (s.journal c n d).hbs = s.hbs := by
  rcases s.journal_cases c n d with e | ⟨m, e⟩
  · rw [e]; simp
  · rw [e]
@[simp] theorem Dev.aesLast_journal (s : Dev) (c : BitVec 8) (n : Nat) (d : BitVec 256) : (s.journal c n d).aesLast = s.aesLast := by
  rcases s.journal_cases c n d with e | ⟨m, e⟩
  · rw [e]; simp
  · rw [e]
@[simp] theorem Dev.batt_journal (s : Dev) (c : BitVec 8) (n : Nat) (d : BitVec 256) : (s.journal c n d).batt = s.batt := by
  rcases s.journal_cases c n d with e | ⟨m, e⟩
  · rw [e]; simp
  · rw [e]
@[simp] theorem Dev.otp_journal (s : Dev) (c : BitVec 8) (n : Nat) (d : BitVec 256) : (s.journal c n d).otp = s.otp := by
  rcases s.journal_cases c n d with e | ⟨m, e⟩
  · rw [e]; simp
  · rw [e]
@[simp] theorem Dev.bist_journal (s : Dev) (c : BitVec 8) (n : Nat) (d : BitVec 256) : (s.journal c n d).bist = s.bist := by
  rcases s.journal_cases c n d with e | ⟨m, e⟩
  · rw [e]; simp
  · rw [e]
@[simp] theorem Dev.icStart_journal (s : Dev) (c : BitVec 8) (n : Nat) (d : BitVec 256) : (s.journal c n d).icStart = s.icStart := by
  rcases s.journal_cases c n d with e | ⟨m, e⟩
  · rw [e]; simp
  · rw [e]
@[simp] theorem Dev.bistWait_journal (s : Dev) (c : BitVec 8) (n : Nat) (d : BitVec 256) : (s.journal c n d).bistWait = s.bistWait := by
  rcases s.journal_cases c n d with e | ⟨m, e⟩
  · rw [e]; simp
  · rw [e]
@[simp] theorem Dev.therm_journal (s : Dev) (c : BitVec 8) (n : Nat) (d : BitVec 256) : (s.journal c n d).therm = s.therm := by
  rcases s.journal_cases c n d with e | ⟨m, e⟩
  · rw [e]; simp
  · rw [e]
@[simp] theorem Dev.power_journal (s : Dev) (c : BitVec 8) (n : Nat) (d : BitVec 256) : (s.journal c n d).power = s.power := by
  rcases s.journal_cases c n d with e | ⟨m, e⟩
  · rw [e]; simp
  · rw [e]
@[simp] theorem Dev.trace_journal (s : Dev) (c : BitVec 8) (n : Nat) (d : BitVec 256) : (s.journal c n d).trace = s.trace := by
  rcases s.journal_cases c n d with e | ⟨m, e⟩
  · rw [e]; simp
  · rw [e]
@[simp] theorem Dev.traceUnread_journal (s : Dev) (c : BitVec 8) (n : Nat) (d : BitVec 256) : (s.journal c n d).traceUnread = s.traceUnread := by
  rcases s.journal_cases c n d with e | ⟨m, e⟩
  · rw [e]; simp
  · rw [e]
@[simp] theorem Dev.dbgBusy_journal (s : Dev) (c : BitVec 8) (n : Nat) (d : BitVec 256) : (s.journal c n d).dbgBusy = s.dbgBusy := by
  rcases s.journal_cases c n d with e | ⟨m, e⟩
  · rw [e]; simp
  · rw [e]
@[simp] theorem Dev.xlate_journal (s : Dev) (c : BitVec 8) (n : Nat) (d : BitVec 256) : (s.journal c n d).xlate = s.xlate := by
  rcases s.journal_cases c n d with e | ⟨m, e⟩
  · rw [e]; simp
  · rw [e]
@[simp] theorem Dev.now_post (s : Dev) (b : Nat) (q e : Fld) (n : Nat) : (s.post b q e n).now = s.now := by
  simp [Dev.post]
@[simp] theorem Dev.skew_post (s : Dev) (b : Nat) (q e : Fld) (n : Nat) : (s.post b q e n).skew = s.skew := by
  simp [Dev.post]
@[simp] theorem Dev.slew_post (s : Dev) (b : Nat) (q e : Fld) (n : Nat) : (s.post b q e n).slew = s.slew := by
  simp [Dev.post]
@[simp] theorem Dev.free_post (s : Dev) (b : Nat) (q e : Fld) (n : Nat) : (s.post b q e n).free = s.free := by
  simp [Dev.post]
@[simp] theorem Dev.order_post (s : Dev) (b : Nat) (q e : Fld) (n : Nat) : (s.post b q e n).order = s.order := by
  simp [Dev.post]
@[simp] theorem Dev.wide_post (s : Dev) (b : Nat) (q e : Fld) (n : Nat) : (s.post b q e n).wide = s.wide := by
  simp [Dev.post]
@[simp] theorem Dev.mbx_post (s : Dev) (b : Nat) (q e : Fld) (n : Nat) : (s.post b q e n).mbx = s.mbx := by
  simp [Dev.post]
@[simp] theorem Dev.fps_post (s : Dev) (b : Nat) (q e : Fld) (n : Nat) : (s.post b q e n).fps = s.fps := by
  simp [Dev.post]
@[simp] theorem Dev.routes_post (s : Dev) (b : Nat) (q e : Fld) (n : Nat) : (s.post b q e n).routes = s.routes := by
  simp [Dev.post]
@[simp] theorem Dev.dups_post (s : Dev) (b : Nat) (q e : Fld) (n : Nat) : (s.post b q e n).dups = s.dups := by
  simp [Dev.post]
@[simp] theorem Dev.outcomes_post (s : Dev) (b : Nat) (q e : Fld) (n : Nat) : (s.post b q e n).outcomes = s.outcomes := by
  simp [Dev.post]
@[simp] theorem Dev.offsets_post (s : Dev) (b : Nat) (q e : Fld) (n : Nat) : (s.post b q e n).offsets = s.offsets := by
  simp [Dev.post]
@[simp] theorem Dev.crown_post (s : Dev) (b : Nat) (q e : Fld) (n : Nat) : (s.post b q e n).crown = s.crown := by
  simp [Dev.post]
@[simp] theorem Dev.pcs_post (s : Dev) (b : Nat) (q e : Fld) (n : Nat) : (s.post b q e n).pcs = s.pcs := by
  simp [Dev.post]
@[simp] theorem Dev.qmes_post (s : Dev) (b : Nat) (q e : Fld) (n : Nat) : (s.post b q e n).qmes = s.qmes := by
  simp [Dev.post]
@[simp] theorem Dev.ecc_post (s : Dev) (b : Nat) (q e : Fld) (n : Nat) : (s.post b q e n).ecc = s.ecc := by
  simp [Dev.post]
@[simp] theorem Dev.fuller_post (s : Dev) (b : Nat) (q e : Fld) (n : Nat) : (s.post b q e n).fuller = s.fuller := by
  simp [Dev.post]
@[simp] theorem Dev.pf_post (s : Dev) (b : Nat) (q e : Fld) (n : Nat) : (s.post b q e n).pf = s.pf := by
  simp [Dev.post]
@[simp] theorem Dev.hbs_post (s : Dev) (b : Nat) (q e : Fld) (n : Nat) : (s.post b q e n).hbs = s.hbs := by
  simp [Dev.post]
@[simp] theorem Dev.aesLast_post (s : Dev) (b : Nat) (q e : Fld) (n : Nat) : (s.post b q e n).aesLast = s.aesLast := by
  simp [Dev.post]
@[simp] theorem Dev.batt_post (s : Dev) (b : Nat) (q e : Fld) (n : Nat) : (s.post b q e n).batt = s.batt := by
  simp [Dev.post]
@[simp] theorem Dev.otp_post (s : Dev) (b : Nat) (q e : Fld) (n : Nat) : (s.post b q e n).otp = s.otp := by
  simp [Dev.post]
@[simp] theorem Dev.bist_post (s : Dev) (b : Nat) (q e : Fld) (n : Nat) : (s.post b q e n).bist = s.bist := by
  simp [Dev.post]
@[simp] theorem Dev.icStart_post (s : Dev) (b : Nat) (q e : Fld) (n : Nat) : (s.post b q e n).icStart = s.icStart := by
  simp [Dev.post]
@[simp] theorem Dev.bistWait_post (s : Dev) (b : Nat) (q e : Fld) (n : Nat) : (s.post b q e n).bistWait = s.bistWait := by
  simp [Dev.post]
@[simp] theorem Dev.therm_post (s : Dev) (b : Nat) (q e : Fld) (n : Nat) : (s.post b q e n).therm = s.therm := by
  simp [Dev.post]
@[simp] theorem Dev.power_post (s : Dev) (b : Nat) (q e : Fld) (n : Nat) : (s.post b q e n).power = s.power := by
  simp [Dev.post]
@[simp] theorem Dev.trace_post (s : Dev) (b : Nat) (q e : Fld) (n : Nat) : (s.post b q e n).trace = s.trace := by
  simp [Dev.post]
@[simp] theorem Dev.traceUnread_post (s : Dev) (b : Nat) (q e : Fld) (n : Nat) : (s.post b q e n).traceUnread = s.traceUnread := by
  simp [Dev.post]
@[simp] theorem Dev.dbgBusy_post (s : Dev) (b : Nat) (q e : Fld) (n : Nat) : (s.post b q e n).dbgBusy = s.dbgBusy := by
  simp [Dev.post]
@[simp] theorem Dev.xlate_post (s : Dev) (b : Nat) (q e : Fld) (n : Nat) : (s.post b q e n).xlate = s.xlate := by
  simp [Dev.post]
@[simp] theorem Dev.wideOf_journal (s : Dev) (c' : BitVec 8) (n' : Nat) (d' : BitVec 256) (b sel : Nat) : (s.journal c' n' d').wideOf b sel = s.wideOf b sel := by
  simp [Dev.wideOf]
@[simp] theorem Dev.wideOf_post (s : Dev) (b' : Nat) (q' e' : Fld) (n' : Nat) (b sel : Nat) : (s.post b' q' e' n').wideOf b sel = s.wideOf b sel := by
  simp [Dev.wideOf]
@[simp] theorem Dev.pc_journal (s : Dev) (c' : BitVec 8) (n' : Nat) (d' : BitVec 256) (p : Nat) : (s.journal c' n' d').pc p = s.pc p := by
  simp [Dev.pc]
@[simp] theorem Dev.pc_post (s : Dev) (b' : Nat) (q' e' : Fld) (n' : Nat) (p : Nat) : (s.post b' q' e' n').pc p = s.pc p := by
  simp [Dev.pc]
@[simp] theorem Dev.fp_journal (s : Dev) (c' : BitVec 8) (n' : Nat) (d' : BitVec 256) (p : Nat) : (s.journal c' n' d').fp p = s.fp p := by
  simp [Dev.fp]
@[simp] theorem Dev.fp_post (s : Dev) (b' : Nat) (q' e' : Fld) (n' : Nat) (p : Nat) : (s.post b' q' e' n').fp p = s.fp p := by
  simp [Dev.fp]
@[simp] theorem Dev.hb_journal (s : Dev) (c' : BitVec 8) (n' : Nat) (d' : BitVec 256) (p : Nat) : (s.journal c' n' d').hb p = s.hb p := by
  simp [Dev.hb]
@[simp] theorem Dev.hb_post (s : Dev) (b' : Nat) (q' e' : Fld) (n' : Nat) (p : Nat) : (s.post b' q' e' n').hb p = s.hb p := by
  simp [Dev.hb]
@[simp] theorem Dev.qme_journal (s : Dev) (c' : BitVec 8) (n' : Nat) (d' : BitVec 256) (p : Nat) : (s.journal c' n' d').qme p = s.qme p := by
  simp [Dev.qme]
@[simp] theorem Dev.qme_post (s : Dev) (b' : Nat) (q' e' : Fld) (n' : Nat) (p : Nat) : (s.post b' q' e' n').qme p = s.qme p := by
  simp [Dev.qme]
@[simp] theorem Dev.mailbox_journal (s : Dev) (c' : BitVec 8) (n' : Nat) (d' : BitVec 256) (p : Nat) : (s.journal c' n' d').mailbox p = s.mailbox p := by
  simp [Dev.mailbox]
@[simp] theorem Dev.mailbox_post (s : Dev) (b' : Nat) (q' e' : Fld) (n' : Nat) (p : Nat) : (s.post b' q' e' n').mailbox p = s.mailbox p := by
  simp [Dev.mailbox]
@[simp] theorem Dev.lineAt_journal (s : Dev) (c' : BitVec 8) (n' : Nat) (d' : BitVec 256) (p : Nat) : (s.journal c' n' d').lineAt p = s.lineAt p := by
  simp [Dev.lineAt]
@[simp] theorem Dev.lineAt_post (s : Dev) (b' : Nat) (q' e' : Fld) (n' : Nat) (p : Nat) : (s.post b' q' e' n').lineAt p = s.lineAt p := by
  simp [Dev.lineAt]
@[simp] theorem Dev.unitState_journal (s : Dev) (c' : BitVec 8) (n' : Nat) (d' : BitVec 256) (p : Nat) : (s.journal c' n' d').unitState p = s.unitState p := by
  simp [Dev.unitState]
@[simp] theorem Dev.unitState_post (s : Dev) (b' : Nat) (q' e' : Fld) (n' : Nat) (p : Nat) : (s.post b' q' e' n').unitState p = s.unitState p := by
  simp [Dev.unitState]
@[simp] theorem Dev.route_journal (s : Dev) (c' : BitVec 8) (n' : Nat) (d' : BitVec 256) (k n : Nat) : (s.journal c' n' d').route k n = s.route k n := by
  simp [Dev.route]
@[simp] theorem Dev.route_post (s : Dev) (b' : Nat) (q' e' : Fld) (n' : Nat) (k n : Nat) : (s.post b' q' e' n').route k n = s.route k n := by
  simp [Dev.route]
@[simp] theorem Dev.outRec_journal (s : Dev) (c' : BitVec 8) (n' : Nat) (d' : BitVec 256) (k n : Nat) : (s.journal c' n' d').outRec k n = s.outRec k n := by
  simp [Dev.outRec]
@[simp] theorem Dev.outRec_post (s : Dev) (b' : Nat) (q' e' : Fld) (n' : Nat) (k n : Nat) : (s.post b' q' e' n').outRec k n = s.outRec k n := by
  simp [Dev.outRec]

/-- A status event touches its own register, and LOG_DROP with a full log buffer. -/
theorem Dev.rd_post_other (s : Dev) (b c : Nat) (q e g : Fld) (n : Nat) (hq : c + g.off ≠ b + q.off)
    (he : c + g.off ≠ b + e.off) (hl : c + g.off ≠ base.log + LOG.LOG_DROP.COUNT.off) :
    (s.post b q e n).rd c g = s.rd c g := by
  simp only [Dev.post]
  rw [Dev.rd_journal _ _ _ _ _ _ hl, Dev.rd_bump_other _ _ _ _ _ hq, Dev.rd_put_other _ _ _ _ _ _ he]

/-- After a status event EVENT holds its code. -/
theorem Dev.rd_post_event (s : Dev) (b : Nat) (q e : Fld) (n : Nat) (ho : e.off = q.off)
    (h : e.lo + e.len ≤ q.lo ∨ q.lo + q.len ≤ e.lo) (h32 : e.lo + e.len ≤ 32)
    (hl : b + e.off ≠ base.log + LOG.LOG_DROP.COUNT.off) : (s.post b q e n).rd b e = n % 2 ^ e.len := by
  simp only [Dev.post]
  rw [Dev.rd_journal _ _ _ _ _ _ hl, Dev.rd_bump_apart _ _ _ _ ho h, Dev.rd_put_same _ _ _ _ h32]

/-- After a status event SEQ has advanced. -/
theorem Dev.rd_post_seq (s : Dev) (b : Nat) (q e : Fld) (n : Nat) (ho : q.off = e.off)
    (h : q.lo + q.len ≤ e.lo ∨ e.lo + e.len ≤ q.lo) (h32 : q.lo + q.len ≤ 32)
    (hl : b + q.off ≠ base.log + LOG.LOG_DROP.COUNT.off) :
    (s.post b q e n).rd b q = nextSeq (s.rd b q) % 2 ^ q.len := by
  simp only [Dev.post]
  rw [Dev.rd_journal _ _ _ _ _ _ hl, Dev.rd_bump_same _ _ _ h32, Dev.rd_put_apart _ _ _ _ _ ho h]

/-- A status event leaves the other fields of its register. -/
theorem Dev.rd_post_apart (s : Dev) (b : Nat) (q e g : Fld) (n : Nat) (hq : g.off = q.off) (he : g.off = e.off)
    (h1 : g.lo + g.len ≤ q.lo ∨ q.lo + q.len ≤ g.lo) (h2 : g.lo + g.len ≤ e.lo ∨ e.lo + e.len ≤ g.lo)
    (hl : b + g.off ≠ base.log + LOG.LOG_DROP.COUNT.off) : (s.post b q e n).rd b g = s.rd b g := by
  simp only [Dev.post]
  rw [Dev.rd_journal _ _ _ _ _ _ hl, Dev.rd_bump_apart _ _ _ _ hq h1, Dev.rd_put_apart _ _ _ _ _ he h2]

/-- A raised source is held at the collector. -/
theorem Dev.raise_held (s : Dev) (src : Nat) : (s.raise src).coll.signals.any (fun g => g.src = src) = true := by
  simp only [Dev.raise, Dev.signal]
  split
  · next h =>
    simp only [List.any_map, List.any_eq_true] at h ⊢
    obtain ⟨g, hg, hs⟩ := h
    refine ⟨g, hg, ?_⟩
    simp only [decide_eq_true_eq] at hs
    simp [Function.comp, hs]
  · simp

/-! ### In-band interrupts -/

/-- What an interrupt can touch: the status register of the I3C target, LOG_DROP, the pending classes, the free-value counter. -/
theorem Dev.rd_ibiMeet (n : Nat) (s : Dev) (b : Nat) (f : Fld) (h : b + f.off ≠ base.i3c + 0x4)
    (hl : b + f.off ≠ base.log + LOG.LOG_DROP.COUNT.off) : (Dev.ibiMeet n s).rd b f = s.rd b f := by
  induction n generalizing s with
  | zero => rfl
  | succ n ih =>
    unfold Dev.ibiMeet
    split
    · rfl
    · simp only
      split
      · rw [ih, Dev.rd_post_other _ _ _ _ _ _ _ h h hl, Dev.rd_put_other _ _ _ ⟨I3C.STATUS.PENDING.off, 15 + _, 1⟩ _ _ h]; simp [Dev.freeValue]
      · rw [Dev.rd_post_other _ _ _ _ _ _ _ h h hl]; simp [Dev.freeValue]

theorem Dev.rd_ibiRaise (s : Dev) (b : Nat) (f : Fld) (h : b + f.off ≠ base.i3c + 0x4)
    (hl : b + f.off ≠ base.log + LOG.LOG_DROP.COUNT.off) : s.ibiRaise.rd b f = s.rd b f := by
  unfold Dev.ibiRaise; split <;> simp [Dev.rd_ibiMeet _ _ _ _ h hl]

theorem Dev.rd_ibi (s : Dev) (cls code seq : Nat) (b : Nat) (f : Fld) (h : b + f.off ≠ base.i3c + 0x4)
    (hl : b + f.off ≠ base.log + LOG.LOG_DROP.COUNT.off) : (s.ibi cls code seq).rd b f = s.rd b f := by
  unfold Dev.ibi
  split
  · rfl
  · split
    · rfl
    · rw [Dev.rd_ibiRaise _ _ _ h hl, Dev.rd_put_other (f := ⟨I3C.STATUS.PENDING.off, 15 + cls, 1⟩) (h := h), Dev.rd_mk]

@[simp] theorem Dev.now_ibiMeet (n : Nat) (s : Dev) : (Dev.ibiMeet n s).now = s.now := by
  induction n generalizing s with
  | zero => rfl
  | succ n ih => unfold Dev.ibiMeet; split; · rfl
                 · simp only; split <;> simp [ih, Dev.freeValue]
@[simp] theorem Dev.now_ibiRaise (s : Dev) : s.ibiRaise.now = s.now := by
  unfold Dev.ibiRaise; split <;> simp
@[simp] theorem Dev.now_ibi (s : Dev) (c k q : Nat) : (s.ibi c k q).now = s.now := by
  unfold Dev.ibi; split; · rfl
  split; · rfl
  simp
@[simp] theorem Dev.skew_ibiMeet (n : Nat) (s : Dev) : (Dev.ibiMeet n s).skew = s.skew := by
  induction n generalizing s with
  | zero => rfl
  | succ n ih => unfold Dev.ibiMeet; split; · rfl
                 · simp only; split <;> simp [ih, Dev.freeValue]
@[simp] theorem Dev.skew_ibiRaise (s : Dev) : s.ibiRaise.skew = s.skew := by
  unfold Dev.ibiRaise; split <;> simp
@[simp] theorem Dev.skew_ibi (s : Dev) (c k q : Nat) : (s.ibi c k q).skew = s.skew := by
  unfold Dev.ibi; split; · rfl
  split; · rfl
  simp
@[simp] theorem Dev.slew_ibiMeet (n : Nat) (s : Dev) : (Dev.ibiMeet n s).slew = s.slew := by
  induction n generalizing s with
  | zero => rfl
  | succ n ih => unfold Dev.ibiMeet; split; · rfl
                 · simp only; split <;> simp [ih, Dev.freeValue]
@[simp] theorem Dev.slew_ibiRaise (s : Dev) : s.ibiRaise.slew = s.slew := by
  unfold Dev.ibiRaise; split <;> simp
@[simp] theorem Dev.slew_ibi (s : Dev) (c k q : Nat) : (s.ibi c k q).slew = s.slew := by
  unfold Dev.ibi; split; · rfl
  split; · rfl
  simp
@[simp] theorem Dev.order_ibiMeet (n : Nat) (s : Dev) : (Dev.ibiMeet n s).order = s.order := by
  induction n generalizing s with
  | zero => rfl
  | succ n ih => unfold Dev.ibiMeet; split; · rfl
                 · simp only; split <;> simp [ih, Dev.freeValue]
@[simp] theorem Dev.order_ibiRaise (s : Dev) : s.ibiRaise.order = s.order := by
  unfold Dev.ibiRaise; split <;> simp
@[simp] theorem Dev.order_ibi (s : Dev) (c k q : Nat) : (s.ibi c k q).order = s.order := by
  unfold Dev.ibi; split; · rfl
  split; · rfl
  simp
@[simp] theorem Dev.wide_ibiMeet (n : Nat) (s : Dev) : (Dev.ibiMeet n s).wide = s.wide := by
  induction n generalizing s with
  | zero => rfl
  | succ n ih => unfold Dev.ibiMeet; split; · rfl
                 · simp only; split <;> simp [ih, Dev.freeValue]
@[simp] theorem Dev.wide_ibiRaise (s : Dev) : s.ibiRaise.wide = s.wide := by
  unfold Dev.ibiRaise; split <;> simp
@[simp] theorem Dev.wide_ibi (s : Dev) (c k q : Nat) : (s.ibi c k q).wide = s.wide := by
  unfold Dev.ibi; split; · rfl
  split; · rfl
  simp
@[simp] theorem Dev.mbx_ibiMeet (n : Nat) (s : Dev) : (Dev.ibiMeet n s).mbx = s.mbx := by
  induction n generalizing s with
  | zero => rfl
  | succ n ih => unfold Dev.ibiMeet; split; · rfl
                 · simp only; split <;> simp [ih, Dev.freeValue]
@[simp] theorem Dev.mbx_ibiRaise (s : Dev) : s.ibiRaise.mbx = s.mbx := by
  unfold Dev.ibiRaise; split <;> simp
@[simp] theorem Dev.mbx_ibi (s : Dev) (c k q : Nat) : (s.ibi c k q).mbx = s.mbx := by
  unfold Dev.ibi; split; · rfl
  split; · rfl
  simp
@[simp] theorem Dev.fps_ibiMeet (n : Nat) (s : Dev) : (Dev.ibiMeet n s).fps = s.fps := by
  induction n generalizing s with
  | zero => rfl
  | succ n ih => unfold Dev.ibiMeet; split; · rfl
                 · simp only; split <;> simp [ih, Dev.freeValue]
@[simp] theorem Dev.fps_ibiRaise (s : Dev) : s.ibiRaise.fps = s.fps := by
  unfold Dev.ibiRaise; split <;> simp
@[simp] theorem Dev.fps_ibi (s : Dev) (c k q : Nat) : (s.ibi c k q).fps = s.fps := by
  unfold Dev.ibi; split; · rfl
  split; · rfl
  simp
@[simp] theorem Dev.routes_ibiMeet (n : Nat) (s : Dev) : (Dev.ibiMeet n s).routes = s.routes := by
  induction n generalizing s with
  | zero => rfl
  | succ n ih => unfold Dev.ibiMeet; split; · rfl
                 · simp only; split <;> simp [ih, Dev.freeValue]
@[simp] theorem Dev.routes_ibiRaise (s : Dev) : s.ibiRaise.routes = s.routes := by
  unfold Dev.ibiRaise; split <;> simp
@[simp] theorem Dev.routes_ibi (s : Dev) (c k q : Nat) : (s.ibi c k q).routes = s.routes := by
  unfold Dev.ibi; split; · rfl
  split; · rfl
  simp
@[simp] theorem Dev.dups_ibiMeet (n : Nat) (s : Dev) : (Dev.ibiMeet n s).dups = s.dups := by
  induction n generalizing s with
  | zero => rfl
  | succ n ih => unfold Dev.ibiMeet; split; · rfl
                 · simp only; split <;> simp [ih, Dev.freeValue]
@[simp] theorem Dev.dups_ibiRaise (s : Dev) : s.ibiRaise.dups = s.dups := by
  unfold Dev.ibiRaise; split <;> simp
@[simp] theorem Dev.dups_ibi (s : Dev) (c k q : Nat) : (s.ibi c k q).dups = s.dups := by
  unfold Dev.ibi; split; · rfl
  split; · rfl
  simp
@[simp] theorem Dev.outcomes_ibiMeet (n : Nat) (s : Dev) : (Dev.ibiMeet n s).outcomes = s.outcomes := by
  induction n generalizing s with
  | zero => rfl
  | succ n ih => unfold Dev.ibiMeet; split; · rfl
                 · simp only; split <;> simp [ih, Dev.freeValue]
@[simp] theorem Dev.outcomes_ibiRaise (s : Dev) : s.ibiRaise.outcomes = s.outcomes := by
  unfold Dev.ibiRaise; split <;> simp
@[simp] theorem Dev.outcomes_ibi (s : Dev) (c k q : Nat) : (s.ibi c k q).outcomes = s.outcomes := by
  unfold Dev.ibi; split; · rfl
  split; · rfl
  simp
@[simp] theorem Dev.offsets_ibiMeet (n : Nat) (s : Dev) : (Dev.ibiMeet n s).offsets = s.offsets := by
  induction n generalizing s with
  | zero => rfl
  | succ n ih => unfold Dev.ibiMeet; split; · rfl
                 · simp only; split <;> simp [ih, Dev.freeValue]
@[simp] theorem Dev.offsets_ibiRaise (s : Dev) : s.ibiRaise.offsets = s.offsets := by
  unfold Dev.ibiRaise; split <;> simp
@[simp] theorem Dev.offsets_ibi (s : Dev) (c k q : Nat) : (s.ibi c k q).offsets = s.offsets := by
  unfold Dev.ibi; split; · rfl
  split; · rfl
  simp
@[simp] theorem Dev.crown_ibiMeet (n : Nat) (s : Dev) : (Dev.ibiMeet n s).crown = s.crown := by
  induction n generalizing s with
  | zero => rfl
  | succ n ih => unfold Dev.ibiMeet; split; · rfl
                 · simp only; split <;> simp [ih, Dev.freeValue]
@[simp] theorem Dev.crown_ibiRaise (s : Dev) : s.ibiRaise.crown = s.crown := by
  unfold Dev.ibiRaise; split <;> simp
@[simp] theorem Dev.crown_ibi (s : Dev) (c k q : Nat) : (s.ibi c k q).crown = s.crown := by
  unfold Dev.ibi; split; · rfl
  split; · rfl
  simp
@[simp] theorem Dev.pcs_ibiMeet (n : Nat) (s : Dev) : (Dev.ibiMeet n s).pcs = s.pcs := by
  induction n generalizing s with
  | zero => rfl
  | succ n ih => unfold Dev.ibiMeet; split; · rfl
                 · simp only; split <;> simp [ih, Dev.freeValue]
@[simp] theorem Dev.pcs_ibiRaise (s : Dev) : s.ibiRaise.pcs = s.pcs := by
  unfold Dev.ibiRaise; split <;> simp
@[simp] theorem Dev.pcs_ibi (s : Dev) (c k q : Nat) : (s.ibi c k q).pcs = s.pcs := by
  unfold Dev.ibi; split; · rfl
  split; · rfl
  simp
@[simp] theorem Dev.qmes_ibiMeet (n : Nat) (s : Dev) : (Dev.ibiMeet n s).qmes = s.qmes := by
  induction n generalizing s with
  | zero => rfl
  | succ n ih => unfold Dev.ibiMeet; split; · rfl
                 · simp only; split <;> simp [ih, Dev.freeValue]
@[simp] theorem Dev.qmes_ibiRaise (s : Dev) : s.ibiRaise.qmes = s.qmes := by
  unfold Dev.ibiRaise; split <;> simp
@[simp] theorem Dev.qmes_ibi (s : Dev) (c k q : Nat) : (s.ibi c k q).qmes = s.qmes := by
  unfold Dev.ibi; split; · rfl
  split; · rfl
  simp
@[simp] theorem Dev.ecc_ibiMeet (n : Nat) (s : Dev) : (Dev.ibiMeet n s).ecc = s.ecc := by
  induction n generalizing s with
  | zero => rfl
  | succ n ih => unfold Dev.ibiMeet; split; · rfl
                 · simp only; split <;> simp [ih, Dev.freeValue]
@[simp] theorem Dev.ecc_ibiRaise (s : Dev) : s.ibiRaise.ecc = s.ecc := by
  unfold Dev.ibiRaise; split <;> simp
@[simp] theorem Dev.ecc_ibi (s : Dev) (c k q : Nat) : (s.ibi c k q).ecc = s.ecc := by
  unfold Dev.ibi; split; · rfl
  split; · rfl
  simp
@[simp] theorem Dev.fuller_ibiMeet (n : Nat) (s : Dev) : (Dev.ibiMeet n s).fuller = s.fuller := by
  induction n generalizing s with
  | zero => rfl
  | succ n ih => unfold Dev.ibiMeet; split; · rfl
                 · simp only; split <;> simp [ih, Dev.freeValue]
@[simp] theorem Dev.fuller_ibiRaise (s : Dev) : s.ibiRaise.fuller = s.fuller := by
  unfold Dev.ibiRaise; split <;> simp
@[simp] theorem Dev.fuller_ibi (s : Dev) (c k q : Nat) : (s.ibi c k q).fuller = s.fuller := by
  unfold Dev.ibi; split; · rfl
  split; · rfl
  simp
@[simp] theorem Dev.pf_ibiMeet (n : Nat) (s : Dev) : (Dev.ibiMeet n s).pf = s.pf := by
  induction n generalizing s with
  | zero => rfl
  | succ n ih => unfold Dev.ibiMeet; split; · rfl
                 · simp only; split <;> simp [ih, Dev.freeValue]
@[simp] theorem Dev.pf_ibiRaise (s : Dev) : s.ibiRaise.pf = s.pf := by
  unfold Dev.ibiRaise; split <;> simp
@[simp] theorem Dev.pf_ibi (s : Dev) (c k q : Nat) : (s.ibi c k q).pf = s.pf := by
  unfold Dev.ibi; split; · rfl
  split; · rfl
  simp
@[simp] theorem Dev.hbs_ibiMeet (n : Nat) (s : Dev) : (Dev.ibiMeet n s).hbs = s.hbs := by
  induction n generalizing s with
  | zero => rfl
  | succ n ih => unfold Dev.ibiMeet; split; · rfl
                 · simp only; split <;> simp [ih, Dev.freeValue]
@[simp] theorem Dev.hbs_ibiRaise (s : Dev) : s.ibiRaise.hbs = s.hbs := by
  unfold Dev.ibiRaise; split <;> simp
@[simp] theorem Dev.hbs_ibi (s : Dev) (c k q : Nat) : (s.ibi c k q).hbs = s.hbs := by
  unfold Dev.ibi; split; · rfl
  split; · rfl
  simp
@[simp] theorem Dev.aesLast_ibiMeet (n : Nat) (s : Dev) : (Dev.ibiMeet n s).aesLast = s.aesLast := by
  induction n generalizing s with
  | zero => rfl
  | succ n ih => unfold Dev.ibiMeet; split; · rfl
                 · simp only; split <;> simp [ih, Dev.freeValue]
@[simp] theorem Dev.aesLast_ibiRaise (s : Dev) : s.ibiRaise.aesLast = s.aesLast := by
  unfold Dev.ibiRaise; split <;> simp
@[simp] theorem Dev.aesLast_ibi (s : Dev) (c k q : Nat) : (s.ibi c k q).aesLast = s.aesLast := by
  unfold Dev.ibi; split; · rfl
  split; · rfl
  simp
@[simp] theorem Dev.batt_ibiMeet (n : Nat) (s : Dev) : (Dev.ibiMeet n s).batt = s.batt := by
  induction n generalizing s with
  | zero => rfl
  | succ n ih => unfold Dev.ibiMeet; split; · rfl
                 · simp only; split <;> simp [ih, Dev.freeValue]
@[simp] theorem Dev.batt_ibiRaise (s : Dev) : s.ibiRaise.batt = s.batt := by
  unfold Dev.ibiRaise; split <;> simp
@[simp] theorem Dev.batt_ibi (s : Dev) (c k q : Nat) : (s.ibi c k q).batt = s.batt := by
  unfold Dev.ibi; split; · rfl
  split; · rfl
  simp
@[simp] theorem Dev.otp_ibiMeet (n : Nat) (s : Dev) : (Dev.ibiMeet n s).otp = s.otp := by
  induction n generalizing s with
  | zero => rfl
  | succ n ih => unfold Dev.ibiMeet; split; · rfl
                 · simp only; split <;> simp [ih, Dev.freeValue]
@[simp] theorem Dev.otp_ibiRaise (s : Dev) : s.ibiRaise.otp = s.otp := by
  unfold Dev.ibiRaise; split <;> simp
@[simp] theorem Dev.otp_ibi (s : Dev) (c k q : Nat) : (s.ibi c k q).otp = s.otp := by
  unfold Dev.ibi; split; · rfl
  split; · rfl
  simp
@[simp] theorem Dev.bist_ibiMeet (n : Nat) (s : Dev) : (Dev.ibiMeet n s).bist = s.bist := by
  induction n generalizing s with
  | zero => rfl
  | succ n ih => unfold Dev.ibiMeet; split; · rfl
                 · simp only; split <;> simp [ih, Dev.freeValue]
@[simp] theorem Dev.bist_ibiRaise (s : Dev) : s.ibiRaise.bist = s.bist := by
  unfold Dev.ibiRaise; split <;> simp
@[simp] theorem Dev.bist_ibi (s : Dev) (c k q : Nat) : (s.ibi c k q).bist = s.bist := by
  unfold Dev.ibi; split; · rfl
  split; · rfl
  simp
@[simp] theorem Dev.icStart_ibiMeet (n : Nat) (s : Dev) : (Dev.ibiMeet n s).icStart = s.icStart := by
  induction n generalizing s with
  | zero => rfl
  | succ n ih => unfold Dev.ibiMeet; split; · rfl
                 · simp only; split <;> simp [ih, Dev.freeValue]
@[simp] theorem Dev.icStart_ibiRaise (s : Dev) : s.ibiRaise.icStart = s.icStart := by
  unfold Dev.ibiRaise; split <;> simp
@[simp] theorem Dev.icStart_ibi (s : Dev) (c k q : Nat) : (s.ibi c k q).icStart = s.icStart := by
  unfold Dev.ibi; split; · rfl
  split; · rfl
  simp
@[simp] theorem Dev.bistWait_ibiMeet (n : Nat) (s : Dev) : (Dev.ibiMeet n s).bistWait = s.bistWait := by
  induction n generalizing s with
  | zero => rfl
  | succ n ih => unfold Dev.ibiMeet; split; · rfl
                 · simp only; split <;> simp [ih, Dev.freeValue]
@[simp] theorem Dev.bistWait_ibiRaise (s : Dev) : s.ibiRaise.bistWait = s.bistWait := by
  unfold Dev.ibiRaise; split <;> simp
@[simp] theorem Dev.bistWait_ibi (s : Dev) (c k q : Nat) : (s.ibi c k q).bistWait = s.bistWait := by
  unfold Dev.ibi; split; · rfl
  split; · rfl
  simp
@[simp] theorem Dev.therm_ibiMeet (n : Nat) (s : Dev) : (Dev.ibiMeet n s).therm = s.therm := by
  induction n generalizing s with
  | zero => rfl
  | succ n ih => unfold Dev.ibiMeet; split; · rfl
                 · simp only; split <;> simp [ih, Dev.freeValue]
@[simp] theorem Dev.therm_ibiRaise (s : Dev) : s.ibiRaise.therm = s.therm := by
  unfold Dev.ibiRaise; split <;> simp
@[simp] theorem Dev.therm_ibi (s : Dev) (c k q : Nat) : (s.ibi c k q).therm = s.therm := by
  unfold Dev.ibi; split; · rfl
  split; · rfl
  simp
@[simp] theorem Dev.power_ibiMeet (n : Nat) (s : Dev) : (Dev.ibiMeet n s).power = s.power := by
  induction n generalizing s with
  | zero => rfl
  | succ n ih => unfold Dev.ibiMeet; split; · rfl
                 · simp only; split <;> simp [ih, Dev.freeValue]
@[simp] theorem Dev.power_ibiRaise (s : Dev) : s.ibiRaise.power = s.power := by
  unfold Dev.ibiRaise; split <;> simp
@[simp] theorem Dev.power_ibi (s : Dev) (c k q : Nat) : (s.ibi c k q).power = s.power := by
  unfold Dev.ibi; split; · rfl
  split; · rfl
  simp
@[simp] theorem Dev.trace_ibiMeet (n : Nat) (s : Dev) : (Dev.ibiMeet n s).trace = s.trace := by
  induction n generalizing s with
  | zero => rfl
  | succ n ih => unfold Dev.ibiMeet; split; · rfl
                 · simp only; split <;> simp [ih, Dev.freeValue]
@[simp] theorem Dev.trace_ibiRaise (s : Dev) : s.ibiRaise.trace = s.trace := by
  unfold Dev.ibiRaise; split <;> simp
@[simp] theorem Dev.trace_ibi (s : Dev) (c k q : Nat) : (s.ibi c k q).trace = s.trace := by
  unfold Dev.ibi; split; · rfl
  split; · rfl
  simp
@[simp] theorem Dev.traceUnread_ibiMeet (n : Nat) (s : Dev) : (Dev.ibiMeet n s).traceUnread = s.traceUnread := by
  induction n generalizing s with
  | zero => rfl
  | succ n ih => unfold Dev.ibiMeet; split; · rfl
                 · simp only; split <;> simp [ih, Dev.freeValue]
@[simp] theorem Dev.traceUnread_ibiRaise (s : Dev) : s.ibiRaise.traceUnread = s.traceUnread := by
  unfold Dev.ibiRaise; split <;> simp
@[simp] theorem Dev.traceUnread_ibi (s : Dev) (c k q : Nat) : (s.ibi c k q).traceUnread = s.traceUnread := by
  unfold Dev.ibi; split; · rfl
  split; · rfl
  simp
@[simp] theorem Dev.dbgBusy_ibiMeet (n : Nat) (s : Dev) : (Dev.ibiMeet n s).dbgBusy = s.dbgBusy := by
  induction n generalizing s with
  | zero => rfl
  | succ n ih => unfold Dev.ibiMeet; split; · rfl
                 · simp only; split <;> simp [ih, Dev.freeValue]
@[simp] theorem Dev.dbgBusy_ibiRaise (s : Dev) : s.ibiRaise.dbgBusy = s.dbgBusy := by
  unfold Dev.ibiRaise; split <;> simp
@[simp] theorem Dev.dbgBusy_ibi (s : Dev) (c k q : Nat) : (s.ibi c k q).dbgBusy = s.dbgBusy := by
  unfold Dev.ibi; split; · rfl
  split; · rfl
  simp
@[simp] theorem Dev.xlate_ibiMeet (n : Nat) (s : Dev) : (Dev.ibiMeet n s).xlate = s.xlate := by
  induction n generalizing s with
  | zero => rfl
  | succ n ih => unfold Dev.ibiMeet; split; · rfl
                 · simp only; split <;> simp [ih, Dev.freeValue]
@[simp] theorem Dev.xlate_ibiRaise (s : Dev) : s.ibiRaise.xlate = s.xlate := by
  unfold Dev.ibiRaise; split <;> simp
@[simp] theorem Dev.xlate_ibi (s : Dev) (c k q : Nat) : (s.ibi c k q).xlate = s.xlate := by
  unfold Dev.ibi; split; · rfl
  split; · rfl
  simp
@[simp] theorem Dev.wideOf_ibi (s : Dev) (c' k' q' : Nat) (b sel : Nat) : (s.ibi c' k' q').wideOf b sel = s.wideOf b sel := by
  simp [Dev.wideOf]
@[simp] theorem Dev.pc_ibi (s : Dev) (c' k' q' : Nat) (p : Nat) : (s.ibi c' k' q').pc p = s.pc p := by
  simp [Dev.pc]
@[simp] theorem Dev.fp_ibi (s : Dev) (c' k' q' : Nat) (p : Nat) : (s.ibi c' k' q').fp p = s.fp p := by
  simp [Dev.fp]
@[simp] theorem Dev.hb_ibi (s : Dev) (c' k' q' : Nat) (p : Nat) : (s.ibi c' k' q').hb p = s.hb p := by
  simp [Dev.hb]
@[simp] theorem Dev.qme_ibi (s : Dev) (c' k' q' : Nat) (p : Nat) : (s.ibi c' k' q').qme p = s.qme p := by
  simp [Dev.qme]
@[simp] theorem Dev.mailbox_ibi (s : Dev) (c' k' q' : Nat) (p : Nat) : (s.ibi c' k' q').mailbox p = s.mailbox p := by
  simp [Dev.mailbox]
@[simp] theorem Dev.lineAt_ibi (s : Dev) (c' k' q' : Nat) (p : Nat) : (s.ibi c' k' q').lineAt p = s.lineAt p := by
  simp [Dev.lineAt]
@[simp] theorem Dev.unitState_ibi (s : Dev) (c' k' q' : Nat) (p : Nat) : (s.ibi c' k' q').unitState p = s.unitState p := by
  simp [Dev.unitState]
@[simp] theorem Dev.route_ibi (s : Dev) (c' k' q' : Nat) (k n : Nat) : (s.ibi c' k' q').route k n = s.route k n := by
  simp [Dev.route]
@[simp] theorem Dev.outRec_ibi (s : Dev) (c' k' q' : Nat) (k n : Nat) : (s.ibi c' k' q').outRec k n = s.outRec k n := by
  simp [Dev.outRec]
end Sys2Proof.Machine
end

