-- ==== Sys2Proof/WellFormed.lean ====
section
/-! DEFINITION. Well-formed commands: operands that the row's own words describe. Every command has a meaning on any
operands; an ill-formed one is not the event that its row names. -/
namespace Sys2Proof

/-- The writes of one cycle come from different kinds of master: fabric accesses are made one at a time (R133). -/
def distinctMasters : List (Master × BitVec 32) → Bool
  | [] => true
  | x :: t =>
    let kind : Master → Nat | .mgt _ => 1 | .i3c => 2 | .core => 3 | .jtag => 4
    t.all (fun y => kind y.1 != kind x.1) && distinctMasters t

/-- The address is that of a status register: its bits [7:0] are SEQ (R550). -/
def isStatus (a : Nat) : Bool :=
  match Machine.siteOf a with
  | some t => (match Machine.specAt (Machine.regsOf t.blk) t.off with | some r => a % 4 = 0 && r.1.seq | none => false)
  | none => false

/-- The address lies in the window of a block with a mailbox (R540). -/
def hasMailbox (a : Nat) : Bool :=
  match Machine.siteOf a with
  | some t => t.blk.mb.isSome
  | none => false

/-- A lane of R262 and the error counts of its sixteen probes (R277). -/
def laneWindowOk (w : LaneWindow) : Bool := w.lane < 44 && w.errs.length = 16

/-- A well-formed command. -/
def Instr.wf : Instr → Bool
  | .registerWrite _ ws => !ws.isEmpty && distinctMasters ws
  | .statusWriteBack _ addr _ => isStatus addr.toNat
  | .epochQuery _ r => r.sub = 0
  | .epochSeal _ r => r.sub = 1
  | .epochWaitDurable _ r => 2 ≤ r.sub.toNat
  | .regionQuery _ r => r.sub = 0
  | .regionFlush _ r => 1 ≤ r.sub.toNat
  | .broadcastMwr _ r => r.addr.toNat / 2 ^ 37 = 0xFFF
  | .forwardPacket _ _ slots => !slots.isEmpty
  | .flitReceive _ lanes => lanes.length = 9
  | .calWindowEnd _ ws => ws.all laneWindowOk
  | .patternWindowEnd _ ws => ws.all laneWindowOk
  | .trainGroupDone _ ws => ws.all (fun w => w.lane < 44 && w.werrs.length = 128)
  | .supplyUndervolt rail => rail.val < 10
  | .govInterval _ _ quads => quads.length = 4
  | .mgmtAccess dr => dr.extractLsb' 57 7 = (0 : BitVec 7)
  | .dawnStepEnd k _ => k.val != 0
  | .mbxTransferStart _ blk v => hasMailbox blk.toNat && !v.getLsbD 17 && v.extractLsb' 0 16 != (0 : BitVec 16)
  | .mbxRelease _ blk => hasMailbox blk.toNat
  | .mbxCommit _ blk => hasMailbox blk.toNat
  | .mbxDataAccess _ blk _ => hasMailbox blk.toNat
  | .mbxClaimTimeout blk => hasMailbox blk.toNat
  | .xlateGo | .xlateDone | .rd _ _ | .wr _ _ _ | .wrm _ _ _ _ | .atom _ _ _ | .tag _ _ | .outcome _ _ | .mrd _ _
  | .mwr _ _ | .mirWr _ _ _ | .mirXchg _ _ _ | .mirWrResponse _ _ | .mirXchgResponse _ _ | .mirXchgTimer
  | .mirTimeout _ | .nodeAssign _ _ _ | .hello _ _ | .helloTimer | .helloLost _ | .syncDelayReq _ _ _ _ _ _
  | .syncDelayRsp _ _ _ _ _ | .syncTimer | .alert _ _ | .dupFilterExpire | .holdDiscard _ | .mgtHoldDiscard _
  | .outcomeSrcRelease _ | .nakReceive _ _ | .nakResend _ | .replayTimeout _ | .shadowMove _ _
  | .shadowRotate _ | .spareReq _ _ | .laneReturn _ _ _ | .idleEnter _ | .creditAdv _ _ _ _ _ | .laneTest _ _
  | .lanePass _ _ | .retrainReq _ | .laneFailDetect _ _ | .spareCompareFail _ | .trainFrameReceive _ _ _
  | .trainQuietDone _ | .trainLockTimeout _ | .trainTimeout _ | .downRetry _ | .recoveryFail _ | .laneRetryTimer _
  | .linkIdleEnter _ | .linkResume _ | .fpRetrain _ | .fpFullTrain _ | .fpLaneRetry _ | .heldTrainCmd _
  | .routeSwitch | .clearLearned | .routeEntryWrite _ | .portAccept _ | .lineSlot _ | .pageHoldExpire _ _
  | .bankTimingExpire _ _ | .lineDecode _ _ | .mergeRetire _ _ | .takeOut _ | .rejoin _ | .drainComplete _
  | .timingWrite _ _ _ | .tsvPointChange _ | .tsvPointReady _ | .refreshDue _ | .refmuComplete _ | .refCfgWrite _ _
  | .qmeSlot _ | .carderPageInterval _ | .healCopyDelivered _ | .healTimeout _ | .tierForce _ | .tierClear _
  | .dieSupplyLost _ _ | .injArm | .candPop | .fuseBurn | .fuseBurnDone _ _ | .laneRepairGo _ | .walkRestart _
  | .calCompareDone _ _ _ | .calRetrain _ | .calFullTrain _ | .outRetrain _ | .calOvrGo _ | .destageStart
  | .destageDurable _ | .seedAdmit | .sealPoint | .cowStallTimeout | .epochCommitDone | .fullerSeal | .flushRegion
  | .flushAll | .fullerFold | .pwrfailAssert | .drainWindowEnd | .hatboxRecordDurable _ | .flushEnergySample _
  | .closingDone | .pwrfailDeassert | .safeStateExit | .thaltFlushStart | .holdupSample _ | .holdupAuditDone _ _
  | .restoreStart | .bulkRestoreUnit _ | .faultinDone _ _ | .unsavedPop | .tshutCut _ _ | .pair _ | .eject _
  | .keyExport | .keyImport | .nvmeCompletion _ _ _ | .nvmeCmdTimeout _ _ | .hbLinkDown _ _ | .hbLinkTrainTimeout _
  | .wearCheck _ _ _ _ _ | .cleanerStart _ | .duskEnter | .wakeEvent _ | .wakeTimerExpire | .midnightWake _
  | .rungReqNoon | .rungReqNight | .rungReqMidnight | .nightEnter | .nightReqTimeout | .thermalLevelTick _
  | .tsvPointReq | .sensorSample _ _ | .sensorRestore _ | .watchdogExpire | .wdtKick _ | .coreRestart
  | .bootRomTimeout | .firmwareHandover | .i3cRegRead _ | .i3cRegWrite _ | .entdaa _ | .setdasa _ | .rstdaa
  | .enec _ | .disec _ | .getpid | .getbcr | .getdcr | .getstatus | .getmxds | .rstact _ | .ibiRetry | .fwupBegin _
  | .fwupVerify _ | .fwupActivate _ | .fwupConfirm _ | .fwupAbort _ | .fwupDataWrite _ _ | .lcTransition _
  | .faultEvent _ _ | .faultIntegrity _ | .integrityRecover _ | .captureHandle _ _ | .faultForce _
  | .forcedEventEnd _ | .faultEscalate _ | .alertTimer | .errnRelease | .bistInterconnect _ | .bistAnalog _ _ _ _
  | .bistArray _ | .bistAbort | .icPassTimer _ | .bistCondCheck _ | .bistStepDone _ | .extest | .idcode
  | .samplePreload | .extestPulse | .extestTrain | .clamp | .highz | .dawnHold | .dawnRelease | .stackSel _
  | .wrapSel _ _ _ | .scanEnter _ | .bypass | .otpRead _ _ | .otpProg _ _ _ | .otpSeal _ _ _ _ | .otpReburn _ _ _ _
  | .otpRedirect _ _ | .otpWeakPop | .battStageData _ _ | .battStageAddr _ _ | .battRelease _ | .battStageTimeout
  | .battValidate _ | .battApply _ | .battApplyStore _ | .battStoreDone _ | .battQuiesceDone | .powerGood _
  | .resetAssert | .pllLockTimeout | .zeroFillDone | .serveNondurable | .perfSnap _ | .perfSnapAll | .perfClear _
  | .perfOvfClr _ _ | .evselWrite _ _ _ | .regCrossingTimeout _ _ _ | .dbgLineRead | .traceReset | .flitTransmit _
  | .hbLinkUp _ _ _ _ _ | .powerUp | .supplyOvervolt _ | .controllerFatalStatus _ | .pcieErrorMessage _ _
  | .interconnectPassEnd _ => true

end Sys2Proof
end

