-- ==== Sys2Proof/Safety.lean ====
section
/-! DEFINITION. What claims call a safe state and a safe step. -/
namespace Sys2Proof.Machine

/-- Every sparse table of the device is in canonical form: equal contents are equal data. -/
def Dev.canonical (s : Dev) : Bool :=
  s.regs.wf resetWord && s.wide.wf (fun _ => 0) && s.mbx.wf (fun _ => Mbx.reset) && s.fps.wf (fun _ => Fp.reset) &&
  s.routes.wf (fun _ => 0) && s.outcomes.wf (fun _ => OutRec.none) && s.crown.wf (fun _ => 0) &&
  s.pcs.wf (fun _ => Pc.reset) && s.qmes.wf (fun _ => Qme.reset) && s.hbs.wf (fun _ => Hb.reset) &&
  s.trace.wf (fun _ => 0)

/-- Every waiting command is well formed. -/
def State.queueWf (s : State) : Prop := ∀ c ∈ s.pending, c.wf = true

/-- A step is safe when it answers a next state: the block never stops. -/
def safeStep (s : State) : Prop := ∃ t, step s = .next t

/-! ### What claims say of requests and answers -/

/-- A request that the device takes for itself: the device has a node ID that the request names, the request's tag is neither
fenced nor pending, its source needs no new outcome entry, and a route leads back to the source. -/
def Dev.takes (s : Dev) (r : Req) : Prop :=
  s.node ≠ 0 ∧ s.node ≠ 0xFFF ∧ Req.node r = s.node ∧ s.recordOf r.src r.tag = .none ∧ s.claimOutcome r.src = s ∧
    ∃ o h, s.lookup none r.src.toNat 15 vcRsp = .out o h

/-- The packet of an answer, with the hops that its route allows it (R113, R119). -/
def Dev.answerPacket (s : Dev) (r : Req) (a : Rsp) (h : Nat) : Packet :=
  ⟨vcRsp, withHops (rspSlot (if a.data.isSome then opcRspData else opcRsp) r.cls 15 r.tag r.src (BitVec.ofNat 12 s.node)
    a.status a.tv a.rsn a.rval) h :: (match a.data with | some u => dataSlots u | none => []), none⟩

/-- An answer to a request of `s` waits, in `t`, in the queue of the port that routes to the request's source. -/
def Dev.answered (s t : Dev) (r : Req) (a : Rsp) : Prop :=
  ∃ o h, s.lookup none r.src.toNat 15 vcRsp = .out o h ∧ s.answerPacket r a h ∈ (t.fp o).txq

/-- What the device stores stands: the lines of the Crown, what waits in the pseudo-channels, the sequencers' bookkeeping, the
cartridges, the core-die fuses, OTP and the image. -/
def Dev.sameStore (s t : Dev) : Prop :=
  t.crown = s.crown ∧ t.pcs = s.pcs ∧ t.qmes = s.qmes ∧ t.fuller = s.fuller ∧ t.hbs = s.hbs ∧ t.otp = s.otp ∧ t.batt = s.batt ∧
    t.pf = s.pf ∧ t.ecc = s.ecc

/-- A fault source holds an event for the collector. -/
def Dev.holds (s : Dev) (src : Nat) : Prop := s.coll.signals.any (fun g => g.src = src) = true

/-- Nothing stands in the way of a data request to a line: no reason for RETRY_LATER, no fault-in to wait for, no mirror, no
room wanting in the write queue, no seed of its unit, and no tracking of the line (R139, R140, R289, R350). -/
def Dev.plainLine (s : Dev) (l : Nat) : Prop :=
  s.reasons (some l) = [] ∧ s.unrestored (unitOf l) = false ∧ s.mirrorRegion l = none ∧ s.tracked l = false ∧
    unitOf l ∉ s.fuller.seeds ∧ (s.pc (s.place l).pc).wqUsed + s.pendingTags (s.place l).pc < 64

/-- A partial write of a line can join the merge buffer as it stands (R202). -/
def Dev.joins (s : Dev) (l : Nat) : Bool := s.mergeRoom (s.place l).pc (ownEntry .merge l s.order 0)

/-- The restore write of a line waits at L2 (R197, R346). -/
def Dev.restoreQueued (s : Dev) (l : Nat) (c : Content) : Prop :=
  ∃ e ∈ (s.pc (s.place l).pc).l2 ++ (s.pc (s.place l).pc).feed, e.op = .restoreWrite ∧ e.line = l ∧ e.data = c

end Sys2Proof.Machine
end

