-- ==== Sys2Proof/Certificates/Slice0/Obligations.lean ====
section
/-! DEFINITION. The statements for the provers. Each docstring names the rules of the spec that its clauses rest on, and
what of it is the model's own choice. -/
open Sys2Proof Sys2Proof.Machine

/-- The model's step rule (its own choice, assumption log 1): the command at the front of the queue runs with the
queue's rest; on an empty queue the device's time passes, without power or clocks nothing but it, and the queue stays
empty. Where its clauses rest on a choice of the model and not on the spec's words, that is said in notes/assumptions:
entry 1. -/
def Obligations.StepTakesFront : Prop :=
  (∀ (s : State) (c : Instr) (rest : List Instr),
    step { s with pending := c :: rest } = exec c { s with pending := rest }) ∧
  ∀ s : State, s.pending = [] → ∃ t, step s = .next t ∧ t.pending = [] ∧
    (s.unclocked = true → (s.now + 5) % 1000 ≠ 0 → t = { s with now := s.now + 5 })

/-- After reset: no command waits, every table lists nothing but what differs from its reset contents, Dawn is at its
first step with no step done, no supply switch is closed, no port is ACTIVE, no pseudo-channel serves, no image is in
force, and IDCODE reads its value. Where its clauses rest on a choice of the model and not on the spec's words, that
is said in notes/assumptions: entries 2, 3, 4. -/
def Obligations.ResetState : Prop :=
  State.reset.pending = [] ∧ State.reset.canonical = true ∧ State.reset.dawnPhase = dawnRunning ∧
    (∀ k : Fin 11, State.reset.dawnDone k = false) ∧ State.reset.power.crownOn = false ∧ State.reset.power.serdesOn = false ∧
    (∀ n : Fin 6, State.reset.fpState n ≠ fpActive) ∧ (∀ p : Fin 128, State.reset.pcState p = pcInit) ∧
    State.reset.batt.active = none ∧ State.reset.reg 0 = 0x1001674D ∧ State.reset.rd base.owner ⟨0, 0, 32⟩ = 0

/-- Every command completes, and none touches the queue; so a queue of well-formed commands stays one. Where its
clauses rest on a choice of the model and not on the spec's words, that is said in notes/assumptions: entry 168. -/
def Obligations.EveryCommandAnswers : Prop :=
  (∀ (c : Instr) (s : State), ∃ t, exec c s = .next t ∧ t.pending = s.pending) ∧
  ∀ s t : State, s.queueWf → step s = .next t → t.queueWf

/-- The Crown keeps its canonical form in every step: keys strictly ascending, and no line listed that holds what an
unlisted line reads as. Where its clauses rest on a choice of the model and not on the spec's words, that is said in
notes/assumptions: entry 4. -/
def Obligations.CrownCanonical : Prop :=
  ∀ s t : State, s.crown.wf (fun _ => 0) = true → step s = .next t → t.crown.wf (fun _ => 0) = true

/-- No bit of the OTP array ever returns to 0, whatever step is taken. Where its clauses rest on a choice of the model
and not on the spec's words, that is said in notes/assumptions: entry 10. -/
def Obligations.OtpNeverErased : Prop :=
  ∀ s t : State, step s = .next t → ∀ a, s.otpArray a &&& ~~~ t.otpArray a = 0

/-- R29: in each interleave mode, with and without the bank hash, a line index decodes to fields within their ranges,
and every combination of fields is reached by exactly one line index. -/
def Obligations.AddressMap : Prop :=
  ∀ (mode : Fin 3) (hash : Bool),
    (∀ l, l < 2 ^ 31 → (placeOf mode hash l).pc < 128 ∧ (placeOf mode hash l).bank < 32 ∧ (placeOf mode hash l).row < 16384 ∧
      (placeOf mode hash l).col < 32) ∧
    ∀ p : Place, p.pc < 128 → p.bank < 32 → p.row < 16384 → p.col < 32 →
      ∃ l, (l < 2 ^ 31 ∧ placeOf mode hash l = p) ∧ ∀ k, k < 2 ^ 31 → placeOf mode hash k = p → k = l

/-- R34: a data request whose node field is 0x000 or 0xFFF is answered with ADDR_ERR by a device that has a node ID
and a route to the source, and nothing but that response joins a port's queue. -/
def Obligations.UnassignedNode : Prop :=
  ∀ (s : State) (port : Fin 6) (r : Req), Req.node r = 0 ∨ Req.node r = 0xFFF → s.node ≠ 0 →
    (∃ o h, s.lookup none r.src.toNat 15 vcRsp = .out o h) →
    ∀ (data : BitVec 512) (mask slot1 : BitVec 128), ∀ c ∈ [Instr.rd port r, .wr port r data, .wrm port r mask data,
        .atom port r slot1, .tag port r],
      ∃ t, exec c s = .next t ∧ s.answered t.toDev r (Rsp.code stAddrErr) ∧
        (∀ (n : Fin 6) (k : Packet), k ∈ (t.fp n).txq → k ∈ (s.fp n).txq ∨ k.vc = vcRsp) ∧ t.crown = s.crown ∧ t.pcs = s.pcs

/-- R26: after a zero-fill every line of the Crown has all user and metadata bits at zero and valid check symbols. -/
def Obligations.ZeroFilledLine : Prop :=
  ∀ s : State, s.pf.zeroFill = true → s.pfPhase = pfIdle → s.rungPhase = rpSteady → s.hbState 0 ≠ hbResync →
    s.hbState 1 ≠ hbResync → ∃ t, exec .zeroFillDone s = .next t ∧ ∀ k, contentOf (t.lineAt k) = 0 ∧
      t.lineAt k = encodeLine (contentOf (t.lineAt k))

/-- RD: a readable line's request joins the read queues of its pseudo-channel (R120, R189, R190). -/
def Obligations.ReadQueued : Prop :=
  ∀ (s : State) (port : Fin 6) (r : Req),
    let d := s.takeIn port ⟨vcReq, [reqSlot opcRd r], none⟩
    let l := Req.localAddr r / 64
    let p := (s.place l).pc
    d.takes r → d.dataError opcRd r = none → d.reasons (some l) = [] → d.unrestored (unitOf l) = false →
    ∃ t e, exec (.rd port r) s = .next t ∧ e ∈ (t.pc p).l0 ++ (t.pc p).l1 ++ (t.pc p).xbarQ ∧ e.op = .read ∧ e.line = l ∧
      e.req = r ∧ e.port = some port.val ∧ t.crown = s.crown

/-- WR of a line that nothing holds back: it is in the write queue with its data, it is answered OK, its outcome is
recorded, and no line of the Crown has changed yet (R121, R148, R191). A WRM that enables all 64 bytes runs as a WR
(R123). Where its clauses rest on a choice of the model and not on the spec's words, that is said in
notes/assumptions: entries 22, 26. -/
def Obligations.WriteAccepted : Prop :=
  ∀ (s : State) (port : Fin 6) (r : Req) (data : BitVec 512),
    let l := Req.localAddr r / 64
    let p := (s.place l).pc
    (let d := s.takeIn port ⟨vcReq, reqSlot opcWr r :: dataSlots data, none⟩
     d.takes r → d.dataError opcWr r = none → d.plainLine l →
      ∃ t e tv, exec (.wr port r data) s = .next t ∧ e ∈ (t.pc p).wq ∧ e.op = .fullWrite ∧ e.line = l ∧ e.req = r ∧
        e.data = data.zeroExtend 520 ∧ d.answered t.toDev r (Rsp.tags tv 0) ∧ t.crown = s.crown ∧
        ((d.outEntry r.src).isSome = true → t.recordOf r.src r.tag = .done opcWr 0 (BitVec.ofNat 31 l))) ∧
    ∀ mask : BitVec 128, wrmEnabled r mask = BitVec.allOnes 64 →
      let d := s.takeIn port ⟨vcReq, wrmSlots r mask data, none⟩
      d.takes r → d.dataError opcWrm r = none → d.plainLine l →
        ∃ t e tv, exec (.wrm port r mask data) s = .next t ∧ e ∈ (t.pc p).wq ∧ e.op = .fullWrite ∧ e.line = l ∧ e.req = r ∧
          e.data = data.zeroExtend 520 ∧ d.answered t.toDev r (Rsp.tags tv 0) ∧ t.crown = s.crown

/-- Partial writes with room in the merge buffer join their line's entry; an ATOM has its read issued at once where L1
has room; a TAG operation takes a place among the reads (R122, R124, R126, R202, R203). Where its clauses rest on a
choice of the model and not on the spec's words, that is said in notes/assumptions: entries 24, 64. -/
def Obligations.PartialWriteJoins : Prop :=
  ∀ (s : State) (port : Fin 6) (r : Req),
    let l := Req.localAddr r / 64
    let p := (s.place l).pc
    (∀ mask data, wrmEnabled r mask ≠ BitVec.allOnes 64 →
      let d := s.takeIn port ⟨vcReq, wrmSlots r mask data, none⟩
      d.takes r → d.dataError opcWrm r = none → d.plainLine l → d.joins l = true →
        ∃ t m e, exec (.wrm port r mask data) s = .next t ∧ m ∈ (t.pc p).mergeBuf ∧ m.line = l ∧ e ∈ m.members ∧ e.req = r ∧
          e.aux = mask ∧ e.data = data.zeroExtend 520 ∧ t.crown = s.crown) ∧
    (∀ slot1, let d := s.takeIn port ⟨vcReq, [reqSlot opcAtom r, slot1], none⟩
      d.takes r → d.dataError opcAtom r = none → d.plainLine l → d.joins l = true → (d.pc p).l1.length < 32 →
        (∀ m ∈ (d.pc p).mergeBuf, m.line = l → m.readIssued = false) →
        ∃ t, exec (.atom port r slot1) s = .next t ∧ (∃ m e, m ∈ (t.pc p).mergeBuf ∧ m.line = l ∧ e ∈ m.members ∧ e.req = r ∧
          e.aux = slot1) ∧ (∃ e, e ∈ (t.pc p).l1 ∧ e.op = .merge ∧ e.line = l) ∧ t.crown = s.crown) ∧
    (let d := s.takeIn port ⟨vcReq, [reqSlot opcTag r], none⟩
     d.takes r → d.dataError opcTag r = none → d.plainLine l →
        ∃ t e, exec (.tag port r) s = .next t ∧ e ∈ (t.pc p).l0 ++ (t.pc p).l1 ++ (t.pc p).xbarQ ∧ e.op = .tagOp ∧ e.line = l ∧
          e.req = r ∧ t.crown = s.crown)

/-- OUTCOME answers the queried tag's record and fences a finished one (R151, R152). Where its clauses rest on a
choice of the model and not on the spec's words, that is said in notes/assumptions: entry 19. -/
def Obligations.OutcomeQuery : Prop :=
  ∀ (s : State) (port : Fin 6) (r : Req),
    let d := s.takeIn port ⟨vcReq, [reqSlot opcOutcome r], none⟩
    let q : BitVec 12 := r.arg.extractLsb' 0 12
    d.takes r → r.sub = 0 → r.cls.toNat < 2 →
    ∃ t, exec (.outcome port r) s = .next t ∧ d.answered t.toDev r (Rsp.val (d.outcomeVal r)) ∧
      (d.flag base.txn TXN.CFG.OUTCOME_EN = true → ∀ o st l, d.recordOf r.src q = .done o st l →
        t.recordOf r.src q = .fenced (some (o, st, l))) ∧
      (∀ o l k, d.recordOf r.src q = .pending o l k → t.recordOf r.src q = .pending o l k) ∧ t.crown = s.crown

/-- EPOCH commands on a device with an EPOCH region (R127-R129, R304, R314): QUERY answers O and d at once; SEAL sets
the seal point 200 ns ahead; WAIT_DURABLE of a durable epoch answers at once, and of another waits. Where its clauses
rest on a choice of the model and not on the spec's words, that is said in notes/assumptions: entry 49. -/
def Obligations.EpochCommands : Prop :=
  ∀ (s : State) (port : Fin 6) (r : Req), r.cls.toNat < 2 →
    (let r0 : Req := { r with sub := 0 }
     let d := s.takeIn port ⟨vcReq, [reqSlot opcEpoch r0], none⟩
     d.takes r0 → d.reasons none = [] → d.hasEpoch = true →
      ∃ t, exec (.epochQuery port r) s = .next t ∧ d.answered t.toDev r0 (Rsp.val (d.epochO.toNat + d.epochD.toNat * 2 ^ 32)) ∧
        t.fuller = s.fuller ∧ t.crown = s.crown) ∧
    (let r1 : Req := { r with sub := 1 }
     let d := s.takeIn port ⟨vcReq, [reqSlot opcEpoch r1], none⟩
     d.takes r1 → d.reasons none = [] → d.hasEpoch = true → d.deferredCount < 256 → d.fuller.xbarCmds = [] →
      d.epState = epOpen → d.nonDurable = false → d.fuller.sealAt = none → d.labelTaken = false →
      ∃ t, exec (.epochSeal port r) s = .next t ∧ t.fuller.sealAt = some (s.now + 200) ∧
        t.fuller.sealers = [.fabric port r1 opcEpoch s.order] ∧ t.crown = s.crown) ∧
    (let r2 : Req := { r with sub := 2 }
     let d := s.takeIn port ⟨vcReq, [reqSlot opcEpoch r2], none⟩
     d.takes r2 → d.reasons none = [] → d.hasEpoch = true → r.arg ≠ 0 → atOrAfter d.epochO r.arg = true →
      d.deferredCount < 256 → d.fuller.xbarCmds = [] →
      (d.epochD ≠ 0 → atOrAfter d.epochD r.arg = true → ∃ t, exec (.epochWaitDurable port r2) s = .next t ∧
        d.answered t.toDev r2 (Rsp.val d.queryVal) ∧ t.fuller = s.fuller) ∧
      (d.epochD = 0 → ∃ t, exec (.epochWaitDurable port r2) s = .next t ∧
        t.fuller.waits = s.fuller.waits ++ [(r.arg, .fabric port r2 opcEpoch s.order)]))

/-- REGION commands of a valid region (R130): QUERY answers its state at once; FLUSH answers at once where nothing is
dirty, and otherwise waits for the region's dirty and seed units. Where its clauses rest on a choice of the model and
not on the spec's words, that is said in notes/assumptions: entries 49, 61. -/
def Obligations.RegionCommands : Prop :=
  ∀ (s : State) (port : Fin 6) (r : Req), r.cls.toNat < 2 →
    let n := bitsOf r.arg.toNat 0 6
    (let r0 : Req := { r with sub := 0 }
     let d := s.takeIn port ⟨vcReq, [reqSlot opcRegion r0], none⟩
     d.takes r0 → d.rgnValid n = true → d.reasons none = [] → d.quiescedScope (12 + n) = false →
      ∃ t, exec (.regionQuery port r) s = .next t ∧ d.answered t.toDev r0 (Rsp.val (d.regionVal n)) ∧ t.fuller = s.fuller) ∧
    (let r1 : Req := { r with sub := 1 }
     let d := s.takeIn port ⟨vcReq, [reqSlot opcRegion r1], none⟩
     d.takes r1 → d.rgnValid n = true → d.reasons none = [] → d.quiescedScope (12 + n) = false → d.deferredCount < 256 →
      d.fuller.xbarCmds = [] → d.nonDurable = false →
      (d.flushUnits (some n) ++ d.flushSeeds (some n) = [] → ∃ t, exec (.regionFlush port r1) s = .next t ∧
        d.answered t.toDev r1 (Rsp.val (d.regionVal n)) ∧ t.fuller = s.fuller) ∧
      (d.classOf n ≠ clsVolatile → d.flushUnits (some n) ++ d.flushSeeds (some n) ≠ [] →
        ∃ t, exec (.regionFlush port r1) s = .next t ∧ t.fuller.flushes = s.fuller.flushes ++
          [⟨.fabric port r1 opcRegion s.order, some n, s.flushUnits (some n) ++ s.flushSeeds (some n), s.order + 1⟩]))

/-- Fabric management (R131-R133, R164): MRD of IDCODE answers its value, MWR of SCRATCH writes it and answers OK, and
a broadcast MWR that is no duplicate writes it too. Where its clauses rest on a choice of the model and not on the
spec's words, that is said in notes/assumptions: entries 37, 151, 152, 159. -/
def Obligations.FabricManagement : Prop :=
  ∀ (s : State) (port : Fin 6) (r : Req), s.mgmt.late = [] → (∀ m, s.ownerBars m base.chipId = false) → s.shut = false →
    s.unclocked = false → Req.node r ≠ 0xFFF →
    (Req.localAddr r = 0 → let d := s.takeIn port ⟨vcMgt, [reqSlot opcMrd r], none⟩
      d.takes r → mgtRefused r = none →
      ∃ t, exec (.mrd port r) s = .next t ∧ d.answered t.toDev r ⟨stOk, 0, 0, BitVec.zeroExtend 64 (s.reg 0), none⟩ ∧
        t.crown = s.crown) ∧
    (Req.localAddr r = 8 → let d := s.takeIn port ⟨vcMgt, [reqSlot opcMwr r], none⟩
      d.takes r → mgtRefused r = none → (s.item itMgtPorts 0).testBit port = true →
      ∃ t, exec (.mwr port r) s = .next t ∧ d.answered t.toDev r ⟨stOk, 0, 0, 0, none⟩ ∧ t.reg 8 = r.arg ∧ t.crown = s.crown) ∧
    ∀ b : Req, Req.node b = 0xFFF → Req.localAddr b = 8 → b.sub = 0 → b.cls.toNat < 2 → (s.item itMgtPorts 0).testBit port = true →
      (b.src, b.tag) ∉ s.dups →
      ∃ t, exec (.broadcastMwr port b) s = .next t ∧ t.reg 8 = b.arg ∧ (b.src, b.tag) ∈ t.dups ∧ t.crown = s.crown

/-- Packets that have been held too long go without an answer, with their event and their source (R149, R171): the
oldest in the receive buffer, else a request that waits at the crossbar, else a packet that waits to be forwarded; the
outcome entry of a source is released with its records (R154). Where its clauses rest on a choice of the model and not
on the spec's words, that is said in notes/assumptions: entries 186, 192. -/
def Obligations.HeldPackets : Prop :=
  (∀ (s : State) (port : Fin 6),
    (∀ k, (s.fp port).rxq.find? (fun k => k.vc = vcReq) = some k → ∃ t, exec (.holdDiscard port) s = .next t ∧
      (t.fp port).rxq = (s.fp port).rxq.erase k ∧ t.rd base.txn TXN.STATUS.EVENT = 3 ∧
      t.rd base.txn TXN.STATUS.NODE = (reqOfSlot (k.slots.headD 0)).src.toNat ∧ t.holds srcHoldDiscard ∧ t.crown = s.crown) ∧
    (∀ k, (s.fp port).rxq.find? (fun k => k.vc = vcMgt) = some k → ∃ t, exec (.mgtHoldDiscard port) s = .next t ∧
      (t.fp port).rxq = (s.fp port).rxq.erase k ∧ t.rd base.txn TXN.STATUS.EVENT = 3 ∧ t.holds srcHoldDiscard ∧
      t.crown = s.crown) ∧
    ((s.fp port).rxq.find? (fun k => k.vc = vcReq) = none →
      (∀ w ws, s.xbarWaiting port = w :: ws → ∃ t, exec (.holdDiscard port) s = .next t ∧ (t.fp port).rxq = (s.fp port).rxq ∧
        t.fuller.xbarCmds = s.fuller.xbarCmds.erase (slotOpc w, port.val, reqOfSlot w) ∧ t.rd base.txn TXN.STATUS.EVENT = 3 ∧
        t.rd base.txn TXN.STATUS.NODE = (reqOfSlot w).src.toNat ∧ t.holds srcHoldDiscard ∧ t.crown = s.crown) ∧
      (s.xbarWaiting port = [] → ∀ n k, s.txWaiting port vcReq = some (n, k) → ∃ t, exec (.holdDiscard port) s = .next t ∧
        (t.fp n).txq = (s.fp n).txq.erase k ∧ t.rd base.txn TXN.STATUS.EVENT = 3 ∧ t.holds srcHoldDiscard ∧
        t.crown = s.crown ∧ t.pcs = s.pcs)) ∧
    ((s.fp port).rxq.find? (fun k => k.vc = vcMgt) = none → ∀ n k, s.txWaiting port vcMgt = some (n, k) →
      ∃ t, exec (.mgtHoldDiscard port) s = .next t ∧ (t.fp n).txq = (s.fp n).txq.erase k ∧
        t.rd base.txn TXN.STATUS.EVENT = 3 ∧ t.holds srcHoldDiscard ∧ t.crown = s.crown ∧ t.pcs = s.pcs)) ∧
  ∀ (s : State) (e : Fin 64), ∃ t, exec (.outcomeSrcRelease e) s = .next t ∧ t.rd base.txn (TXN.OUTCOME_SRC.VALID.at 4 e) = 0 ∧
    (∀ tag, tag < 4096 → t.outRec e tag = .none) ∧ t.crown = s.crown ∧ t.pcs = s.pcs

/-- Mirror packets received (R134-R136): a MIR_WR that nothing holds back becomes an L2 operation of its line and is
answered OK; a MIR_XCHG that names the same MIRRORED span is answered OK. Answers of the mirror node (R41, R135, R318,
R321, R322): OK lets the request that the MIR_WR carries be answered; another final status, and a time-out, break the
mirror; the exchange of the regions is asked for while they do not match, and its answer matches them, or ends the
resync of a broken mirror with no chunk marked. Where its clauses rest on a choice of the model and not on the spec's
words, that is said in notes/assumptions: entry 69. -/
def Obligations.Mirror : Prop :=
  (∀ (s : State) (port : Fin 6) (r : Req),
    (∀ data : BitVec 512, let d := s.takeIn port ⟨vcPer, reqSlot opcMirWr r :: dataSlots data, none⟩
      let l := Req.localAddr r / 64
      let p := (s.place l).pc
      d.takes r → r.sub.toNat ≤ 1 → r.cls ≠ 3 → r.addr.toNat % 64 = 0 → d.inShadow l = false → d.reasons (some l) = [] →
      d.unrestored (unitOf l) = false → d.bpHolds l = false → unitOf l ∉ d.fuller.seeds →
      (d.pc p).wqUsed + d.pendingTags p < 64 →
      ∃ t e, exec (.mirWr port r data) s = .next t ∧ e ∈ (t.pc p).l2 ++ (t.pc p).feed ∧ e.op = .mirrorWrite ∧ e.line = l ∧
        e.data = mkContent data (if r.tu then r.tv else 0) (r.sub.getLsbD 0) 0 false ∧ d.answered t.toDev r (Rsp.code stOk) ∧
        t.crown = s.crown) ∧
    (∀ (slot1 : BitVec 128) (n : Nat), let d := s.takeIn port ⟨vcPer, [reqSlot opcMirXchg r, slot1], none⟩
      let span := BitVec.ofNat 32 (slot1.toNat % 2 ^ 32)
      d.takes r → r.sub = 0 → r.cls ≠ 3 → d.reasons none = [] → n < 64 → d.rgnValid n = true → d.classOf n = clsMirrored →
      d.rd base.rgn (RGN.SPAN.BASE.at 8 n) = RGN.SPAN.BASE.get span → d.rd base.rgn (RGN.SPAN.LAST.at 8 n) = RGN.SPAN.LAST.get span →
      d.rd base.rgn (RGN.ATTR.MIRROR_NODE.at 8 n) = r.src.toNat →
      ∃ t, exec (.mirXchg port r slot1) s = .next t ∧ d.answered t.toDev r (Rsp.code stOk) ∧ t.crown = s.crown ∧ t.regs = s.regs)) ∧
  (∀ (s : State) (port : Fin 6) (hdr : BitVec 128), s.node ≠ 0 → bitsOf hdr.toNat 24 12 = s.node →
    let d := s.takeIn port ⟨vcRsp, [hdr], none⟩
    let tag : BitVec 12 := hdr.extractLsb' 12 12
    let st := bitsOf hdr.toNat 48 4
    let r := bitsOf hdr.toNat 12 6
    (∀ m : MirOut, s.fuller.mirOut.find? (fun x => x.tag = tag) = some m → m.region < 64 →
      (st = stOk → m.later = [] → m.resync = false →
        ∃ t, exec (.mirWrResponse port hdr) s = .next t ∧ t.fuller.mirOut = s.fuller.mirOut.filter (fun x => x.tag != tag) ∧
          t.mirState m.region = s.mirState m.region ∧ t.crown = s.crown ∧ t.pcs = s.pcs ∧
          (∀ e, m.carried = [e] → e.port.isSome = true → e.answered = false →
            (∃ o h, d.lookup none e.req.src.toNat 15 vcRsp = .out o h) → d.answered t.toDev e.req e.kept)) ∧
      (st ≠ stOk → st ≠ stRetry → ∀ c ∈ [Instr.mirWrResponse port hdr, .mirTimeout tag],
        ∃ t, exec c s = .next t ∧ t.mirState m.region = mirBroken ∧ t.resyncing m.region = false ∧ t.holds srcMirrorBreak ∧
          t.fuller.mirOut = s.fuller.mirOut.filter (fun x => x.region != m.region) ∧ t.crown = s.crown ∧ t.pcs = s.pcs)) ∧
    (s.fuller.mirOut.find? (fun x => x.tag = tag) = none →
      exec (.mirWrResponse port hdr) s = .next { s with toDev := d } ∧ exec (.mirTimeout tag) s = .next s) ∧
    (s.wantsXchg r = true →
      (st = stOk → s.mirState r = mirUnmatched → ∃ t, exec (.mirXchgResponse port hdr) s = .next t ∧ t.mirState r = mirSync ∧
        t.fuller.matched.contains r = true ∧ t.crown = s.crown ∧ t.pcs = s.pcs) ∧
      (st = stOk → s.mirState r = mirBroken → s.fuller.chunks.get (fun _ => []) r = [] →
        ∃ t, exec (.mirXchgResponse port hdr) s = .next t ∧ t.mirState r = mirSync ∧ t.resyncing r = false ∧ t.crown = s.crown ∧
          t.pcs = s.pcs) ∧
      (st ≠ stOk → exec (.mirXchgResponse port hdr) s = .next { s with toDev := d }))) ∧
  ∀ s : State, ∃ t, exec .mirXchgTimer s = .next t ∧ t.fuller = s.fuller ∧ t.crown = s.crown ∧ t.pcs = s.pcs ∧
    ∀ r : Fin 64, s.wantsXchg r = true → s.rgnServes r = true →
      ∀ o h, s.lookup none (s.rd base.rgn (RGN.ATTR.MIRROR_NODE.at 8 r)) 15 vcPer = .out o h →
        ∃ pk ∈ (t.fp o).txq, pk.vc = vcPer ∧ pk.slots.length = 2 ∧ slotOpc (pk.slots.headD 0) = opcMirXchg ∧
          pk.slots.getLastD 0 = (0 : BitVec 64) ++ s.reg (base.rgn + 8 * r.val + 4) ++ s.reg (base.rgn + 8 * r.val)

/-- Flits (R87-R91, R96-R99): a flit that no decode finds good is counted and a NAK asked for; a good DATA flit with the
expected number and one packet of one slot advances that number and delivers the packet; a NAK and a timeout start the
replay of what is held, and the fifth sending of a flit without progress a recovery; a NULL that is due, a NAK, a link
control message and a NULL for want of anything else are sent in this order of precedence. Where its clauses rest on a
choice of the model and not on the spec's words, that is said in notes/assumptions: entries 41, 172, 179. -/
def Obligations.FlitLayer : Prop :=
  ∀ (s : State) (port : Fin 6), s.fpState port = fpActive → (s.fp port).squelched = false →
    let f := s.fp port
    let b := base.fp port
    let ack : BitVec 12 := BitVec.ofNat 12 (s.rd b FP.LINK_SEQ.RX_EXPECTED + 4095)
    let flit (payload : BitVec 512) (fk : Nat) (seq : BitVec 12) : BitVec 640 :=
      mkFlit payload 0 fk seq ack f.crTurn (f.freed.get (fun _ => 0) f.crTurn.toNat)
    (∀ lanes : List (BitVec 320), f.peerIdle = false →
      let r : RxFlit := ⟨lanes, (scrFlit f.rxScr (lanesOf (s.rd b FP.STATUS.RX_WIDTH))).1⟩
      (flitDecode (s.readFlit port r none) = none →
        (∀ sub, s.standIn port = some sub → flitDecode (s.readFlit port r (some sub)) = none) → f.nakPending = false →
        ∃ t, exec (.flitReceive port lanes) s = .next t ∧ (t.fp port).nakPending = true ∧ (t.fp port).nakToSend = true ∧
          (t.fp port).rxq = f.rxq ∧ (t.fp port).damaged = f.damaged ++ [r] ∧
          t.rd b FP.LINK_SEQ.RX_EXPECTED = s.rd b FP.LINK_SEQ.RX_EXPECTED ∧ s.sameStore t.toDev) ∧
      (∀ (v : Nat) (syms : List Nat) (vc : Nat), flitDecode (s.readFlit port r none) = some (v, syms) →
        v / 2 ^ 528 % 2 ^ 4 = fkData → v / 2 ^ 532 % 2 ^ 12 = s.rd b FP.LINK_SEQ.RX_EXPECTED →
        v / 2 ^ 512 % 2 ^ 16 = 12 + vc → vc < 4 → f.rxUsed.get (fun _ => 0) vc < rxBuffer vc →
        f.partialRx.get (fun _ => []) vc = [] → packetSlots (BitVec.ofNat 128 v) = some 1 →
        ∃ t, exec (.flitReceive port lanes) s = .next t ∧
          (t.fp port).rxq = f.rxq ++ [⟨BitVec.ofNat 2 vc, [BitVec.ofNat 128 v], none⟩] ∧
          t.rd b FP.LINK_SEQ.RX_EXPECTED = (s.rd b FP.LINK_SEQ.RX_EXPECTED + 1) % 4096 ∧
          (t.fp port).nakPending = false ∧ s.sameStore t.toDev)) ∧
    (∀ a : BitVec 12, f.oldestSent < 5 →
      (f.replay.any (fun e => e.1 = a) = false → ∃ t, exec (.nakReceive port a) s = .next t ∧
        (t.fp port).replay = f.replay ∧ (f.replay ≠ [] → (t.fp port).resend = f.replay.length) ∧
        t.rd b FP.LINK_SEQ.TX_ACKED = a.toNat ∧ s.sameStore t.toDev) ∧
      (f.replay.any (fun e => e.1 = a) = true → ∃ t, exec (.nakReceive port a) s = .next t ∧
        (t.fp port).replay = (f.replay.dropWhile (fun e => e.1 != a)).drop 1 ∧ (t.fp port).resend = (t.fp port).replay.length ∧
        t.rd b FP.LINK_SEQ.TX_ACKED = a.toNat ∧ s.sameStore t.toDev)) ∧
    (f.nakPending = true → exec (.nakResend port) s =
      .next { s with toDev := s.upFp port (fun p => { p with nakToSend := true, sinceNak := 0 }) }) ∧
    (f.replay ≠ [] → (f.oldestSent < 5 → ∃ t, exec (.replayTimeout port) s = .next t ∧ (t.fp port).resend = f.replay.length ∧
        (t.fp port).replay = f.replay ∧ t.holds (srcFpReplayTo port) ∧ s.sameStore t.toDev) ∧
      (5 ≤ f.oldestSent → ∃ t, exec (.replayTimeout port) s = .next t ∧ t.fpState port = fpQuiet ∧ (t.fp port).recovering = true ∧
        (t.fp port).replay = f.replay ++ (if f.advReceived = true ∧ f.replay.length < 512 then
          [(f.txSeq, BitVec.ofNat 4 fkLctl, 0, 8)] else []) ∧
        t.holds (srcFpReplayTo port) ∧ t.holds (srcFpRecovery port) ∧ s.sameStore t.toDev)) ∧
    (f.txIdle = false → f.resumeLeft = 0 →
      (1023 ≤ f.sinceNull → ∃ t, exec (.flitTransmit port) s = .next t ∧ (t.fp port).wire = flit 0 fkNull 0 ∧
        (t.fp port).sinceNull = 0 ∧ (t.fp port).replay = f.replay ∧ (t.fp port).nakToSend = f.nakToSend ∧ s.sameStore t.toDev) ∧
      (f.sinceNull < 1023 → f.nakToSend = true → ∃ t, exec (.flitTransmit port) s = .next t ∧ (t.fp port).nakToSend = false ∧
        (t.fp port).replay = f.replay ∧ (t.fp port).wire = flit 0 fkNak 0 ∧ s.sameStore t.toDev) ∧
      (f.sinceNull < 1023 → f.nakToSend = false → f.resend = 0 → f.replay.length < 512 → ∀ m rest, f.lctl = m :: rest →
        ∃ t, exec (.flitTransmit port) s = .next t ∧ (t.fp port).lctl = rest ∧ (t.fp port).txSeq = f.txSeq + 1 ∧
          (t.fp port).replay = f.replay ++ [(f.txSeq, BitVec.ofNat 4 fkLctl, 0, m.zeroExtend 512)] ∧
          (t.fp port).wire = flit (m.zeroExtend 512) fkLctl f.txSeq ∧ s.sameStore t.toDev) ∧
      (f.nakToSend = false → f.resend = 0 → f.lctl = [] → f.txq = [] → f.sending = [] →
        ∃ t, exec (.flitTransmit port) s = .next t ∧ (t.fp port).replay = f.replay ∧ (t.fp port).txSeq = f.txSeq ∧
          (t.fp port).wire = flit 0 fkNull 0 ∧ s.sameStore t.toDev))

/-- Training of a port (R75, R78-R80, R93): a good frame counts towards the lock of the lane that it names, which is
learned to come in on its input, and a bad one starts the count of its input's lanes again; eight frames in a row with one
choice end CONFIG with the port ACTIVE; the states follow on each other and their timeouts fail a training; a third
failure in a row takes the port DOWN; a third failed recovery loses it. Where its clauses rest on a choice of the
model and not on the spec's words, that is said in notes/assumptions: entries 16, 39, 40, 43, 174. -/
def Obligations.PortTraining : Prop :=
  ∀ (s : State) (port : Fin 6),
    let f := s.fp port
    (∀ (pin : Fin 9) (body : BitVec 160) (lag : Nat), s.fpDisabled port = false → f.squelched = false →
      let frame := body ^^^ ((Config.prbs13.zeroExtend 160) <<< 32)
      let lane := body.toNat / 2 ^ 32 % 16
      (body.toNat % 2 ^ 32 = 0xF0D42B3C → body.toNat / 2 ^ 144 = crc16 (body.toNat % 2 ^ 144) 144 → lane < 9 →
        (s.fpState port = fpLock → ∃ t, exec (.trainFrameReceive port pin ⟨frame, lag⟩) s = .next t ∧
          (t.fp port).frames.get (fun _ => 0) lane = f.frames.get (fun _ => 0) lane + 1 ∧
          (t.fp port).pins.get id lane = pin.val ∧
          (t.fp port).partnerState.toNat = body.toNat / 2 ^ 36 % 16 ∧ s.sameStore t.toDev) ∧
        (s.fpState port = fpConfig → body.toNat / 2 ^ 36 % 16 = 5 →
          f.config.toNat = body.toNat / 2 ^ 52 % 4 + 4 * (body.toNat / 2 ^ 56 % 2 ^ 36) → 7 ≤ f.configSame →
          ∃ t, exec (.trainFrameReceive port pin ⟨frame, lag⟩) s = .next t ∧ t.fpState port = fpActive ∧
            (t.fp port).recovering = false ∧ (t.fp port).trainFails = 0 ∧ (t.fp port).replay = f.replay ∧ s.sameStore t.toDev)) ∧
      (frame.toNat % 2 ^ 32 ≠ 0x0F2BD4C3 → body.toNat % 2 ^ 32 ≠ 0xF0D42B3C →
        ∃ t, exec (.trainFrameReceive port pin ⟨frame, lag⟩) s = .next t ∧ t.regs = s.regs ∧ s.sameStore t.toDev ∧
          ∀ k : Fin 9, (t.fp port).frames.get (fun _ => 0) k =
            if f.pins.get id k = pin.val then 0 else f.frames.get (fun _ => 0) k)) ∧
    (s.fpState port = fpQuiet → s.fpDisabled port = false → f.squelched = false →
      exec (.trainQuietDone port) s = .next { s with toDev := s.put (base.fp port) FP.STATUS.STATE fpLock }) ∧
    (s.fpState port = fpLock → ∃ t, exec (.trainLockTimeout port) s = .next t ∧ (∀ pl, pl < 9 → (t.fp port).laneFailed.getLsbD pl =
        (f.laneFailed.getLsbD pl || decide (f.frames.get (fun _ => 0) pl < 16))) ∧ s.sameStore t.toDev) ∧
    (fpLock ≤ s.fpState port → s.fpState port ≤ fpConfig → f.recovering = false →
      (f.trainFails < 2 → ∃ t, exec (.trainTimeout port) s = .next t ∧ t.fpState port = fpQuiet ∧
        (t.fp port).trainFails = f.trainFails + 1 ∧ s.sameStore t.toDev) ∧
      (2 ≤ f.trainFails → ∃ t, exec (.trainTimeout port) s = .next t ∧ t.fpState port = fpDown ∧ s.sameStore t.toDev)) ∧
    (s.fpState port = fpDown → s.fpDisabled port = false → f.squelched = false → ∃ t, exec (.downRetry port) s = .next t ∧
      t.fpState port = fpQuiet ∧ (t.fp port).replay = [] ∧ (t.fp port).rxq = [] ∧ s.sameStore t.toDev) ∧
    (f.recovering = true →
      (f.recFails < 2 → ∃ t, exec (.recoveryFail port) s = .next t ∧ t.fpState port = fpQuiet ∧ (t.fp port).recovering = true ∧
        (t.fp port).recFails = f.recFails + 1 ∧ (t.fp port).replay = f.replay ∧ s.sameStore t.toDev) ∧
      (2 ≤ f.recFails → ∃ t, exec (.recoveryFail port) s = .next t ∧ t.fpState port = fpQuiet ∧ (t.fp port).recovering = false ∧
        (t.fp port).lost = true ∧ (t.fp port).replay = [] ∧ t.holds (srcFpDown port) ∧ s.sameStore t.toDev))

/-- Training commands (R80, R100, R111): with the port ACTIVE, RETRAIN and RETRAIN_REQ start a recovery that keeps what
is held for replay, and FULL_TRAIN, at once or as a held command, starts a full training; while training is under way a
command is held. Where its clauses rest on a choice of the model and not on the spec's words, that is said in
notes/assumptions: entry 172. -/
def Obligations.TrainingCommands : Prop :=
  ∀ (s : State) (port : Fin 6),
    let f := s.fp port
    (s.fpState port = fpActive →
      (∃ t, exec (.retrainReq port) s = .next t ∧ t.fpState port = fpQuiet ∧ (t.fp port).recovering = true ∧ (t.fp port).replay = f.replay ∧
        t.holds (srcFpRecovery port) ∧ s.sameStore t.toDev) ∧
      (s.fpDisabled port = false →
        (∃ t, exec (.fpRetrain port) s = .next t ∧ t.fpState port = fpQuiet ∧ (t.fp port).recovering = true ∧
          (t.fp port).replay = f.replay ++ (if f.advReceived = true ∧ f.replay.length < 512 then
            [(f.txSeq, BitVec.ofNat 4 fkLctl, 0, 8)] else []) ∧
          t.holds (srcFpRecovery port) ∧ t.flag (base.fp port) FP.CFG.RETRAIN = false ∧ s.sameStore t.toDev) ∧
        (∃ t, exec (.fpFullTrain port) s = .next t ∧ t.fpState port = fpQuiet ∧ (t.fp port).recovering = false ∧ (t.fp port).replay = [] ∧
          t.nbr port RPORT.NBR.HEARD = 0 ∧ t.flag (base.fp port) FP.CFG.FULL_TRAIN = false ∧ s.sameStore t.toDev) ∧
        (s.flag (base.fp port) FP.CFG.FULL_TRAIN = true → s.flag (base.fp port) FP.CFG.LANE_RETRY = false →
          ∃ t, exec (.heldTrainCmd port) s = .next t ∧ t.fpState port = fpQuiet ∧ (t.fp port).replay = [] ∧
            t.flag (base.fp port) FP.CFG.FULL_TRAIN = false ∧ t.flag (base.fp port) FP.CFG.RETRAIN = false ∧ s.sameStore t.toDev) ∧
        ∀ pl, pl < 9 → s.fpLane port pl = 2 →
          (∃ t, exec (.fpLaneRetry port) s = .next t ∧ BitVec.ofNat 128 (6 + pl * 2 ^ 8) ∈ (t.fp port).lctl ∧
            (pl, s.now) ∈ (t.fp port).testing ∧ t.flag (base.fp port) FP.CFG.LANE_RETRY = false ∧ s.sameStore t.toDev) ∧
          (f.attempts.get (fun _ => 0) pl < 16 → ∃ t, exec (.laneRetryTimer port) s = .next t ∧
            BitVec.ofNat 128 (6 + pl * 2 ^ 8) ∈ (t.fp port).lctl ∧ (pl, s.now) ∈ (t.fp port).testing ∧
            (t.fp port).attempts.get (fun _ => 0) pl = f.attempts.get (fun _ => 0) pl + 1 ∧ t.regs = s.regs ∧ s.sameStore t.toDev))) ∧
    (s.fpState port ≠ fpActive → s.fpState port ≠ fpDown → s.fpDisabled port = false →
      exec (.fpRetrain port) s = .next { s with toDev := s.put (base.fp port) FP.CFG.RETRAIN 1 } ∧
      exec (.fpFullTrain port) s = .next { s with toDev := s.put (base.fp port) FP.CFG.FULL_TRAIN 1 } ∧
      exec (.fpLaneRetry port) s = .next { s with toDev := s.put (base.fp port) FP.CFG.LANE_RETRY 1 })

/-- Lanes and link control (R77, R94, R100-R109): the spare follows the peer's shadow, is asked for by SPARE_REQ,
takes over a failed lane it already shadows and goes back with LANE_RETURN; a flit that is good only with the spare in
place completes the takeover; a failed lane for which no spare is left starts a recovery that retires it; a shadow moves
and a lane returns once their message has gone out; credits are taken from CREDIT_ADV; an idle port says so. Where its
clauses rest on a choice of the model and not on the spec's words, that is said in notes/assumptions: entries 42, 127,
180, 181, 183. -/
def Obligations.LaneSparing : Prop :=
  ∀ (s : State) (port : Fin 6) (ll : Fin 8) (pl : Fin 9),
    let f := s.fp port
    let b := base.fp port
    (s.rd b FP.STATUS.RX_SPARE = 1 →
      exec (.shadowMove port ll) s = .next { s with toDev := s.put b FP.STATUS.RX_SHADOW_LL ll } ∧
      (∃ t, exec (.spareCompareFail port) s = .next t ∧ t.rd b FP.STATUS.RX_SPARE = 3 ∧ t.rd b FP.STATUS.EVENT = 7 ∧
        t.holds (srcFpLane port) ∧ t.fps = s.fps ∧ s.sameStore t.toDev)) ∧
    (s.fpState port = fpActive → s.flag b FP.CFG.ROTATE_EN = true → s.rd b FP.STATUS.TX_SPARE = 1 → s.rd b FP.STATUS.TX_WIDTH = 0 →
      let k := (f.txShadow.toNat + 1) % 8
      exec (.shadowRotate port) s = .next { s with toDev := s.upFp port (fun p => { p with
        lctl := p.lctl ++ [BitVec.ofNat 128 (1 + k * 2 ^ 8)] }) }) ∧
    (s.fpState port = fpActive → f.squelched = false → f.txIdle = false → f.resumeLeft = 0 → f.sinceNull < 1023 →
      f.nakToSend = false → f.resend = 0 → f.replay.length < 512 →
      (∀ rest, f.lctl = BitVec.ofNat 128 (1 + ll * 2 ^ 8) :: rest → s.rd b FP.STATUS.TX_SPARE = 1 →
        ∃ t, exec (.flitTransmit port) s = .next t ∧ (t.fp port).txShadow.toNat = ll ∧ (t.fp port).lctl = rest ∧ s.sameStore t.toDev) ∧
      (∀ rest, f.lctl = BitVec.ofNat 128 (3 + ll * 2 ^ 8 + pl * 2 ^ 12) :: rest → s.rd b FP.STATUS.TX_SPARE = 2 →
        ∃ t, exec (.flitTransmit port) s = .next t ∧ t.rd b FP.STATUS.TX_SPARE = 1 ∧ t.mapOf port FP.TX_LANE_MAP.reg ll = pl ∧
          (t.fp port).lctl = rest ∧ s.sameStore t.toDev)) ∧
    (s.rd b FP.STATUS.TX_SPARE = 1 → ∃ t, exec (.spareReq port ll) s = .next t ∧ t.rd b FP.STATUS.TX_SPARE = 2 ∧
      t.mapOf port FP.TX_LANE_MAP.reg ll = f.txSpareLane ∧ (t.fp port).txShadow.toNat = ll ∧ s.sameStore t.toDev) ∧
    (s.rd b FP.STATUS.RX_SPARE = 2 → s.fpLane port pl = 2 → s.mapOf port FP.RX_LANE_MAP.reg ll < 9 →
      s.fpLane port (s.mapOf port FP.RX_LANE_MAP.reg ll) = 0 →
      ∃ t, exec (.laneReturn port ll pl) s = .next t ∧ t.rd b FP.STATUS.RX_SPARE = 1 ∧ t.mapOf port FP.RX_LANE_MAP.reg ll = pl ∧
        t.fpLane port pl = 0 ∧ t.fpLane port (s.mapOf port FP.RX_LANE_MAP.reg ll) = 1 ∧ t.rd b FP.STATUS.EVENT = 6 ∧
        s.sameStore t.toDev) ∧
    exec (.idleEnter port) s = .next { s with toDev := s.upFp port (fun p => { p with peerIdle := true }) } ∧
    exec (.linkResume port) s = .next { s with toDev := s.upFp port (fun p => { p with peerIdle := false }) } ∧
    exec (.laneTest port pl) s = .next { s with toDev := s.upFp port (fun p => { p with txTest := some (BitVec.ofNat 4 pl, s.now) }) } ∧
    (∀ req rsp mgt per : BitVec 10, ∃ t, exec (.creditAdv port req rsp mgt per) s = .next t ∧ (t.fp port).advReceived = true ∧
      t.rd b (creditFld FP.CREDIT_REQ.HELD 0) = req.toNat ∧ t.rd b (creditFld FP.CREDIT_REQ.HELD 1) = rsp.toNat ∧
      t.rd b (creditFld FP.CREDIT_REQ.HELD 2) = mgt.toNat ∧ t.rd b (creditFld FP.CREDIT_REQ.HELD 3) = per.toNat ∧
      s.sameStore t.toDev) ∧
    (s.rd b FP.STATUS.TX_SPARE = 2 → exec (.lanePass port pl) s = .next { s with toDev := s.upFp port (fun p => { p with
      lctl := p.lctl ++ [BitVec.ofNat 128 (3 + f.txShadow.toNat * 2 ^ 8 + pl * 2 ^ 12)], txTest := none }) }) ∧
    (s.fpState port = fpActive → f.replay = [] → f.txq = [] → f.lctl = [] → f.resend = 0 → f.nakToSend = false → f.sending = [] →
      f.txIdle = false → f.resumeLeft = 0 → ∃ t, exec (.linkIdleEnter port) s = .next t ∧ (t.fp port).txIdle = true ∧
        (t.fp port).lanes = [] ∧ (t.fp port).replay = [(f.txSeq, BitVec.ofNat 4 fkLctl, 0, 4)] ∧ s.sameStore t.toDev) ∧
    (s.fpState port = fpActive → f.squelched = false → f.peerIdle = false → f.damaged = [] →
      ∀ (lanes : List (BitVec 320)) (k sp v : Nat) (syms : List Nat),
        let r : RxFlit := ⟨lanes, (scrFlit f.rxScr (lanesOf (s.rd b FP.STATUS.RX_WIDTH))).1⟩
        flitDecode (s.readFlit port r none) = none → s.standIn port = some (k, sp) →
        flitDecode (s.readFlit port r (some (k, sp))) = some (v, syms) → v / 2 ^ 528 % 2 ^ 4 = fkNull →
        ∃ t, exec (.flitReceive port lanes) s = .next t ∧ t.rd b FP.STATUS.RX_SPARE = 2 ∧
          t.mapOf port FP.RX_LANE_MAP.reg k = sp ∧ (t.fp port).spareReq = none ∧ t.holds (srcFpLane port) ∧ s.sameStore t.toDev) ∧
    (s.fpState port = fpActive →
      (s.fpLane port pl = 1 → s.rd b FP.STATUS.RX_SPARE = 1 → ∃ t, exec (.laneFailDetect port pl) s = .next t ∧
        t.rd b FP.STATUS.RX_SPARE = 3 ∧ t.holds (srcFpLane port) ∧ t.fps = s.fps ∧ s.sameStore t.toDev) ∧
      (∀ k, s.fpLane port pl ≠ 1 → s.llOf port FP.RX_LANE_MAP.reg pl = some k →
        (s.rd b FP.STATUS.RX_SPARE = 1 → f.spareReq = none →
          (s.rd b FP.STATUS.RX_SHADOW_LL ≠ k → ∃ t, exec (.laneFailDetect port pl) s = .next t ∧ t.regs = s.regs ∧
            (t.fp port).spareReq = some (BitVec.ofNat 3 k) ∧ (t.fp port).lctl = f.lctl ++ [BitVec.ofNat 128 (2 + k * 2 ^ 8)] ∧
            s.sameStore t.toDev) ∧
          (∀ sp, s.rd b FP.STATUS.RX_SHADOW_LL = k → s.rxSpareLane port = some sp → f.damaged = [] →
            ∃ t, exec (.laneFailDetect port pl) s = .next t ∧
              t.rd b FP.STATUS.RX_SPARE = 2 ∧ t.mapOf port FP.RX_LANE_MAP.reg k = sp ∧ t.fpLane port pl = 2 ∧ t.fpLane port sp = 0 ∧
              t.holds (srcFpLane port) ∧ s.sameStore t.toDev)) ∧
        (s.rd b FP.STATUS.RX_SPARE ≠ 1 → ∃ t, exec (.laneFailDetect port pl) s = .next t ∧ t.fpState port = fpQuiet ∧
          (t.fp port).recovering = true ∧ (t.fp port).recFailed.getLsbD pl = true ∧ f.replay <+: (t.fp port).replay ∧
          t.holds (srcFpRecovery port) ∧ s.sameStore t.toDev)))

/-- Discovery (R157, R160-R162, R457): a NODE_ASSIGN that names the device and meets no condition of refusal gives it
its node ID; a HELLO is recorded with its port; every 100 ms each ACTIVE port sends one; the loss of HELLOs raises the
port's source. Alerts and the duplicate filter (R163, R181): an ALERT that is no duplicate goes on by each other
ACTIVE port that has heard its neighbour, with one hop less, and reaches the host ports in any case; the filter's
oldest entry expires. Time (R179, R180): a DELAY_REQ is answered on its port with the time stamp of its arrival, and a
SYNC takes the one of its leaving as its flit begins; an offset of at most 1 us is slewed and a larger one stepped, which
raises TIME_STEP; every 1 ms a DELAY_REQ leaves by the PRI port of the root's entry. Where its clauses rest on a
choice of the model and not on the spec's words, that is said in notes/assumptions: entries 15, 28, 29, 30, 44, 185. -/
def Obligations.FabricDiscovery : Prop :=
  (∀ (s : State) (port : Fin 6),
    (∀ (r : Req) (slot1 : BitVec 128), Req.node r = 0xFFF →
      let d := ((s.takeIn port ⟨vcMgt, [reqSlot opcNodeAssign r, slot1], none⟩).bcastPass port r).2
      (r.src, r.tag) ∉ s.dups → slot1.toNat % 2 ^ 64 = d.uid → d.assignRefused r = false →
      ∃ t, exec (.nodeAssign port r slot1) s = .next t ∧ t.node = r.arg.toNat % 4096 ∧ t.rd base.rnode NODE.STATUS.EVENT = 1 ∧
        (r.src, r.tag) ∈ t.dups ∧ s.sameStore t.toDev) ∧
    (∀ hdr : BitVec 128, ∃ t, exec (.hello port hdr) s = .next t ∧
      t.nbr port RPORT.NBR.NODE = hdr.toNat / 2 ^ 12 % 2 ^ 12 ∧ t.nbr port RPORT.NBR.PORT = hdr.toNat / 2 ^ 24 % 8 ∧
      t.nbr port RPORT.NBR.KIND = hdr.toNat / 2 ^ 27 % 4 ∧ t.nbr port RPORT.NBR.DIR = hdr.toNat / 2 ^ 29 % 4 ∧
      t.nbr port RPORT.NBR.HEARD = 1 ∧ t.rd (base.rport port) RPORT.NBR_GEN.GEN = hdr.toNat / 2 ^ 32 % 2 ^ 16 ∧
      t.wideOf (base.rport port) 1 = hdr.toNat / 2 ^ 64 % 2 ^ 64 ∧ s.sameStore t.toDev) ∧
    (s.fpState port = fpActive → ∃ t, exec .helloTimer s = .next t ∧ ⟨vcMgt, [s.helloSlot port], none⟩ ∈ (t.fp port).txq ∧
      s.sameStore t.toDev) ∧
    (∃ t, exec (.helloLost port) s = .next t ∧ t.coll.signals.any (fun g => g.src = srcHelloLost port) = true ∧
      t.regs = s.regs ∧ t.fps = s.fps ∧ t.crown = s.crown) ∧
    (s.nbr port RPORT.NBR.HEARD = 1 → ∃ t, exec (.portAccept port) s = .next t ∧
      (t.fp port).recorded = some (BitVec.ofNat 12 (s.nbr port RPORT.NBR.NODE), BitVec.ofNat 64 (s.wideOf (base.rport port) 1)) ∧
      s.sameStore t.toDev)) ∧
  (∀ (s : State) (port : Fin 6) (r : Req),
    (Req.node r = 0xFFF → (r.src, r.tag) ∉ s.dups →
      ∃ t, exec (.alert port r) s = .next t ∧ (r.src, r.tag) ∈ t.dups ∧ s.sameStore t.toDev ∧
        ∀ n : Fin 6, n ≠ port → s.fpState n = fpActive → s.nbr n RPORT.NBR.HEARD = 1 → ∃ k ∈ (t.fp n).txq, k.vc = vcMgt ∧
          (r.hops ≠ 0 → k.slots = [withHops (reqSlot opcAlert r) (r.hops.toNat - 1)]) ∧
          (r.hops = 0 → s.nbr n RPORT.NBR.KIND = 1 → k.slots = [reqSlot opcAlert r])) ∧
    exec .dupFilterExpire s = .next { s with toDev := { s.toDev with dups := s.dups.drop 1 } }) ∧
  (∀ (s : State) (port : Fin 6),
    (∀ (cls : BitVec 2) (hops : BitVec 4) (tag src : BitVec 12) (t1 : BitVec 64), ∃ t, exec (.syncDelayReq port cls hops tag src t1) s = .next t ∧
      ⟨vcMgt, [s.syncSlot 2 tag, BitVec.ofNat 64 s.stamp ++ t1, 0], none⟩ ∈ (t.fp port).txq ∧ t.skew = s.skew ∧ t.slew = s.slew ∧
      t.crown = s.crown) ∧
    (∀ w a b : BitVec 128, slotOpc w = opcSync →
      ((reqOfSlot w).sub = 1 → s.stampSync [w, a, b] = [w, BitVec.ofNat 128 s.stamp, b]) ∧
      ((reqOfSlot w).sub ≠ 1 → s.stampSync [w, a, b] = [w, a, BitVec.ofNat 128 s.stamp])) ∧
    (s.syncs = true → ∀ (tag : BitVec 12) (t1 t2 t3 : BitVec 64),
      let o := syncOffset t1 t2 t3 (BitVec.ofNat 64 s.stamp)
      ∃ t, exec (.syncDelayRsp port tag t1 t2 t3) s = .next t ∧
        t.rd base.sync SYNC.STATUS.OFFSET = offsetField o ∧ t.now = s.now ∧ t.crown = s.crown ∧
        (o.natAbs ≤ 1000 → t.slew = o ∧ t.skew = s.skew) ∧
        (1000 < o.natAbs → t.slew = 0 ∧ t.skew = s.skew + o ∧ t.holds (srcTimeStep))) ∧
    (s.syncs = true →
      let e := (s.route (s.rd base.tbl TBL.GEN.ACTIVE_BANK) (s.rd base.sync SYNC.CFG.ROOT_NODE)).toNat
      e / 64 % 16 ≠ 0 → e % 8 = port.val → s.fpState port = fpActive →
      ∃ t, exec .syncTimer s = .next t ∧ ⟨vcMgt, [s.syncSlot 1 0, 0, 0], none⟩ ∈ (t.fp port).txq ∧
        t.skew = s.skew ∧ t.slew = s.slew ∧ t.crown = s.crown))

/-- The routing table (R156, R166-R168, R175): a packet for another node leaves by the port that the routing procedure
finds, with the hops that the entry allows; SWITCH makes the other bank active under NEW_GEN; an entry is written as
not learned; CLEAR_LEARNED clears LIMIT of every learned entry of a table in canonical form and of no other. The
translation assist (R46, R47): GO samples the address and clears VALID; the end shows where the address lies. Where
its clauses rest on a choice of the model and not on the spec's words, that is said in notes/assumptions: entries 50, 57. -/
def Obligations.RoutingAndTranslation : Prop :=
  (∀ s : State,
    (∀ (port : Option (Fin 6)) (vc : BitVec 2) (w : BitVec 128) (rest : List (BitVec 128)) (o : Fin 6) (h : Nat),
      let inp := port.map Fin.val
      let dst := if vc = vcRsp then w.toNat / 2 ^ 24 % 4096 else w.toNat / 2 ^ 73 % 4096
      s.node ≠ 0 → dst ≠ s.node → (vc = vcRsp ∨ (slotOpc w ≠ opcHello ∧ slotOpc w ≠ opcSync ∧ dst ≠ 0xFFF)) →
      (vc = vcReq → dst ≠ 0) → s.lookup inp dst (w.toNat / 2 ^ 7 % 16) vc = .out o h →
      ∃ t, exec (.forwardPacket port vc (w :: rest)) s = .next t ∧ ⟨vc, withHops w h :: rest, inp⟩ ∈ (t.fp o).txq ∧
        t.crown = s.crown ∧ t.pcs = s.pcs) ∧
    (∃ t, exec .routeSwitch s = .next t ∧ t.rd base.tbl TBL.GEN.ACTIVE_BANK = 1 - s.rd base.tbl TBL.GEN.ACTIVE_BANK ∧
      t.rd base.tbl TBL.GEN.GEN = s.rd base.tbl TBL.SWITCH.NEW_GEN ∧ t.rd base.rnode NODE.STATUS.EVENT = 2 ∧ t.routes = s.routes ∧
      s.sameStore t.toDev) ∧
    (∀ v : BitVec 32, ∃ t, exec (.routeEntryWrite v) s = .next t ∧
      t.route (s.rd base.tbl TBL.SEL.BANK) (s.rd base.tbl TBL.SEL.INDEX) = BitVec.ofNat 16 (v.toNat % 1024) ∧
      (∀ b i, i < 4096 → (b, i) ≠ (s.rd base.tbl TBL.SEL.BANK, s.rd base.tbl TBL.SEL.INDEX) → t.route b i = s.route b i) ∧
      (s.flag base.tbl TBL.SEL.AUTOINC = true → t.rd base.tbl TBL.SEL.INDEX = (s.rd base.tbl TBL.SEL.INDEX + 1) % 4096) ∧
      (s.flag base.tbl TBL.SEL.AUTOINC = false → t.regs = s.regs) ∧ t.crown = s.crown) ∧
    (s.routes.wf (fun _ => 0) = true → ∃ t, exec .clearLearned s = .next t ∧ t.regs = s.regs ∧ t.crown = s.crown ∧
      ∀ b i, i < 4096 → t.route b i = if (s.route b i).getLsbD 10 then s.route b i &&& 0xFC3F else s.route b i)) ∧
  (∀ s : State,
    (∃ t, exec .xlateGo s = .next t ∧ t.xlate = some (BitVec.ofNat 37
        (s.rd base.amap AMAP.XLATE_ADDR_HI.ADDR_HI * 2 ^ 32 + s.rd base.amap AMAP.XLATE_ADDR_LO.ADDR_LO)) ∧
      t.rd base.amap AMAP.XLATE_RES0.VALID = 0 ∧ t.crown = s.crown ∧ ∀ a, a ≠ base.amap + AMAP.XLATE_RES0.VALID.off → t.reg a = s.reg a) ∧
    (∀ a : BitVec 37, s.xlate = some a → s.mapReload = false →
      let l := a.toNat / 64
      let p := s.place l
      ∃ t, exec .xlateDone s = .next t ∧ t.xlate = none ∧ t.crown = s.crown ∧
        t.rd base.amap AMAP.XLATE_RES0.VALID = 1 ∧ t.rd base.amap AMAP.XLATE_RES0.PC = p.pc ∧
        t.rd base.amap AMAP.XLATE_RES0.TIER = p.pc / 16 % 2 ∧ t.rd base.amap AMAP.XLATE_RES0.QUAD = p.pc / 32 ∧
        t.rd base.amap AMAP.XLATE_RES0.CH = p.pc / 2 ∧ t.rd base.amap AMAP.XLATE_RES0.BG = p.bank / 8 ∧
        t.rd base.amap AMAP.XLATE_RES0.BK = p.bank % 8 ∧ t.rd base.amap AMAP.XLATE_RES0.COL = p.col ∧
        t.rd base.amap AMAP.XLATE_RES1.ROW = p.row ∧ t.rd base.amap AMAP.XLATE_RES1.SHADOW = (s.inShadow l).toNat ∧
        t.rd base.amap AMAP.XLATE_RES1.UNMAPPED = (s.regionOf l).isNone.toNat ∧
        t.rd base.amap AMAP.XLATE_RES1.CLASS = s.lineClass l ∧
        ∀ x, x ≠ base.amap + AMAP.XLATE_RES0.reg.off → x ≠ base.amap + AMAP.XLATE_RES1.reg.off → t.reg x = s.reg x))

/-- Line slots (R182, R190, R194-R200, R212, R230, R533): the controller's clock and slot number advance by one slot, with
the timing values and the share written since the last boundary in force; after the row commands of the slot's ticks the
oldest L0 read whose data can take the slot does, and its raw line awaits its decode; where none can, the choice among L1
and L2 goes, and a write it makes reaches the Crown. While the TSV point changes the clock runs on and no slot passes.
Where its clauses rest on a choice of the model and not on the spec's words, that is said in notes/assumptions: entries
23, 62, 63, 188, 189. -/
def Obligations.LineSlots : Prop :=
  ∀ (s : State) (pc : Fin 128), s.rung = rungNoon → s.selfRefresh = false →
    let p := pc.val
    let len := s.slotLen p
    let at_ := (s.pc p).clock + len
    let v := ((((s.slotBoundary p).carderFeed p).fillQueues p).drainCheck p).rowTicks p (s.pc p).clock len Dev.rowTick
    ((s.pc p).stopped = true → ∃ t, exec (.lineSlot pc) s = .next t ∧ (t.pc p).clock = at_ ∧ (t.pc p).slotNo = (s.pc p).slotNo ∧
      (t.pc p).inFlight = (s.pc p).inFlight ∧ (t.pc p).timingDue = [] ∧ t.crown = s.crown) ∧
    ((s.pc p).stopped = false → ∃ t, exec (.lineSlot pc) s = .next t ∧ (t.pc p).clock = at_ ∧
      (t.pc p).slotNo = (s.pc p).slotNo + 1 ∧ (t.pc p).timingDue = [] ∧ (t.pc p).share = s.pcr p PC.ARB.L0_SHARE ∧
      (∀ e, v.pickL0 p at_ = some e → e.op = .read →
        ⟨e, v.lineAt (v.keyOf e.line), none⟩ ∈ (t.pc p).inFlight ∧ t.crown = s.crown) ∧
      (∀ k e w1 w2, v.pickL0 p at_ = none → v.calDue p at_ = false → v.pickL12 p at_ = some (k, e, w1, w2) →
        e.op.takesRead = false → v.hitOf e.line = none → v.injMask 0 e.line = none →
        t.lineAt (v.keyOf e.line) = encodeLine (v.storedBy e) ∧ (∀ x, x ≠ v.keyOf e.line → t.lineAt x = s.lineAt x) ∧
        (t.pc p).w1 = w1 ∧ (t.pc p).w2 = w2) ∧
      (v.pickL0 p at_ = none → v.calDue p at_ = false → v.pickL12 p at_ = none → t.crown = s.crown ∧
        (t.pc p).inFlight = (s.pc p).inFlight))

/-- Banks, merge entries and timing registers (R184-R186, R203, R212): an idle row is precharged, a bank whose time
has passed is IDLE, a merge entry that is due is read, and a timing field takes, at the next slot boundary, the value
written or its minimum. Where its clauses rest on a choice of the model and not on the spec's words, that is said in
notes/assumptions: entries 76, 189. -/
def Obligations.BankTiming : Prop :=
  ∀ (s : State) (pc : Fin 128),
    let p := pc.val
    (∀ bank : Fin 32, ((s.pc p).bank bank).openRow.isSome = true → s.rowWanted p bank = false →
      ∃ t, exec (.pageHoldExpire pc bank) s = .next t ∧ ((t.pc p).bank bank).st = .precharging ∧ t.crown = s.crown ∧
        ((t.pc p).bank bank).closedAt = (t.pc p).clock ∧ (s.pc p).clock < (t.pc p).clock ∧
        t.freeFrom p ((t.pc p).bank bank) = (t.pc p).clock + s.tim p PC.TIMING0.TRP ∧
        s.holdUntil p ((s.pc p).bank bank) ≤ (t.pc p).clock ∧
        (∀ q, q ≠ p → t.pc q = s.pc q) ∧ (t.pc p).queued = (s.pc p).queued) ∧
    (∀ bank : Fin 32, ((s.pc p).bank bank).st = .precharging ∨ ((s.pc p).bank bank).st = .refreshing →
      ∃ t, exec (.bankTimingExpire pc bank) s = .next t ∧ ((t.pc p).bank bank).st = .idle ∧
        s.freeFrom p ((s.pc p).bank bank) ≤ (t.pc p).clock ∧ t.crown = s.crown ∧ t.regs = s.regs ∧
        (∀ q, q ≠ p → t.pc q = s.pc q) ∧ (t.pc p).queued = (s.pc p).queued) ∧
    (∀ (line : BitVec 31) (m : MergeEntry) (e : Entry), (s.pc p).mergeBuf.find? (fun m => m.line = line.toNat && !m.readIssued) = some m →
      32 ≤ m.age → m.members.head? = some e → (s.pc p).l1.length < 32 →
      ∃ t, exec (.mergeRetire pc line) s = .next t ∧
        (t.pc p).l1 = (s.pc p).l1 ++ [{ e with op := .merge, hold := .none, waited := 0 }] ∧ (t.pc p).wq = (s.pc p).wq ∧
        t.crown = s.crown ∧ t.regs = s.regs ∧ ∀ q, q ≠ p → t.pc q = s.pc q) ∧
    ∀ (reg : Fin 4) (v : BitVec 32), (s.pc p).timingDue.wf (fun _ => 0) = true →
      ∃ t, exec (.timingWrite pc reg v) s = .next t ∧ t.regs = s.regs ∧ t.crown = s.crown ∧
        (t.pc p).queued = (s.pc p).queued ∧ (∀ q, q ≠ p → t.pc q = s.pc q) ∧
        (∀ i, i < 4 → (t.toDev.slotBoundary p).rd (base.pc p) ⟨0x10 + 4 * reg, 8 * i, 8⟩ =
          max (timingMin reg i) (v.toNat / 2 ^ (8 * i) % 256))

/-- Service states and the Carder's walk (R210, R211, R247): TAKE_OUT, the end of draining and REJOIN take a
pseudo-channel from state to state, and a REJOIN out of place is ignored with event 4; a restart of the walk waits for
the next page; each interval owes one page. -/
def Obligations.ServiceStates : Prop :=
  ∀ (s : State) (pc : Fin 128),
    let p := pc.val
    let b := base.pc p
    (s.pcServes p = true → ∃ t, exec (.takeOut pc) s = .next t ∧ t.pcState p = pcDraining ∧ t.flag b PC.SVC.INIT_DONE = false ∧
      t.flag b PC.SVC.TAKE_OUT = false ∧ (t.pc p).queued = (s.pc p).queued ∧ (∀ q, q ≠ p → t.pc q = s.pc q) ∧ t.crown = s.crown) ∧
    (s.pcState p = pcDraining → (s.pc p).empty = true → ∃ t, exec (.drainComplete pc) s = .next t ∧ t.pcState p = pcOut ∧
      (t.pc p).outSince = some s.now ∧ (∀ q, q ≠ p → t.pc q = s.pc q) ∧ t.crown = s.crown) ∧
    (s.pcState p = pcOut → s.flag b PC.SVC.INIT_DONE = true → ∃ t, exec (.rejoin pc) s = .next t ∧ t.pcState p = pcRejoining ∧
      t.flag b PC.SVC.REJOIN = false ∧ (∀ q, q ≠ p → t.pc q = s.pc q) ∧ t.crown = s.crown) ∧
    (s.pcState p ≠ pcOut ∨ s.flag b PC.SVC.INIT_DONE = false → ∃ t, exec (.rejoin pc) s = .next t ∧ t.pcState p = s.pcState p ∧
      t.rd b PC.STATUS.EVENT = 4 ∧ s.sameStore t.toDev) ∧
    (∃ t, exec (.walkRestart pc) s = .next t ∧ (t.pc p).restartWalk = true ∧ t.flag b PC.ECC_CTL.WALK_RESTART = false ∧
      (t.pc p).queued = (s.pc p).queued ∧ (∀ q, q ≠ p → t.pc q = s.pc q) ∧ t.crown = s.crown) ∧
    ((s.pc p).restartWalk = false → s.carderRuns p = true →
      let owed := s.upPc p (fun c => { c with pagesDue := c.pagesDue + 1 })
      exec (.carderPageInterval pc) s = .next { s with toDev :=
        (if 0 < (s.pc p).pagesDue then owed.put b PC.CARDER.LAG 1 else owed).carderFeed p })

/-- Refresh (R213, R215-R217, R222-R225): a due refresh adds one to the debt of the next bank in due order, and at the cap
the owed refresh goes first; the end of a make-up leaves none in flight; REF_CFG takes what is written within its
limits, TRFCPB at the next slot boundary, and FORCE_HOT enters the Hot band. Where its clauses rest on a choice of the
model and not on the spec's words, that is said in notes/assumptions: entries 74, 75. -/
def Obligations.RefreshDebt : Prop :=
  ∀ (s : State) (pc : Fin 128),
    let p := pc.val
    let b := base.pc p
    (s.selfRefresh = false → s.rung = rungNoon → (s.pc p).forced = [] →
      let k := dueBank (s.pc p).duePos
      (s.debt p k < 8 → ∃ t, exec (.refreshDue pc) s = .next t ∧ t.debt p k = s.debt p k + 1 ∧
        (t.pc p).duePos = ((s.pc p).duePos + 1) % 32 ∧ (∀ j, j < 32 → j ≠ k → t.debt p j = s.debt p j) ∧ t.crown = s.crown ∧
        (t.pc p).queued = (s.pc p).queued) ∧
      (8 ≤ s.debt p k → ∃ t, exec (.refreshDue pc) s = .next t ∧ t.debt p k = s.debt p k ∧ ((t.pc p).bank k).st = .refreshing ∧
        (t.pc p).duePos = ((s.pc p).duePos + 1) % 32 ∧ t.crown = s.crown ∧ (t.pc p).queued = (s.pc p).queued)) ∧
    (∀ k, (s.pc p).muInFlight = some k → (s.pc p).forced = [] → k < 32 → ((s.pc p).bank k).st = .refreshing →
      ∃ t, exec (.refmuComplete pc) s = .next t ∧ (t.pc p).muInFlight = none ∧ ((t.pc p).bank k).st = .idle ∧
        t.flag b PC.REF_STATUS.FORCED = false ∧ t.crown = s.crown ∧ (t.pc p).queued = (s.pc p).queued) ∧
    ∀ v : BitVec 32, ∃ t, exec (.refCfgWrite pc v) s = .next t ∧
      (t.pc p).timingDue.get (fun _ => 0) 4 = max 0x50 (min 0x58 (v.toNat % 256)) ∧
      ((s.pc p).timingDue.wf (fun _ => 0) = true → (∀ x ∈ (s.pc p).timingDue, x.1 ≤ 4) →
        (t.toDev.slotBoundary p).rd b PC.REF_CFG.TRFCPB = max 0x50 (min 0x58 (v.toNat % 256))) ∧
      t.rd b PC.REF_CFG.TRFCPB = s.rd b PC.REF_CFG.TRFCPB ∧ t.rd b PC.REF_CFG.URGENT = v.toNat / 2 ^ 16 % 16 ∧
      t.rd b PC.REF_CFG.FORCE_HOT = v.toNat / 2 ^ 20 % 2 ∧ t.crown = s.crown ∧ (t.pc p).queued = (s.pc p).queued ∧
      (v.getLsbD 20 = false → t.rd b PC.REF_STATUS.BAND = s.rd b PC.REF_STATUS.BAND) ∧
      (v.getLsbD 20 = true → s.rd b PC.REF_CFG.FORCE_HOT = 0 → t.rd b PC.REF_STATUS.BAND = 1)

/-- Lines that have been read (R20, R23, R236, R241-R245): a good line answers its read, an uncorrectable one is read
again first; a heal ends with the Hatbox copy written back, or with the line poisoned. Where its clauses rest on a
choice of the model and not on the spec's words, that is said in notes/assumptions: entries 6, 71, 83. -/
def Obligations.LinesDecoded : Prop :=
  ∀ s : State,
    (∀ (pc : Fin 128) (noise : BitVec 640) (f : InFlight) (rest : List InFlight),
      let p := pc.val
      let raw := f.raw ^^^ noise
      let die := s.erasedDie (tierOf p)
      (s.pc p).inFlight = f :: rest → f.entry.op = .read → f.entry.retryOf = none → f.entry.answered = false → f.entry.port.isSome = true →
      s.injMask 1 f.entry.line = none → s.injMask 2 f.entry.line = none →
      (∀ d, s.decodeLine p die raw = some d → s.corrected p die d = false → s.corrections p die d = [] →
        poisonOf (contentOf d.line) = false →
        modifying f.entry.opc f.entry.req.sub = false → (∃ o h, s.lookup none f.entry.req.src.toNat 15 vcRsp = .out o h) →
        ∃ t, exec (.lineDecode pc noise) s = .next t ∧ (t.pc p).inFlight = rest ∧ t.crown = s.crown ∧
          s.answered t.toDev f.entry.req ⟨stOk, tagsOf (contentOf d.line), 0,
            BitVec.ofNat 64 (2 * die.isSome.toNat), some (userOf (contentOf d.line))⟩) ∧
      (s.decodeLine p die raw = none → ∃ t, exec (.lineDecode pc noise) s = .next t ∧ (t.pc p).inFlight = rest ∧ t.crown = s.crown ∧
        (t.pc p).retryQ = (s.pc p).retryQ ++ [{ f.entry with retryOf := some (raw.extractLsb' 510 10) }])) ∧
    ∀ (line : BitVec 31) (h : Heal), s.ecc.heals.find? (fun h => h.line = line.toNat) = some h → s.ecc.healWait = [] →
      h.overwritten = false → (∀ e ∈ h.waiters, e.op = .read) →
      let p := (s.place line.toNat).pc
      (∀ c, s.healCopy line.toNat = some c → ∃ t e, exec (.healCopyDelivered line) s = .next t ∧ t.ecc.heals = s.ecc.heals.erase h ∧
        e ∈ (t.pc p).l2 ++ (t.pc p).feed ∧ e.op = .healWrite ∧ e.line = line.toNat ∧
        e.data = withMark c (epochBitsOf c) false ∧ t.crown = s.crown) ∧
      (∃ t e, exec (.healTimeout line) s = .next t ∧ t.ecc.heals = s.ecc.heals.erase h ∧
        e ∈ (t.pc p).l2 ++ (t.pc p).feed ∧ e.op = .poisonWrite ∧ e.line = line.toNat ∧ t.holds (srcEccPoison (p / 32)) ∧
        t.crown = s.crown)

/-- Erasure and lane repair (R239, R240, R255-R257): a forced erasure, a cleared one, one from a lost die supply; a
repair command gives a lane to the free spare of its pair. Where its clauses rest on a choice of the model and not on
the spec's words, that is said in notes/assumptions: entry 82. -/
def Obligations.ErasureAndRepair : Prop :=
  ∀ s : State,
    (∀ n : Fin 2,
      (∃ t, exec (.tierForce n) s = .next t ∧ t.erasedDie n = some (s.tierFld n ECC.TIER0.FORCE_DIE) ∧ t.tierFld n ECC.TIER0.SOURCE = 2 ∧
        t.tierFld n ECC.TIER0.FORCE = 0 ∧ s.sameStore t.toDev) ∧
      (∃ t, exec (.tierClear n) s = .next t ∧ t.erasedDie n = none ∧ t.tierFld n ECC.TIER0.SOURCE = 0 ∧ t.tierFld n ECC.TIER0.CLEAR = 0 ∧
        t.coll = s.coll ∧ s.sameStore t.toDev)) ∧
    (∀ (d : Fin 16) (q : Fin 4), ∃ t, exec (.dieSupplyLost d q) s = .next t ∧ t.holds (srcDieSupply q d) ∧ s.sameStore t.toDev ∧
      (s.tierFld (d / 8) ECC.TIER0.ERASED = 0 → t.erasedDie (d / 8) = some (d % 8) ∧ t.tierFld (d / 8) ECC.TIER0.SOURCE = 3) ∧
      (s.tierFld (d / 8) ECC.TIER0.ERASED = 1 → t.erasedDie (d / 8) = s.erasedDie (d / 8) ∧ t.regs = s.regs)) ∧
    ∀ pc : Fin 128,
      let p := pc.val
      let lane := s.pcr p PC.ECC_CTL.REPAIR_LANE
      lane < 40 → s.laneErased p lane = false → s.pcr p (assignFld (lane / 10)) = 0xF →
      ∃ t, exec (.laneRepairGo pc) s = .next t ∧ t.sparedLane p (lane / 10) = some lane ∧ t.pcr p (assignSrc (lane / 10)) = 3 ∧
        t.laneErased p lane = false ∧ t.pcr p PC.ECC_CTL.REPAIR_GO = 0 ∧ t.holds (srcLaneRepair (p / 32)) ∧ t.crown = s.crown ∧
        (t.pc p).queued = (s.pc p).queued

/-- Error injection, repair candidates and fuse burns (R252-R254, R260). Where its clauses rest on a choice of the
model and not on the spec's words, that is said in notes/assumptions: entry 81. -/
def Obligations.InjectionAndFuses : Prop :=
  ∀ s : State,
    (s.rd base.ecc ECC.INJ_CTL.STAGE ≠ 3 → ∃ t, exec .injArm s = .next t ∧ t.ecc.inj = some (BitVec.ofNat 2 (s.rd base.ecc ECC.INJ_CTL.STAGE),
        (s.rd base.ecc ECC.INJ_ADDR_LO.ADDR + s.rd base.ecc ECC.INJ_ADDR_HI.ADDR * 2 ^ 32) / 64, BitVec.ofNat 640 (s.wideOf base.ecc 1)) ∧
      t.flag base.ecc ECC.INJ_CTL.ARM = false ∧ t.crown = s.crown ∧ t.pcs = s.pcs) ∧
    (s.rd base.ecc ECC.INJ_CTL.STAGE = 3 → ∃ t, exec .injArm s = .next t ∧ t.rd base.ecc ECC.INJ_STATUS.RESULT = 1 ∧ s.sameStore t.toDev) ∧
    exec .candPop s = .next { s with toDev :=
      { s.put base.ecc ECC.CAND_CTL.POP 0 with ecc := { s.ecc with cands := s.ecc.cands.drop 1 } } } ∧
    (let col := s.flag base.ecc ECC.FUSE_CMD.TYPE
     let f : Fuse := ⟨s.rd base.ecc ECC.FUSE_CMD.DIE, s.rd base.ecc ECC.FUSE_CMD.PC, s.rd base.ecc ECC.FUSE_CMD.BANK, col,
       if col then s.rd base.ecc ECC.FUSE_ARG.INDEX % 32 else s.rd base.ecc ECC.FUSE_ARG.INDEX⟩
     s.ecc.burning = none → 1 ≤ s.otp.lifecycle → s.otp.lifecycle ≤ 3 → s.sparesLeft f ≠ 0 →
      ∃ t, exec .fuseBurn s = .next t ∧ t.ecc = { s.ecc with burning := some f } ∧ t.rd base.ecc ECC.FUSE_STATUS.STATE = 1 ∧
        t.flag base.ecc ECC.FUSE_CMD.GO = false ∧ t.crown = s.crown) ∧
    (∀ (f : Fuse) (verified cutOff : Bool), s.ecc.burning = some f →
      ∃ t, exec (.fuseBurnDone verified cutOff) s = .next t ∧ t.ecc.burning = none ∧
        t.ecc.fuses = (if verified && !cutOff then s.ecc.fuses ++ [f] else s.ecc.fuses) ∧
        t.rd base.ecc ECC.FUSE_STATUS.RESULT = (if cutOff then 3 else if verified then 0 else 5) ∧
        t.rd base.ecc ECC.FUSE_STATUS.STATE = 0 ∧ t.crown = s.crown)

/-- Live and pattern calibration (R267, R268, R274-R280, R286, R287): a comparison in which no spare differs opens the
window; a window with enough transitions awaits its judgement, and a starved one goes on; a die's checker record comes
back as it stands and is cleared where CLR asks; the QME slot passes to the next of its rotation, which decodes from the
front of its queue. Where its clauses rest on a choice of the model and not on the spec's words, that is said in
notes/assumptions: entries 72, 73, 78, 193. -/
def Obligations.CalibrationWindows : Prop :=
  ∀ s : State,
    (∀ (pc : Fin 128) (ws : List LaneWindow),
      let p := pc.val
      let c := s.pc p
      (s.calRuns p = true → s.livePairs p ≠ [] → c.phase = .comparing → c.skipPairs = 0 →
        (∃ t, exec (.calCompareDone pc 0 0) s = .next t ∧ (t.pc p).phase = .window ∧ (t.pc p).round = c.round ∧ t.crown = s.crown) ∧
        (∃ t, exec (.calCompareDone pc 0xF 0xF) s = .next t ∧ (t.pc p).phase = .comparing ∧ (t.pc p).round = (c.round + 1) % 22 ∧
          t.crown = s.crown)) ∧
      (s.calRuns p = true → c.phase = .window →
        let mine := (s.liveCounts p ws ((s.roundPairs p).map (targetLane (c.round / 2)))).1
        let low := mine.foldl (fun a w => min a w.trans) 65535
        (low < 2 ^ 14 → ∃ t, exec (.calWindowEnd pc ws) s = .next t ∧ (t.pc p).phase = .window ∧ (t.pc p).winSlots = 0 ∧
          (t.pc p).queued = c.queued ∧ t.pcr p PC.CAL_WINDOW.STARVED = min 255 (s.pcr p PC.CAL_WINDOW.STARVED + 1) ∧ t.crown = s.crown) ∧
        (2 ^ 14 ≤ low → ∃ t, exec (.calWindowEnd pc ws) s = .next t ∧ (t.pc p).phase = .judged ∧ (t.pc p).window = mine ∧
          (t.pc p).windowReady = true ∧ t.pcr p PC.CAL_WINDOW.TRANS = low ∧ t.pcr p PC.CAL_WINDOW.STARVED = 0 ∧ t.crown = s.crown)) ∧
      (s.patternRuns p = true → c.patReady = false →
        (s.patternLanes p).any (fun l => (windowOf ws l).trans < 2 ^ 14) = false →
        ∃ t, exec (.patternWindowEnd pc ws) s = .next t ∧ (t.pc p).patWindow = (s.patternCounts p ws).1 ∧
          (t.pc p).patReady = true ∧ (t.pc p).patSlots = 0 ∧ t.regs = s.regs ∧ t.crown = s.crown) ∧
      (∀ (die : Fin 8) (clr : Bool), (s.calrd p die clr).1 = c.record die ∧
        ((s.calrd p die clr).2.pc p).record die = (if clr then 0 else c.record die))) ∧
    ∀ q : Fin 4, s.rung = rungNoon →
      let m := (s.qme q).advance
      let p := 32 * q.val + m.1.current
      ∃ t, exec (.qmeSlot q) s = .next t ∧ t.qme q = m.1 ∧ t.rd (base.qme q) QME.SLOT.PC = m.1.current % 32 ∧
        t.flag (base.qme q) QME.SLOT.PREEMPTED = m.2 ∧ (∀ k : Fin 4, k ≠ q → t.qme k = s.qme k) ∧
        (t.pc p).decodeQ <:+ (s.pc p).decodeQ ∧ (s.carderRuns p = false → (t.pc p).decodeQ = (s.pc p).decodeQ) ∧ t.crown = s.crown

/-- Training of the TSV lanes (R262, R263, R269-R273): the commands start a training in INIT or OUT and are ignored
elsewhere; each group done leads to the next and the last one stores the settings; an override loads and stores one
setting. Where its clauses rest on a choice of the model and not on the spec's words, that is said in
notes/assumptions: entries 77, 79, 80. -/
def Obligations.LaneTraining : Prop :=
  ∀ (s : State) (pc : Fin 128),
    let p := pc.val
    let b := base.pc p
    (s.pcState p = pcInit ∨ s.pcState p = pcOut → (s.pc p).training = none →
      (∃ t, exec (.calRetrain pc) s = .next t ∧ (t.pc p).training = some ⟨true, 0, false⟩ ∧ (t.pc p).phase = .paused ∧ t.crown = s.crown) ∧
      (∃ t, exec (.calFullTrain pc) s = .next t ∧ (t.pc p).training = some ⟨false, 0, false⟩ ∧ (t.pc p).phase = .paused ∧
        t.crown = s.crown)) ∧
    (s.pcState p ≠ pcInit → s.pcState p ≠ pcOut →
      (∃ t, exec (.calRetrain pc) s = .next t ∧ t.rd b PC.CAL_STATUS.EVENT = 10 ∧ s.sameStore t.toDev) ∧
      (∃ t, exec (.calFullTrain pc) s = .next t ∧ t.rd b PC.CAL_STATUS.EVENT = 10 ∧ s.sameStore t.toDev)) ∧
    (∀ at_, (s.pc p).outSince = some at_ → s.pcState p = pcOut → at_ + 10000000 < s.now → (s.pc p).retrained = false →
      (s.pc p).training = none → ∃ t, exec (.outRetrain pc) s = .next t ∧ (t.pc p).training = some ⟨true, 0, false⟩ ∧ t.crown = s.crown) ∧
    (∀ (tr : Training) (sweeps : List LaneSweep), (s.pc p).training = some tr → tr.parked = false →
      s.flag (base.qme (p / 32)) QME.TRAIN.PENDING = false →
      (tr.step ≠ 10 → ∃ t, exec (.trainGroupDone pc sweeps) s = .next t ∧ (t.pc p).training = some ⟨tr.seeded, tr.step + 1, false⟩ ∧
        t.crown = s.crown) ∧
      (tr.step = 10 → s.flag b PC.CAL_CTL.RETRAIN = false → s.flag b PC.CAL_CTL.FULL_TRAIN = false →
        ∃ t, exec (.trainGroupDone pc sweeps) s = .next t ∧ (t.pc p).training = none ∧ t.storeValid p (s.targetPoint p) = true ∧
          t.rd b PC.CAL_STATUS.EVENT = 5 ∧ t.crown = s.crown)) ∧
    (s.flag b PC.CAL_CTL.LIVE_EN = false → s.flag b PC.CAL_CTL.PATTERN_EN = false → s.pcr p PC.CAL_OVR.LANE < 44 →
      ∃ t, exec (.calOvrGo pc) s = .next t ∧
        t.lane p (s.pcr p PC.CAL_OVR.LANE) (dlyFld (s.flag b PC.CAL_OVR.DIR)) = s.pcr p PC.CAL_OVR.VALUE ∧
        t.flag b PC.CAL_OVR.GO = false ∧ t.storeValid p (s.point (p / 32)) = true ∧ s.sameStore t.toDev)

/-- Frequency points (R188, R288, R412): a request with no training under way starts the change, which stops the
controllers of the quadrant; when all is quiet the new point, its settings and its queue depth are in force and the
controllers run on. -/
def Obligations.FrequencyPoints : Prop :=
  ∀ s : State,
    (let q := s.rd base.clk CLK.TSV_REQ.QUAD
     let r := s.rd base.clk CLK.TSV_REQ.POINT
     r ≠ 3 → r ≠ s.point q → (s.qme q).changing = none → s.trainingPcs q = [] → s.flag (base.qme q) QME.TRAIN.PENDING = false →
      ∃ t, exec .tsvPointReq s = .next t ∧ (t.qme q).changing = some (BitVec.ofNat 2 r) ∧ t.rd base.clk CLK.TSV_REQ.RESULT = 0 ∧
        t.flag base.clk CLK.TSV_REQ.GO = false ∧ t.pcs = s.pcs ∧ t.crown = s.crown) ∧
    (s.rd base.clk CLK.TSV_REQ.POINT = 3 → ∃ t, exec .tsvPointReq s = .next t ∧ t.rd base.clk CLK.TSV_REQ.RESULT = 3 ∧
      s.sameStore t.toDev) ∧
    ∀ (q : Fin 4) (r : BitVec 2), (s.qme q).changing = some r →
      (∃ t, exec (.tsvPointChange q) s = .next t ∧ (∀ k : Fin 32, (t.pc (32 * q.val + k.val)).stopped = true) ∧ t.qmes = s.qmes ∧
        t.crown = s.crown) ∧
      ((∀ k : Fin 32, (s.pc (32 * q.val + k.val)).stopped = true ∧ (s.pc (32 * q.val + k.val)).inFlight = [] ∧
          (s.pc (32 * q.val + k.val)).training = none) →
        ∃ t, exec (.tsvPointReady q) s = .next t ∧ t.point q = r.toNat ∧ (t.qme q).changing = none ∧
          t.rd (base.qme q) QME.TRAIN.EVENT = 2 ∧ t.crown = s.crown ∧
          ∀ k : Fin 32, (t.pc (32 * q.val + k.val)).stopped = false ∧ t.pcr (32 * q.val + k.val) PC.ARB.RATE = r.toNat ∧
            t.pcr (32 * q.val + k.val) PC.ARB.L0_DEPTH = l0DepthAt r.toNat)

/-- Destage of units (R292, R296, R300, R326): the unit that the choice of R296 names is read at L2 order 4; a unit
whose write is durable leaves the work and becomes clean, and its marks are cleared; the lowest seed unit becomes
dirty and its lines are read and marked; a flush from CMD ends at once where nothing is dirty, else waits. Crown lines
change later, as the operations reach them. Where its clauses rest on a choice of the model and not on the spec's
words, that is said in notes/assumptions: entries 52, 54. -/
def Obligations.DestageUnits : Prop :=
  ∀ s : State,
    (∀ k u, s.pfPhase = pfIdle → s.durableSet ≠ [] → s.pf.energyShort = false → s.destageChoice = some (k, u) →
      (∀ i : Fin 64, s.lineHeld (64 * u + i.val) = false) →
      ∃ t, exec .destageStart s = .next t ∧ t.fuller.jobs = s.fuller.jobs ++ [⟨u, s.order, [], [], s.epochO, [], false⟩] ∧
        t.fuller.ptr = (u + 1) % 2 ^ 25 ∧ t.fuller.map = s.fuller.map ∧ t.crown = s.crown ∧
        ∀ i : Fin 64, let p := (s.place (64 * u + i.val)).pc
          ∃ e ∈ (t.pc p).l2 ++ (t.pc p).feed, e.op = .destageRead ∧ e.line = 64 * u + i.val) ∧
    (∀ (unit : BitVec 25) (j : Destage), let u := unit.toNat
      s.fuller.jobs.find? (fun x => x.unit = u && x.written) = some j → s.durableSet ≠ [] →
      j.cmds.any (fun c => s.durableSet.contains c.1 && (s.hb c.1).cmds.any (fun x => x.cid = c.2)) = false →
      (∀ i : Fin 64, s.stillDirty j (64 * u + i.val) = false) → s.fuller.catchUp = none → s.fuller.flushes = [] →
      s.fuller.deferred = [] → s.flag base.fcore FULLER.STATUS.BP = false → s.dirtyUnits < s.budget → s.stalled = false →
      s.epState ≠ epSealing → s.pfPhase = pfIdle →
      ∃ t, exec (.destageDurable unit) s = .next t ∧ t.fuller.jobs = s.fuller.jobs.filter (fun x => x.unit != u) ∧
        t.unitState u = 0 ∧ (∀ v, v ≠ u → t.unitState v = s.unitState v) ∧ t.crown = s.crown ∧
        ∀ l ∈ j.clear, let p := (s.place l).pc
          ∃ e ∈ (t.pc p).l2 ++ (t.pc p).feed, e.op = .clearD ∧ e.line = l) ∧
    (∀ u rest, s.fuller.seeds = u :: rest → s.dirtyUnits < s.budget * 7 / 8 → s.flag base.fcore FULLER.STATUS.BP = false →
      s.tracked (64 * u) = true → s.unitState u = 0 →
      ∃ t, exec .seedAdmit s = .next t ∧ t.fuller.seeds = rest ∧
        t.unitState u = (if s.lineClass (64 * u) = clsEpoch then labelOf s.epochO else 1) ∧ t.crown = s.crown ∧
        ∀ i : Fin 64, let p := (s.place (64 * u + i.val)).pc
          ∃ e ∈ (t.pc p).l2 ++ (t.pc p).feed, e.op = .seedWrite ∧ e.line = 64 * u + i.val) ∧
    (let r := s.rd base.fcore FULLER.CMD.REGION
     let us := s.flushUnits (some r) ++ s.flushSeeds (some r)
     s.cmdFree = true → s.rgnValid r = true → s.classOf r ≠ clsVolatile →
      (us = [] → s.nonDurable = false → ∃ t, exec .flushRegion s = .next t ∧ t.flag base.fcore FULLER.CMD.GO = false ∧
        t.flag base.fcore FULLER.CMD_STATUS.RUNNING = false ∧ t.rd base.fcore FULLER.CMD_STATUS.RESULT = 0 ∧ s.sameStore t.toDev) ∧
      (us ≠ [] → ∃ t, exec .flushRegion s = .next t ∧ t.flag base.fcore FULLER.CMD.GO = false ∧
        t.flag base.fcore FULLER.CMD_STATUS.RUNNING = true ∧ t.fuller.flushes = s.fuller.flushes ++ [⟨.mgmt, some r, us, s.order⟩] ∧
        t.crown = s.crown ∧ t.pcs = s.pcs)) ∧
    (let us := s.flushUnits none ++ s.flushSeeds none
     s.cmdFree = true →
      (us = [] → s.nonDurable = false → ∃ t, exec .flushAll s = .next t ∧ t.flag base.fcore FULLER.CMD.GO = false ∧
        t.flag base.fcore FULLER.CMD_STATUS.RUNNING = false ∧ t.rd base.fcore FULLER.CMD_STATUS.RESULT = 0 ∧ s.sameStore t.toDev) ∧
      (us ≠ [] → ∃ t, exec .flushAll s = .next t ∧ t.flag base.fcore FULLER.CMD.GO = false ∧
        t.flag base.fcore FULLER.CMD_STATUS.RUNNING = true ∧ t.fuller.flushes = s.fuller.flushes ++ [⟨.mgmt, none, us, s.order⟩] ∧
        t.crown = s.crown ∧ t.pcs = s.pcs)) ∧
    (s.cmdFree = false →
      exec .flushRegion s = .next { s with toDev := s.put base.fcore FULLER.CMD.GO 1 } ∧
      exec .flushAll s = .next { s with toDev := s.put base.fcore FULLER.CMD.GO 1 })

/-- Sealing of epochs (R304, R312, R313, R315, R326): at the seal point O becomes S and the next number O; the COMMIT
record of S makes d become S; a stall at its limit, and FOLD, give S up; SEAL from CMD sets a seal point 200 ns on.
Where its clauses rest on a choice of the model and not on the spec's words, that is said in notes/assumptions: entry
51. -/
def Obligations.EpochSealing : Prop :=
  ∀ s : State,
    (∀ at_, s.fuller.sealAt = some at_ → s.epState = epOpen → s.nonDurable = false → s.fuller.sealers = [] →
      ∃ t, exec .sealPoint s = .next t ∧ t.epState = epSealing ∧ t.epochS = s.epochO ∧ t.epochO = nextEpoch s.epochO ∧
        t.epochD = s.epochD ∧ t.fuller.sealAt = none ∧ t.fuller.map = s.fuller.map ∧ t.crown = s.crown ∧ t.pcs = s.pcs) ∧
    (s.stalled = true → s.epState = epSealing → s.fuller.deferred = [] →
      ∃ t, exec .cowStallTimeout s = .next t ∧ t.epState = epOpen ∧ t.epochS = 0 ∧ t.epochO = s.epochO ∧ t.epochD = s.epochD ∧
        t.fuller.shadow = [] ∧ t.holds srcFold ∧ t.crown = s.crown) ∧
    (∀ e m, s.pfPhase = pfIdle → s.fuller.commit = some (e, m, false) → s.epState = epSealing → s.recordPendingOn .commit = false →
      s.fuller.deferred = [] → ∀ c ∈ [Instr.epochCommitDone, Instr.hatboxRecordDurable .commit],
      ∃ t, exec c s = .next t ∧ t.epState = epOpen ∧ t.epochD = s.epochS ∧ t.epochS = 0 ∧ t.epochO = s.epochO ∧
        t.fuller.commit = none ∧ t.fuller.shadow = [] ∧ t.crown = s.crown) ∧
    (s.cmdFree = true →
      (s.epState = epOpen → s.nonDurable = false → s.fuller.sealAt = none → s.labelTaken = false →
        ∃ t, exec .fullerSeal s = .next t ∧ t.fuller.sealAt = some (s.now + 200) ∧ t.fuller.sealers = [.mgmt] ∧
          t.flag base.fcore FULLER.CMD_STATUS.RUNNING = true ∧ t.flag base.fcore FULLER.CMD.GO = false ∧ t.epState = epOpen ∧
          t.epochO = s.epochO ∧ t.crown = s.crown ∧ t.pcs = s.pcs) ∧
      (s.epState = epNone → ∃ t, exec .fullerSeal s = .next t ∧ t.rd base.fcore FULLER.CMD_STATUS.RESULT = 1 ∧
        t.flag base.fcore FULLER.CMD_STATUS.RUNNING = false ∧ s.sameStore t.toDev) ∧
      (s.epState = epSealing → s.fuller.deferred = [] →
        ∃ t, exec .fullerFold s = .next t ∧ t.epState = epOpen ∧ t.epochS = 0 ∧ t.epochO = s.epochO ∧ t.epochD = s.epochD ∧
          t.fuller.shadow = [] ∧ t.holds srcFold ∧ t.flag base.fcore FULLER.CMD_STATUS.RUNNING = false ∧
          t.rd base.fcore FULLER.CMD_STATUS.RESULT = 0 ∧ t.crown = s.crown) ∧
      (s.epState ≠ epSealing → ∃ t, exec .fullerFold s = .next t ∧ t.rd base.fcore FULLER.CMD_STATUS.RESULT = 1 ∧
        t.flag base.fcore FULLER.CMD_STATUS.RUNNING = false ∧ s.sameStore t.toDev)) ∧
    (s.cmdFree = false → exec .fullerSeal s = .next { s with toDev := s.put base.fcore FULLER.CMD.GO 1 } ∧
      exec .fullerFold s = .next { s with toDev := s.put base.fcore FULLER.CMD.GO 1 })

/-- Power failure (R332-R339, R342, R564): the assertion starts a flush in DRAIN; a supply below range raises its
source, and rails 00-09 are a power-fail point; the end of the drain window squelches every lane and starts stage 0,
or closing where the Fuller is non-durable; a Thalt flush, which firmware starts, has no window; a durable FLUSH_START lets the stages go on;
a low energy sample stops destage; closing cuts the Crown and the cartridges stand; a pin that has risen and stood
ends the safe state. Where its clauses rest on a choice of the model and not on the spec's words, that is said in
notes/assumptions: entries 32, 57, 58, 59. -/
def Obligations.PowerFail : Prop :=
  ∀ s : State,
    (s.power.crownOn = true → s.pfPhase = pfIdle → s.started = true → s.rung = rungNoon → s.batt.held = none →
      (∃ t, exec .pwrfailAssert s = .next t ∧ t.pfPhase = pfDrain ∧ t.pfCause = 1 ∧ t.pf.low = true ∧ t.pf.drainWindow = true ∧
        t.pf.waitList = [] ∧ t.crown = s.crown) ∧
      (∀ rail : Fin 12, rail.val < 10 → ∃ t, exec (.supplyUndervolt rail) s = .next t ∧ t.pfPhase = pfDrain ∧ t.pfCause = 1 ∧
        t.holds (srcSupply rail) ∧ t.pf.waitList = [] ∧ t.crown = s.crown)) ∧
    (s.power.crownOn = false → s.batt.held = none → ∃ t, exec .pwrfailAssert s = .next t ∧ t.pf.low = true ∧ t.pfPhase = s.pfPhase ∧
      t.ecc.burning = none ∧ t.crown = s.crown) ∧
    (∀ rail : Fin 12, 10 ≤ rail.val → s.batt.held = none → ∃ t, exec (.supplyUndervolt rail) s = .next t ∧ t.holds (srcSupply rail) ∧ t.regs = s.regs ∧
      s.sameStore t.toDev) ∧
    (exec .pwrfailDeassert s = .next { s with toDev := { s.toDev with pf := { s.pf with low := false, roseAt := s.now } } }) ∧
    (s.pf.drainWindow = true → s.pfCause ≠ 3 → s.pfPhase = pfDrain → s.pf.energyShort = false →
      (s.pf.stage0Held = true ∨ s.nonDurable = true ∨ (s.durableSet ≠ [] ∧ ∀ n ∈ s.durableSet, (s.hb n).ejecting = false)) →
      ∃ t, exec .drainWindowEnd s = .next t ∧ t.pf.drainWindow = false ∧ t.power.serdesOn = false ∧
        (∀ n : Fin 6, (t.fp n).squelched = true) ∧ t.crown = s.crown ∧
        (s.pf.stage0Held = true → t.pfPhase = pfDrain) ∧
        (s.pf.stage0Held = false → s.nonDurable = true → t.pfPhase = pfClosing) ∧
        (s.pf.stage0Held = false → s.nonDurable = false → t.pfPhase = pfStage0 ∧
            ∀ n ∈ s.durableSet, ∃ c ∈ (t.hb n).cmds, ∃ b, c.op = .writeRecord .flushStart b)) ∧
    (s.pf.drainWindow = false → exec .drainWindowEnd s = .next s) ∧
    (s.pfPhase = pfIdle → s.started = true → s.coreServes = true → s.rung = rungNoon → s.rungPhase = rpSteady →
      (s.power.linksPending = true ∨ s.nonDurable = true ∨ (s.durableSet ≠ [] ∧ ∀ n ∈ s.durableSet, (s.hb n).ejecting = false)) →
      ∃ t, exec .thaltFlushStart s = .next t ∧ t.pfCause = 2 ∧ t.crown = s.crown ∧ t.pf.waitList = [] ∧
        (s.power.linksPending = true → t.pfPhase = pfDrain) ∧
        (s.power.linksPending = false → s.nonDurable = true → t.pfPhase = pfClosing) ∧
        (s.power.linksPending = false → s.nonDurable = false → t.pfPhase = pfStage0)) ∧
    (s.pfPhase ≠ pfIdle ∨ s.coreServes = false → exec .thaltFlushStart s = .next s) ∧
    (s.pfPhase = pfStage0 → s.recordPendingOn .flushStart = false → s.nonDurable = false → s.durableSet ≠ [] →
      s.pf.energyShort = false → s.epState = epNone → (∃ u ∈ s.fuller.map, s.epochUnit u.1 = false) →
      ∃ t, exec (.hatboxRecordDurable .flushStart) s = .next t ∧ t.pfPhase = pfStage3 ∧ t.fuller = s.fuller ∧ t.crown = s.crown ∧
        t.pcs = s.pcs ∧ t.hbs = s.hbs) ∧
    (∀ mv, pfDrain ≤ s.pfPhase → s.pfPhase < pfClosing → s.pf.pfSeen = true → s.pf.energyShort = false → mv < 4725 →
      ∃ t, exec (.flushEnergySample mv) s = .next t ∧ t.pf.energyShort = true ∧ t.holds srcEnergyShort ∧ t.crown = s.crown ∧
        t.pcs = s.pcs ∧ (s.pfPhase = pfDrain → t.pfPhase = pfDrain) ∧
        (pfStage0 ≤ s.pfPhase → s.writesInFlight = false → t.pfPhase = pfClosing)) ∧
    (s.pfPhase = pfClosing → s.power.wakeSeen = none →
      ∃ t, exec .closingDone s = .next t ∧ t.pfPhase = pfSafe ∧ t.crown = [] ∧ t.power.crownOn = false ∧
        (∀ n : Fin 2, (t.hb n).cart = (s.hb n).cart) ∧
        (s.pf.thaltSafe = false → s.pfCause = 3 → t.rung = rungMidnight ∧ t.rungPhase = rpSteady)) ∧
    (s.pfPhase = pfSafe → s.rung ≠ rungMidnight → s.pf.thaltSafe = false → s.pf.low = false → s.pf.roseAt + 10000000 ≤ s.now →
      (s.dawnDone 10 = false → ∃ t, exec .safeStateExit s = .next t ∧ t.power.crownOn = true ∧ t.power.resetN = true ∧
        t.otp.held = true ∧ t.crown = [] ∧ (∀ k, t.dawnDone k = false) ∧ ∀ n : Fin 2, (t.hb n).cart = (s.hb n).cart) ∧
      (s.dawnDone 10 = true → ∃ t, exec .safeStateExit s = .next t ∧ t.power.crownOn = true ∧ t.rungPhase = rpExiting ∧
        t.pfPhase = pfIdle ∧ t.crown = []))

/-- Hold-up energy (R330, R331, R477): a sample gives the live energy and lowers EFF at once where it supports less;
the audit gives Ea, the register AUDIT and EFF. Where its clauses rest on a choice of the model and not on the spec's
words, that is said in notes/assumptions: entry 32. -/
def Obligations.HoldUp : Prop :=
  ∀ s : State,
    (∀ mv, s.rung = rungNoon → s.pfPhase = pfIdle → s.pf.audited = true → s.pf.auditing = false →
      let el := s.liveE mv
      ∃ t, exec (.holdupSample mv) s = .next t ∧ t.pf.elNj = el ∧ t.rd base.pf PF.HOLDUP.LIVE = quarterJ el ∧ t.crown = s.crown ∧
        (s.effOf (min s.declaredE el) < s.rd base.pf PF.HOLDUP.EFF →
          t.rd base.pf PF.HOLDUP.EFF = s.effOf (min s.declaredE el) ∧ t.pf.higherSince = none)) ∧
    (∀ mv, s.rung ≠ rungNoon → exec (.holdupSample mv) s = .next s) ∧
    (∀ va droop, s.pf.auditing = true →
      let ea := auditedE (s.rd base.fcore FULLER.CFG.HOLDUP_EFF) va droop
      ∃ t, exec (.holdupAuditDone va droop) s = .next t ∧ t.pf.auditing = false ∧ t.pf.audited = true ∧ t.pf.eaNj = ea ∧
        t.pf.vaMv = va ∧ t.rd base.pf PF.HOLDUP.AUDIT = quarterJ ea ∧ t.rd base.pf PF.HOLDUP.EFF = s.effOf (min s.declaredE ea) ∧
        t.crown = s.crown ∧ (ea = 0 → t.holds srcBistFail)) ∧
    (∀ va droop, s.pf.auditing = false → exec (.holdupAuditDone va droop) s = .next s)

/-- Restore (R26, R343, R344, R346, R350, R355, R359): restore start classes the previous session, shows its epoch and
lets every pseudo-channel serve; of a unit of the bulk restore, or of a fault-in that has run, the restore content of each
line, or poison, is queued at L2, and the unit is restored once the last of these writes has reached the Crown; a pop shows the next range of the UNSAVED FIFO. Where its clauses rest on a
choice of the model and not on the spec's words, that is said in notes/assumptions: entries 53, 55, 56, 60, 88. -/
def Obligations.Restore : Prop :=
  ∀ s : State,
    (s.rstPhase = 1 → s.restorable = true → s.pfPhase = pfIdle → s.durableSet ≠ [] → s.nonDurable = false → s.hbState 0 ≠ hbResync →
      s.hbState 1 ≠ hbResync → s.rungPhase = rpSteady →
      ∃ t, exec .restoreStart s = .next t ∧ t.rstPhase = 2 ∧ t.rd base.pf PF.RST_STATUS.OUTCOME = s.outcomeOf ∧
        t.rd base.pf PF.RST_EPOCH.EPOCH = s.fullEpoch.toNat ∧ t.pf.restoring = true ∧ t.pf.bulkPtr = 0 ∧ t.pf.restored = [] ∧
        t.pf.unsaved = s.unsavedRanges s.outcomeOf ∧ t.dawnDone 10 = true ∧ t.dawnPhase = dawnReady ∧
        (∀ p : Fin 128, t.pcState p = (if s.pcState p = pcInit then pcServing else s.pcState p)) ∧ t.crown = s.crown) ∧
    (∀ readable, s.pf.restoring = true → s.pfPhase = pfIdle →
      let u := s.nextBulk (s.pf.restored.length + s.pf.faultIns.length) s.pf.bulkPtr
      u < 2 ^ 25 → ∃ t, exec (.bulkRestoreUnit readable) s = .next t ∧ t.pf.bulkPtr = u + 1 ∧ u ∈ t.pf.writing ∧
        (s.poisonUnit u = false → s.canRestore u readable = true → (∀ i : Fin 64, t.restoreQueued (64 * u + i) (s.restoredLine u i)) ∧
          t.fuller = s.fuller) ∧
        (s.poisonUnit u = true ∨ s.canRestore u readable = false → (∀ i : Fin 64, t.restoreQueued (64 * u + i) (s.poisoned (64 * u + i))) ∧
          t.rd base.pf PF.RST_STATUS.EVENT = 4) ∧ t.crown = s.crown ∧ t.hbs = s.hbs) ∧
    (∀ (unit : BitVec 25) (readable : Bool), let u := unit.toNat
      s.pf.faultIns.contains u = true → s.pf.writing.contains u = false → s.pfPhase = pfIdle →
      ∃ t, exec (.faultinDone unit readable) s = .next t ∧ u ∈ t.pf.writing ∧
        (s.poisonUnit u = false → s.canRestore u readable = true → (∀ i : Fin 64, t.restoreQueued (64 * u + i) (s.restoredLine u i)) ∧
          t.fuller = s.fuller) ∧
        (s.poisonUnit u = true ∨ s.canRestore u readable = false → (∀ i : Fin 64, t.restoreQueued (64 * u + i) (s.poisoned (64 * u + i))) ∧
          t.rd base.pf PF.RST_STATUS.EVENT = 4) ∧ t.crown = s.crown) ∧
    (∀ (pc : Fin 128) (u : Nat), let d := s.toDev.lineSlot pc
      u ∈ d.pf.writing → d.restoreLeft u = false → d.pf.waitList = [] →
      ∃ t, exec (.lineSlot pc) s = .next t ∧ u ∉ t.pf.writing ∧ t.unrestored u = false ∧ t.crown = d.crown ∧ t.pcs = d.pcs) ∧
    (∀ x rest, s.pf.unsaved = x :: rest → rest.length < 512 →
      ∃ t, exec .unsavedPop s = .next t ∧ t.pf.unsaved = rest ∧ t.rd base.pf PF.UNSAVED_CTL.COUNT = rest.length ∧
        t.flag base.pf PF.UNSAVED0.VALID = !rest.isEmpty ∧ t.crown = s.crown ∧ t.pcs = s.pcs ∧ t.fuller = s.fuller ∧ t.hbs = s.hbs ∧
        ∀ y, rest.head? = some y → y.1 < 2 ^ 25 → t.rd base.pf PF.UNSAVED0.START = y.1)

/-- Hatbox commands (R360, R371, R384-R389, R393, R575): PAIR starts a format, EJECT ends the use of a cartridge, each
refused as the port's state, the lifecycle and other work ask; the key commands end with their result; a wear check
shows the wear, and a worn cartridge serves restores only; the cleaner keeps what lies outside the segment it
reclaims; a link's error messages count or are raised. Where its clauses rest on a choice of the model and not on the
spec's words, that is said in notes/assumptions: entries 93, 95, 104, 105, 106. -/
def Obligations.HatboxCommands : Prop :=
  ∀ (s : State) (k : Fin 2),
    let n := k.val
    let st := s.hbState n
    (s.hbCoincides = false → (s.hb n).ejecting = false →
      (∀ c, st = hbForeign → 1 ≤ s.otp.lifecycle → s.otp.lifecycle ≤ 3 → s.hbRoot.isSome = true → (s.hb n).cart = some c →
        (c.super = none ∨ s.flag (base.hb n) HB.CTL.ERASE_OK = true) → c.report.formatOffered = true → s.blocksNeeded ≤ c.report.blocks →
        ∃ t, exec (.pair k) s = .next t ∧ t.hbState n = hbPairing ∧ (t.hb n).pairing = 2 ∧
          (t.hb n).cmds = [⟨(s.hb n).nextCid, 0, .format, false⟩] ∧ (t.hb n).cart = some c ∧ t.flag (base.hb n) HB.CTL.PAIR = false ∧
          t.hbr n HB.PAIR_GEN.GEN = (match c.super with | some f => f.pairGen.toNat + 1 | none => 1) % 2 ^ 32 ∧ t.crown = s.crown ∧
          t.pcs = s.pcs ∧ t.fuller = s.fuller) ∧
      (st = hbForeign → s.otp.lifecycle = 0 → ∃ t, exec (.pair k) s = .next t ∧ t.hbr n HB.STATUS.RESULT = hbDenied ∧
        t.hbState n = hbForeign ∧ s.sameStore t.toDev) ∧
      (st = hbAbsent → ∃ t, exec (.pair k) s = .next t ∧ t.hbr n HB.STATUS.RESULT = hbRefused ∧ s.sameStore t.toDev) ∧
      (hbForeign ≤ st → st ≤ hbRestoreOnly → st ≠ hbPairing → (s.soleMember n = false ∨ s.flag (base.hb n) HB.CTL.FORCE = true) →
        ((s.hb n).cmds = [] → ∃ t, exec (.eject k) s = .next t ∧ t.hbState n = hbEjected ∧ t.hbr n HB.STATUS.RESULT = hbOk ∧
          t.hbr n HB.STATUS.SPEED = 3 ∧ t.flag (base.hb n) HB.CTL.EJECT = false ∧ t.crown = s.crown ∧
          ∀ c f, st ≠ hbForeign → (s.hb n).cart = some c → c.super = some f →
            ((t.hb n).cart.bind Cart.super).map Super.synced = some false) ∧
        ((s.hb n).cmds ≠ [] → ∃ t, exec (.eject k) s = .next t ∧ (t.hb n).ejecting = true ∧ t.hbState n = st ∧
          (t.hb n).cart = (s.hb n).cart ∧ t.crown = s.crown ∧ t.fuller = s.fuller)) ∧
      (st = hbInService → s.soleMember n = true → s.flag (base.hb n) HB.CTL.FORCE = false →
        ∃ t, exec (.eject k) s = .next t ∧ t.hbr n HB.STATUS.RESULT = hbRefused ∧ t.hbState n = st ∧ s.sameStore t.toDev)) ∧
    (s.hbCoincides = true → ∀ c ∈ [Instr.pair k, .eject k], ∃ t, exec c s = .next t ∧ t.hbr n HB.STATUS.RESULT = hbBusy ∧
      t.hbState n = st ∧ s.sameStore t.toDev) ∧
    (∀ c ∈ [Instr.keyExport, .keyImport],
      (s.hbCoincides = true → ∃ t, exec c s = .next t ∧ t.rd base.key KEY.STATUS.RESULT = 2 ∧ t.flag base.key KEY.CMD.GO = false ∧
        s.sameStore t.toDev) ∧
      (s.hbCoincides = false → s.otp.lifecycle ≠ 3 → ∃ t, exec c s = .next t ∧ t.rd base.key KEY.STATUS.RESULT = 1 ∧
        t.flag base.key KEY.CMD.GO = false ∧ s.sameStore t.toDev)) ∧
    (s.hbCoincides = false → s.otp.lifecycle = 3 → s.rd base.key KEY.CMD.PORT = n →
      (st = hbInService ∨ st = hbRestoreOnly →
        let cert := wideBytes (s.wideOf base.key 1) 1024
        ∃ t, exec .keyExport s = .next t ∧ t.flag base.key KEY.CMD.GO = false ∧ t.crown = s.crown ∧ t.fuller = s.fuller ∧
          (s.certOk = false → t.rd base.key KEY.STATUS.RESULT = 4 ∧ s.sameStore t.toDev) ∧
          (∀ key me c f, s.certOk = true → s.caKeyHash.bind (Config.certChain cert) = some key → s.identity = some me →
            (s.hb n).cart = some c → c.super = some f → t.rd base.key KEY.STATUS.RESULT = 0 ∧
              ∃ g, (t.hb n).cart.bind Cart.super = some g ∧ g.key = f.key ∧
                (s.rd base.key KEY.CMD.SLOT, (⟨Config.certUid cert, f.key, me⟩ : Envelope)) ∈ g.envelopes)) ∧
      (∀ c f, (s.hb n).cart = some c → c.super = some f → st = hbForeign →
        ∃ t, exec .keyImport s = .next t ∧ t.flag base.key KEY.CMD.GO = false ∧ t.crown = s.crown ∧ t.fuller = s.fuller ∧
          (s.certOk = false → t.rd base.key KEY.STATUS.RESULT = 4 ∧ s.sameStore t.toDev) ∧
          (s.certOk = true → ∀ root, s.rootKey = some root →
            let ok := f.envelopes.any (fun e => e.2.target.toNat = s.uid && Config.exporterOk e.2.signer && e.2.key = f.kcv)
            (ok = false → t.rd base.key KEY.STATUS.RESULT = 3 ∧ s.sameStore t.toDev) ∧
            (ok = true → t.rd base.key KEY.STATUS.RESULT = 0 ∧ ∃ g, (t.hb n).cart.bind Cart.super = some g ∧
              g.owner = BitVec.ofNat 64 s.uid ∧ g.adopted = true ∧ g.wrapRoot = root ∧ g.key = f.kcv ∧ g.envelopes = [])))) ∧
    (∀ (pct du rated : Nat) (ro : Bool), (s.hb n).cart.isSome = true → st = hbInService → s.pfPhase = pfIdle →
      let un := if rated = 0 then pct else max (pct * rated * 1000000000) (du * 512000 * 100)
      let ud := if rated = 0 then 100 else 100 * rated * 1000000000
      ∃ t, exec (.wearCheck k pct du rated ro) s = .next t ∧ t.hbr n HB.WEAR.USED = min 255 (100 * un / ud) ∧
        (t.hb n).wearLog = (du :: (s.hb n).wearLog).take 168 ∧ t.crown = s.crown ∧
        (9 * ud ≤ 10 * un → t.flag (base.hb n) HB.WEAR.WARN = true) ∧
        (ro = false → un < ud → t.hbState n = hbInService ∧ t.fuller = s.fuller ∧ t.pcs = s.pcs) ∧
        (ro = true ∨ ud ≤ un → t.hbState n = hbRestoreOnly ∧ t.flag (base.hb n) HB.WEAR.WORN = true ∧ t.holds (srcHbWorn n))) ∧
    (∀ c f b, (s.hb n).cart = some c → c.super = some f → c.log.getLast? = some b →
      (f.logBlocks ≤ 8 * (f.logBlocks - cartUsed c) → s.pf.abandons.length ≤ 240 → exec (.cleanerStart k) s = .next s) ∧
      (8 * (f.logBlocks - cartUsed c) < f.logBlocks ∨ 240 < s.pf.abandons.length → ∃ t, exec (.cleanerStart k) s = .next t ∧
        (∃ c', (t.hb n).cart = some c' ∧ ∀ x ∈ c.log, x.lba / 16384 ≠ b.lba / 16384 → x ∈ c'.log) ∧ t.crown = s.crown ∧
        t.pcs = s.pcs ∧ t.fuller = s.fuller)) ∧
    (∃ t, exec (.pcieErrorMessage k true) s = .next t ∧
      t.hbr n HB.AER_CORR.COUNT = min 65535 (s.hbr n HB.AER_CORR.COUNT + 1) ∧ s.sameStore t.toDev) ∧
    (∃ t, exec (.pcieErrorMessage k false) s = .next t ∧ t.holds (srcHbLink n) ∧ t.regs = s.regs ∧ s.sameStore t.toDev)

/-- Hatbox ports (R361, R365-R367, R376, R390, R401, R564): a completed write appends its blocks to the cartridge; a
command over time is aborted, then its controller is reset, then its cartridge FAILED; a link that comes up brings its
cartridge, one that goes down or does not train leaves it FAILED, and a removal leaves the port ABSENT. Where its
clauses rest on a choice of the model and not on the spec's words, that is said in notes/assumptions: entries 91, 92,
94. -/
def Obligations.HatboxPorts : Prop :=
  ∀ (s : State) (k : Fin 2),
    let n := k.val
    let st := s.hbState n
    let other := s.nonDurable = false ∧ s.hbMode = 1 ∧ s.hbState (1 - n) = hbInService ∧ s.started = true ∧ s.pfPhase = pfIdle ∧
      s.pf.stage0Held = false
    (∀ cid c u bs ct, (s.hb n).cmds.find? (fun c => c.cid = cid) = some c → c.op = .writeUnit u bs → (s.hb n).cart = some ct →
      (s.hb n).logSinceCkpt + (bs.map blockSpan).sum < 262144 → (s.hb n).ejecting = false → s.rungPhase ≠ rpEntering →
      ∃ t, exec (.nvmeCompletion k cid true) s = .next t ∧ (t.hb n).cart = some (appendBlocks ct bs) ∧
        (t.hb n).cmds = (s.hb n).cmds.filter (fun c => c.cid != cid) ∧ t.hb (1 - n) = s.hb (1 - n) ∧ t.fuller = s.fuller ∧
        t.crown = s.crown ∧ t.pcs = s.pcs) ∧
    (∀ cid ok, (s.hb n).cmds.find? (fun c => c.cid = cid) = none →
      exec (.nvmeCompletion k cid ok) s = .next s ∧ exec (.nvmeCmdTimeout k cid) s = .next s) ∧
    (∀ cid c, (s.hb n).cmds.find? (fun x => x.cid = cid) = some c →
      ((s.hb n).resetting = false → c.aborted = false → c.op ≠ .format →
        ∃ t, exec (.nvmeCmdTimeout k cid) s = .next t ∧ t.holds (srcHbTimeout n) ∧
          (t.hb n).cmds = (s.hb n).cmds.map (fun x => if x.cid = cid then { x with aborted := true } else x) ∧
          (t.hb n).cart = (s.hb n).cart ∧ t.crown = s.crown ∧ t.pcs = s.pcs ∧ t.fuller = s.fuller) ∧
      ((s.hb n).resetting = false → c.aborted = true → (s.hb n).cart.isSome = true → st ≠ hbAbsent → st ≠ hbFailed → st ≠ hbEjected →
        ∃ t, exec (.nvmeCmdTimeout k cid) s = .next t ∧ t.holds (srcHbTimeout n) ∧ (t.hb n).resetting = true ∧
          t.hbr n HB.STATUS.EVENT = 3 ∧ (t.hb n).cart = (s.hb n).cart ∧ t.crown = s.crown ∧ t.pcs = s.pcs ∧ t.fuller = s.fuller) ∧
      ((s.hb n).resetting = true → other →
        ∃ t, exec (.nvmeCmdTimeout k cid) s = .next t ∧ t.hbState n = hbFailed ∧ t.holds (srcHbFailed n) ∧ (t.hb n).cmds = [] ∧
          t.crown = s.crown)) ∧
    (∀ (speed : BitVec 2) (wide : Bool) (cart : Cart), s.linksRun = true → st = hbAbsent → (s.hb n).cart = none → speed ≠ 3 →
      (s.dawnDone 7 = false → ∃ t, exec (.hbLinkUp k speed wide true cart) s = .next t ∧ (t.hb n).cart = some cart ∧
        t.hbr n HB.STATUS.SPEED = speed.toNat ∧ t.hbState n = hbAbsent ∧
        t.flag (base.hb n) HB.STATUS.DEGRADED = (speed != 0 || !wide) ∧ t.crown = s.crown ∧ t.pcs = s.pcs ∧ t.fuller = s.fuller) ∧
      (s.dawnDone 6 = true → s.dawnDone 7 = true → cart.super = none → other →
        ∃ t, exec (.hbLinkUp k speed wide true cart) s = .next t ∧ (t.hb n).cart = some cart ∧ t.hbState n = hbForeign ∧
          t.holds (srcHbForeign n) ∧ t.crown = s.crown ∧ t.fuller = s.fuller)) ∧
    (other →
      (st ≠ hbAbsent → st ≠ hbEjected → st ≠ hbFailed → ∃ t, exec (.hbLinkDown k false) s = .next t ∧ t.hbState n = hbFailed ∧
        t.hbr n HB.STATUS.SPEED = 3 ∧ t.holds (srcHbFailed n) ∧ (t.hb n).cart = (s.hb n).cart ∧ (t.hb n).cmds = [] ∧
        t.crown = s.crown) ∧
      ((s.hb n).cart.isSome = true → ∃ t, exec (.hbLinkDown k true) s = .next t ∧ t.hbState n = hbAbsent ∧ (t.hb n).cart = none ∧
        t.hbr n HB.STATUS.SPEED = 3 ∧ (t.hb n).cmds = [] ∧ t.crown = s.crown ∧
        (st ≠ hbEjected → st ≠ hbFailed → st ≠ hbAbsent → t.holds (srcHbFailed n))) ∧
      (s.linksRun = true → st = hbAbsent → s.hbr n HB.STATUS.SPEED = 3 → (s.hb n).cart.isSome = true →
        ∃ t, exec (.hbLinkTrainTimeout k) s = .next t ∧ t.hbState n = hbFailed ∧ t.holds (srcHbFailed n) ∧
          (t.hb n).cart = (s.hb n).cart ∧ t.crown = s.crown)) ∧
    (st ≠ hbAbsent → exec (.hbLinkTrainTimeout k) s = .next s) ∧
    ((s.hb n).cart.isSome = true → st ≠ hbAbsent → st ≠ hbFailed → st ≠ hbEjected →
      ∃ t, exec (.controllerFatalStatus k) s = .next t ∧ t.hbr n HB.STATUS.EVENT = 3 ∧
        (t.hb n).resetting = !(s.hb n).cmds.isEmpty ∧ (t.hb n).cmds = (s.hb n).cmds.map (fun c => { c with aborted := false }) ∧
        (t.hb n).cart = (s.hb n).cart ∧ t.hbState n = st ∧ t.crown = s.crown ∧ t.pcs = s.pcs ∧ t.fuller = s.fuller) ∧
    ((s.hb n).cart = none → exec (.controllerFatalStatus k) s = .next s) ∧
    (∀ rail : Fin 12, ∃ t, exec (.supplyOvervolt rail) s = .next t ∧ t.holds (srcSupply rail) ∧ t.regs = s.regs ∧ s.sameStore t.toDev)

/-- Rungs (R394-R404): Dusk is entered when the device is quiet, every refresh debt paid; a wake event, the wake timer
and a request for Noon bring it back; a request for Night is held until the device is quiet, and given up at its
time-out; a request for Midnight starts its flush; the Midnight wake starts the exit; a request that coincides with
other work is BUSY. Where its clauses rest on a choice of the model and not on the spec's words, that is said in
notes/assumptions: entries 109, 122, 123, 124, 126. -/
def Obligations.Rungs : Prop :=
  ∀ s : State,
    (s.quiet = true → s.fuller.map = [] → s.fuller.jobs = [] → s.rungPhase = rpSteady →
      (∀ (p : Fin 128) (b : Fin 32), s.debt p b ≤ 16) → ∃ t, exec .duskEnter s = .next t ∧ t.rung = rungDusk ∧ t.rungPhase = rpSteady ∧ t.rd base.rung RUNG.STATUS.EVENT = 1 ∧
        (∀ (p : Fin 128) (b : Fin 32), t.debt p b = 0) ∧ t.crown = s.crown ∧ t.fuller = s.fuller ∧ t.hbs = s.hbs) ∧
    (s.pfPhase = pfIdle → s.rung = rungDusk ∨ s.rung = rungNight →
      (∀ src, src ≠ .carder → ∃ t, exec (.wakeEvent src) s = .next t ∧ t.rung = rungNoon ∧ t.rungPhase = rpSteady ∧
        t.rd base.rung RUNG.STATUS.WAKE_SRC = wakeCode src ∧ t.rd base.rung RUNG.STATUS.EVENT = 4 ∧
        (∀ n : Fin 6, (t.fp n).txIdle = false) ∧ t.crown = s.crown ∧ t.fuller = s.fuller) ∧
      (s.rung = rungNight → s.rd base.rung RUNG.WAKE_TIMER.MS ≠ 0 → ∃ t, exec .wakeTimerExpire s = .next t ∧ t.rung = rungNoon ∧
        t.rd base.rung RUNG.STATUS.WAKE_SRC = 7 ∧ t.crown = s.crown ∧ t.fuller = s.fuller)) ∧
    (s.rd base.rung RUNG.WAKE_TIMER.MS = 0 → exec .wakeTimerExpire s = .next s) ∧
    (s.pfPhase = pfIdle → s.rung = rungNoon → s.rungPhase = rpSteady → ∀ src, exec (.wakeEvent src) s = .next s) ∧
    (∀ src, s.asleep = false ∨ s.wakesMidnight src = false → exec (.midnightWake src) s = .next s) ∧
    (∀ src, s.asleep = true → s.pf.thaltSafe = true → s.wakesMidnight src = true → s.coolEnough = true → s.dawnDone 10 = true →
      ∃ t, exec (.midnightWake src) s = .next t ∧ t.rungPhase = rpExiting ∧ t.rd base.rung RUNG.STATUS.WAKE_SRC = wakeCode src ∧
        t.pfPhase = pfIdle ∧ t.power.crownOn = true ∧ t.crown = [] ∧ t.flag base.pf PF.RST_STATUS.MIDNIGHT = true) ∧
    (s.asleep = false → s.rungBusy = false →
      (s.rung = rungNoon → s.rungPhase = rpHeld → ∃ t, exec .rungReqNoon s = .next t ∧ t.rung = rungNoon ∧ t.rungPhase = rpSteady ∧
        t.rd base.rung RUNG.STATUS.PENDING = 0 ∧ t.rd base.rung RUNG.STATUS.RESULT = 0 ∧ t.flag base.rung RUNG.REQ.GO = false ∧
        s.sameStore t.toDev) ∧
      (s.rung = rungDusk → s.rungPhase = rpSteady → ∃ t, exec .rungReqNoon s = .next t ∧ t.rung = rungNoon ∧
        t.rd base.rung RUNG.STATUS.WAKE_SRC = 8 ∧ t.rd base.rung RUNG.STATUS.RESULT = 0 ∧ t.flag base.rung RUNG.REQ.GO = false ∧
        t.crown = s.crown) ∧
      (s.rungPhase ≠ rpEntering → ∃ t, exec .rungReqNight s = .next t ∧ t.rungPhase = rpHeld ∧
        t.rd base.rung RUNG.STATUS.PENDING = 2 ∧ t.rd base.rung RUNG.STATUS.RESULT = s.rd base.rung RUNG.STATUS.RESULT ∧
        t.flag base.rung RUNG.REQ.GO = false ∧ t.rung = s.rung ∧ s.sameStore t.toDev) ∧
      (s.rung = rungNoon → s.rungPhase = rpSteady → ∃ t, exec .rungReqMidnight s = .next t ∧ t.rungPhase = rpEntering ∧
        t.pfPhase = pfDrain ∧ t.pfCause = 3 ∧ t.pf.drainWindow = true ∧ t.flag base.rung RUNG.REQ.GO = false ∧ t.crown = s.crown)) ∧
    (s.rungBusy = true →
      (∀ c ∈ [Instr.rungReqNight, .rungReqMidnight], ∃ t, exec c s = .next t ∧ t.rd base.rung RUNG.STATUS.RESULT = 1 ∧
        t.rd base.rung RUNG.STATUS.EVENT = 6 ∧ t.flag base.rung RUNG.REQ.GO = false ∧ t.rung = s.rung ∧ t.rungPhase = s.rungPhase ∧
        s.sameStore t.toDev) ∧
      (s.asleep = false → ∃ t, exec .rungReqNoon s = .next t ∧ t.rd base.rung RUNG.STATUS.RESULT = 1 ∧
        t.rd base.rung RUNG.STATUS.EVENT = 6 ∧ t.rung = s.rung ∧ s.sameStore t.toDev)) ∧
    (s.rungPhase = rpHeld → s.rd base.rung RUNG.STATUS.PENDING = 2 →
      (s.quiet = true → ∃ t, exec .nightEnter s = .next t ∧ t.rungPhase = rpEntering ∧ t.rung = rungNoon ∧ t.crown = s.crown ∧
        t.pcs = s.pcs ∧ t.fuller = s.fuller ∧ (s.fuller.map ≠ [] → t.power.entryStep = 1 ∧ t.hbs = s.hbs) ∧
        (s.fuller.map = [] → s.fuller.jobs = [] → s.epState ≠ epSealing → t.power.entryStep = 2 ∧
          ∀ n ∈ s.hbAwake, ∃ c ∈ (t.hb n).cmds, c.op = .flush)) ∧
      (∃ t, exec .nightReqTimeout s = .next t ∧ t.rungPhase = rpSteady ∧ t.rd base.rung RUNG.STATUS.PENDING = 0 ∧
        t.rd base.rung RUNG.STATUS.RESULT = 2 ∧ t.rd base.rung RUNG.STATUS.EVENT = 6 ∧ t.rung = s.rung ∧ s.sameStore t.toDev)) ∧
    (s.rungPhase ≠ rpHeld → exec .nightEnter s = .next s ∧ exec .nightReqTimeout s = .next s)

/-- The power governor and the thermal levels (R405-R407, R409): above the budget the level rises, and at 15 GOV_LIMIT
is raised; the tenth interval in a row that lies more than 2 W below it lowers the level; the level of a throttled
quadrant rises while it is hot and falls once the quadrant is not throttled. Where its clauses rest on a choice of the
model and not on the spec's words, that is said in notes/assumptions: entry 125. -/
def Obligations.Governor : Prop :=
  ∀ s : State,
    (∀ (p100 inst : Nat) (quads : List Nat), s.rung = rungNoon → s.flag base.gov GOV.CFG.POINT_EN = false → p100 < 4096 →
      let b := 10 * s.rd base.gov GOV.CFG.BUDGET
      let lv := s.rd base.gov GOV.STATUS.LEVEL
      ∃ t, exec (.govInterval p100 inst quads) s = .next t ∧ t.rd base.gov GOV.POWER.AVG = p100 ∧ s.sameStore t.toDev ∧
        (b < p100 → lv < 15 → t.rd base.gov GOV.STATUS.LEVEL = lv + 1 ∧ t.rd base.gov GOV.STATUS.EVENT = 1) ∧
        (b < p100 → lv = 15 → t.rd base.gov GOV.STATUS.LEVEL = 15 ∧ t.rd base.gov GOV.STATUS.EVENT = 3 ∧ t.holds srcGovLimit) ∧
        (p100 + 20 < b → s.power.belowCount = 9 → 0 < lv →
          t.rd base.gov GOV.STATUS.LEVEL = lv - 1 ∧ t.rd base.gov GOV.STATUS.EVENT = 2 ∧ t.power.belowCount = 0) ∧
        (p100 + 20 < b → s.power.belowCount < 9 →
          t.rd base.gov GOV.STATUS.LEVEL = lv ∧ t.power.belowCount = s.power.belowCount + 1) ∧
        (p100 ≤ b → b ≤ p100 + 20 → t.rd base.gov GOV.STATUS.LEVEL = lv ∧ t.power.belowCount = 0)) ∧
    (∀ p100 inst quads, s.rung ≠ rungNoon → exec (.govInterval p100 inst quads) s = .next s) ∧
    ∀ q : Fin 4,
      (s.rung ≠ rungNoon → exec (.thermalLevelTick q) s = .next s) ∧
      (s.rung = rungNoon →
        let v := s.rd base.gov (thermFld q)
        ∃ t, exec (.thermalLevelTick q) s = .next t ∧ s.sameStore t.toDev ∧
          (s.therm.throttled.getLsbD q = false → t.rd base.gov (thermFld q) = v - 1) ∧
          (s.therm.throttled.getLsbD q = true →
            t.rd base.gov (thermFld q) = (if (quadSensors q).any (fun i => s.sensValid i && decide (s.throttleC + 8 ≤ s.temp i)) then
              min 15 (v + 1) else v)))

/-- Temperature sensors (R417-R419, R425, R426, R431): a plausible sample is the sensor's value, the third implausible
one in a row makes it BROKEN, and SENSOR_RESTORE brings it back; a plausible value at the shutdown limit cuts the
Crown and SerDes supplies and is latched. Where its clauses rest on a choice of the model and not on the spec's words,
that is said in notes/assumptions: entries 110, 111, 112, 113, 114. -/
def Obligations.Sensors : Prop :=
  ∀ (s : State) (i : Fin 80),
    (s.sensorsRun = true → s.sensState i ≠ sensBroken → s.pf.wakeHeld = false → s.dawnPhase ≠ dawnThermalWait →
      (∀ v, s.plausible i (BitVec.toInt v) = true → ∃ t, exec (.sensorSample i (.value v)) s = .next t ∧ t.temp i = v.toInt ∧
        t.sensState i = 0 ∧ t.rd base.therm (sensFld THERM.SENS.STRIKES i) = 0 ∧ t.crown = s.crown) ∧
      (∀ x, (x = .openOrShort ∨ ∃ v, x = .value v ∧ s.plausible i v.toInt = false) →
        ∃ t, exec (.sensorSample i x) s = .next t ∧ t.crown = s.crown ∧
          (2 ≤ s.rd base.therm (sensFld THERM.SENS.STRIKES i) → t.sensState i = sensBroken ∧ t.holds srcThermSensor) ∧
          (s.rd base.therm (sensFld THERM.SENS.STRIKES i) < 2 → t.sensState i = 1 ∧
            t.rd base.therm (sensFld THERM.SENS.STRIKES i) = s.rd base.therm (sensFld THERM.SENS.STRIKES i) + 1)) ∧
      (isRemote i = true → ∃ t, exec (.sensorSample i .shortedToReturn) s = .next t ∧ t.sensState i = sensAbsent ∧
        t.crown = s.crown)) ∧
    (s.sensState i = sensBroken → s.pf.wakeHeld = false → s.dawnPhase ≠ dawnThermalWait →
      ∀ x, exec (.sensorSample i x) s = .next s) ∧
    (∃ t, exec (.sensorRestore i) s = .next t ∧ t.sensState i = (if s.sensState i = sensBroken then 0 else s.sensState i) ∧
      t.rd base.therm (sensFld THERM.SENS.STRIKES i) = 0 ∧ t.flag base.therm (sensFld THERM.SENS.RESTORE i) = false ∧
      s.sameStore t.toDev) ∧
    ∀ v : BitVec 11, s.batt.held = none →
      let trips := if isBrim i then decide (s.brimMaxC ≤ v.toInt) else isCore i && decide (s.tshutC ≤ v.toInt)
      (trips = false → exec (.tshutCut i v) s = .next s) ∧
      (trips = true → s.sensState i ≠ sensBroken → s.plausible i v.toInt = true → s.sensorsRun = true → s.therm.cut = false →
        s.therm.latch.length < 4 →
        ∃ t, exec (.tshutCut i v) s = .next t ∧ t.therm.cut = true ∧ t.crown = [] ∧ t.power.crownOn = false ∧ t.power.serdesOn = false ∧
          t.pfPhase = pfIdle ∧ t.therm.latch = s.therm.latch ++ [⟨if isBrim i then 2 else 1, i, v, BitVec.ofNat 32 (s.now / 1000000000)⟩] ∧
          ∀ n : Fin 2, (t.hb n).cart = (s.hb n).cart ∧ (t.hb n).cmds = [])

/-- The staging buffer of the Batt image (R61, R62, R71, R72): a master that may reaches it claims it; a word goes to,
or comes from, the address of STAGE_ADDR, which moves on; the owner, or 10 s of silence, frees it; OWNER, another
master's claim and a command that runs leave it as it stands. Where its clauses rest on a choice of the model and not
on the spec's words, that is said in notes/assumptions: entry 131. -/
def Obligations.BattStaging : Prop :=
  ∀ (s : State) (m : Master),
    (s.ownerBars m base.batt = true → ∀ (w : Option Word), ∀ c ∈ [Instr.battStageData m w, .battStageAddr m w, .battRelease m,
      .battValidate m, .battApply m, .battApplyStore m], exec c s = .next s) ∧
    (s.ownerBars m base.batt = false → s.battOpen m = false → ∀ (w : Option Word), ∀ c ∈ [Instr.battStageData m w, .battStageAddr m w,
      .battValidate m, .battApply m, .battApplyStore m], exec c s = .next s) ∧
    (s.ownerBars m base.batt = false → s.battOpen m = true → s.battRuns = false →
      (∀ v, ∃ t, exec (.battStageData m (some v)) s = .next t ∧ t.battOwns m = true ∧
        t.batt.staging.get (fun _ => 0) s.stageAt = v ∧ (∀ i, i ≠ s.stageAt → t.batt.staging.get (fun _ => 0) i =
          s.batt.staging.get (fun _ => 0) i) ∧ t.rd base.batt BATT.STAGE_ADDR.ADDR = 4 * (s.stageAt + 1) % 2 ^ 16 ∧ t.crown = s.crown ∧
        t.pcs = s.pcs ∧ t.fuller = s.fuller ∧ t.hbs = s.hbs) ∧
      (∃ t, exec (.battStageData m none) s = .next t ∧ t.battOwns m = true ∧
        t.rd base.batt BATT.STAGE_ADDR.ADDR = 4 * (s.stageAt + 1) % 2 ^ 16 ∧ s.sameStore t.toDev) ∧
      (∀ v : Word, ∃ t, exec (.battStageAddr m (some v)) s = .next t ∧ t.battOwns m = true ∧
        t.rd base.batt BATT.STAGE_ADDR.ADDR = v.toNat / 4 * 4 % 2 ^ 16 ∧ s.sameStore t.toDev) ∧
      (∃ t, exec (.battStageAddr m none) s = .next t ∧ t.battOwns m = true ∧
        t.rd base.batt BATT.STAGE_ADDR.ADDR = s.rd base.batt BATT.STAGE_ADDR.ADDR ∧ s.sameStore t.toDev)) ∧
    (s.ownerBars m base.batt = false →
      (s.battOwns m = true → ∃ t, exec (.battRelease m) s = .next t ∧ t.rd base.batt BATT.STAGE_OWNER.OWNER = 0 ∧
        t.rd base.batt BATT.STAGE_OWNER.NODE = 0 ∧ s.sameStore t.toDev) ∧
      (s.battOwns m = false → exec (.battRelease m) s = .next s)) ∧
    ∃ t, exec .battStageTimeout s = .next t ∧ t.rd base.batt BATT.STAGE_OWNER.OWNER = 0 ∧
      t.rd base.batt BATT.STAGE_OWNER.NODE = 0 ∧ s.sameStore t.toDev

/-- Batt commands (R57, R63-R67, R69, R70, R72): the result of the checks is shown; a VALIDATE ends there, an APPLY
quiesces the scopes that differ, an APPLY_STORE first writes its slot; the quiesced scopes take the image into force;
a command behind another is held, and one that BATT_PUSH excludes, or that comes at a bad time, is turned away. Where
its clauses rest on a choice of the model and not on the spec's words, that is said in notes/assumptions: entries 18,
103, 129, 130, 132, 133, 134. -/
def Obligations.BattCommands : Prop :=
  ∀ s : State,
    (∀ m : Master, s.ownerBars m base.batt = false → s.battOpen m = true →
      (s.battRuns = true ∨ s.batt.held ≠ none → ∀ c ∈ [Instr.battValidate m, .battApply m, .battApplyStore m], ∃ t, exec c s = .next t ∧
        t.batt.held = some m ∧ t.batt.cmd = s.batt.cmd ∧ t.flag base.batt BATT.CMD.GO = true ∧ t.battOwns m = true ∧
        t.battState = s.battState ∧ t.crown = s.crown ∧ t.pcs = s.pcs ∧ t.fuller = s.fuller ∧ t.hbs = s.hbs) ∧
      (s.battRuns = false → s.batt.held = none → s.dawnDone 6 = true → (s.item itBattPush 0).testBit (masterCode m - 1) = false →
        ∀ c ∈ [Instr.battValidate m, .battApply m, .battApplyStore m], ∃ t, exec c s = .next t ∧
          t.rd base.batt BATT.STATUS.RESULT = 0xC ∧ t.battState = battIdle ∧ t.batt.cmd = none ∧ t.batt.active = s.batt.active ∧
          t.crown = s.crown ∧ t.pcs = s.pcs ∧ t.fuller = s.fuller ∧ t.hbs = s.hbs) ∧
      (s.battRuns = false → s.batt.held = none → s.dawnDone 6 = true → (s.item itBattPush 0).testBit (masterCode m - 1) = true → s.rung = rungNoon →
        s.rungPhase = rpSteady → s.pfPhase = pfIdle →
        let r := battCheck s.stagedBytes s.battCtx
        (∃ t, exec (.battValidate m) s = .next t ∧ t.batt.active = s.batt.active ∧ t.battState = battIdle ∧ t.batt.cmd = none ∧
          t.crown = s.crown ∧ t.pcs = s.pcs ∧ t.fuller = s.fuller ∧ t.hbs = s.hbs ∧
          (∀ im, r = .inl im → t.rd base.batt BATT.STATUS.RESULT = 0) ∧
          ∀ f, r = .inr f → t.rd base.batt BATT.STATUS.RESULT = f.code % 16 ∧ t.rd base.batt BATT.STATUS.SECTION = f.sec % 256 ∧
            t.rd base.batt BATT.FAIL_OFFSET.OFFSET = f.off % 65536) ∧
        (∃ t, exec (.battApply m) s = .next t ∧
          (∀ f, r = .inr f → t.rd base.batt BATT.STATUS.RESULT = f.code % 16 ∧ t.batt.active = s.batt.active ∧ t.crown = s.crown) ∧
          ∀ im, r = .inl im → (s.scopesOf im).codes ≠ [] →
            (s.structuralBusy = false → t.battState = 3 ∧ t.batt.cmd = some (im, false) ∧ t.batt.starter = some m ∧
              t.batt.quiesced = (s.scopesOf im).codes ∧ t.batt.active = s.batt.active ∧ t.crown = s.crown) ∧
            ((s.scopesOf im).any = true → s.structuralBusy = true → t.rd base.batt BATT.STATUS.RESULT = 9 ∧
              t.batt.active = s.batt.active ∧ t.crown = s.crown)) ∧
        ∃ t, exec (.battApplyStore m) s = .next t ∧ t.batt.active = s.batt.active ∧ t.crown = s.crown ∧
          (∀ f, r = .inr f → t.rd base.batt BATT.STATUS.RESULT = f.code % 16) ∧
          ∀ im, r = .inl im → s.structuralBusy = false →
            (s.mgmt.norUsable = true → t.battState = 5 ∧ t.batt.cmd = some (im, true) ∧ t.batt.starter = some m) ∧
            (s.mgmt.norUsable = false → t.rd base.batt BATT.STATUS.RESULT = 0xA ∧ t.battState = battIdle))) ∧
    (∀ im m, s.batt.cmd = some (im, true) → s.batt.held = some m → s.dawnDone 6 = true →
      ∃ t, exec (.battStoreDone false) s = .next t ∧ t.batt.held = none ∧ t.flag base.batt BATT.CMD.GO = false) ∧
    (∀ im, s.batt.cmd = some (im, true) → s.batt.held = none →
      (∃ t, exec (.battStoreDone false) s = .next t ∧ t.rd base.batt BATT.STATUS.RESULT = 0xA ∧ t.battState = battIdle ∧
        t.batt.cmd = none ∧ t.batt.active = s.batt.active ∧ t.crown = s.crown ∧ t.pcs = s.pcs ∧ t.fuller = s.fuller) ∧
      ((s.scopesOf im).codes ≠ [] → ∃ t, exec (.battStoreDone true) s = .next t ∧ t.battState = 3 ∧ t.batt.cmd = some (im, false) ∧
        t.batt.quiesced = (s.scopesOf im).codes ∧ (∀ i, i < im.bytes.length →
          t.norByte (battSlotBase s.batt.storeSlot.toNat + i) = (im.bytes.getD i 0).toNat) ∧ t.crown = s.crown ∧ t.pcs = s.pcs ∧
        t.fuller = s.fuller)) ∧
    (∀ im, s.batt.cmd = some (im, false) → s.batt.held = none →
      (s.batt.quiesced.all s.scopeQuiet = true → ∃ t, exec .battQuiesceDone s = .next t ∧ t.batt.active = some im ∧ t.batt.cmd = none ∧
        t.batt.quiesced = [] ∧ t.rd base.batt BATT.STATUS.RESULT = 0 ∧ t.battState = battIdle) ∧
      (s.batt.quiesced.all s.scopeQuiet = false → exec .battQuiesceDone s = .next s)) ∧
    (s.batt.cmd = none → s.batt.held = none → exec .battQuiesceDone s = .next s ∧ ∀ ok, exec (.battStoreDone ok) s = .next s)

/-- Dawn (R395, R506-R520): power-up, power-good and RESET_N begin it anew, and what lasts without supplies lasts; the
reported end of a step is shown and starts what depends on it; hold and release; a PLL that does not lock stops it;
the zero-fill, and the choice to serve non-durably. Where its clauses rest on a choice of the model and not on the
spec's words, that is said in notes/assumptions: entries 90, 96, 97, 107, 121. -/
def Obligations.Dawn : Prop :=
  ∀ s : State,
    (∃ t, exec .powerUp s = .next t ∧ t.power.vaux = true ∧ t.power.inRange = false ∧ t.regs = [] ∧ t.crown = [] ∧
      t.otp.words = s.otp.words ∧ t.mgmt.nor = s.mgmt.nor ∧ t.ecc.fuses = s.ecc.fuses ∧
      (s.mgmt.jrnlOpen = none → t.mgmt.journal = s.mgmt.journal) ∧
      (∀ r, s.mgmt.jrnlOpen = some r → t.mgmt.journal = { r with torn := true } :: s.mgmt.journal) ∧ ∀ n : Fin 2, (t.hb n).cart = (s.hb n).cart) ∧
    (∀ straps,
      (s.power.inRange = true → s.power.resetN = true → exec (.powerGood straps) s = .next s) ∧
      (s.power.inRange = false ∨ s.power.resetN = false → ∃ t, exec (.powerGood straps) s = .next t ∧ t.power.inRange = true ∧
        t.power.resetN = true ∧ t.power.crownOn = true ∧ t.power.goodAt = s.now ∧ t.otp.held = true ∧ t.mgmt.straps = straps ∧
        (∀ k, t.dawnDone k = false) ∧ (∀ a, a < base.dawn ∨ base.dawn + 0x14 ≤ a → t.reg a = s.reg a) ∧ t.crown = s.crown ∧
        t.hbs = s.hbs)) ∧
    (∃ t, exec .resetAssert s = .next t ∧ t.power.resetN = false ∧ t.crown = [] ∧ t.now = s.now ∧ t.otp.words = s.otp.words ∧
      t.therm.latch = s.therm.latch ∧
      (∀ a, a ≠ base.therm + THERM.STATUS.THERM_N.off → t.reg a = if aonKept a then s.reg a else resetWord a) ∧
      t.flag base.therm THERM.STATUS.THERM_N = !s.therm.latch.isEmpty ∧
      ∀ n : Fin 2, (t.hb n).cart = (s.hb n).cart) ∧
    (s.dawnLive = true → s.batt.held = none →
      (∀ units, s.dawnDone 1 = false → ∃ t, exec (.dawnStepEnd 1 ⟨false, units⟩) s = .next t ∧ t.dawnDone 1 = true ∧
        t.rd base.clk CLK.PLL.reg = 0x1FFF ∧ t.coreState = coreBoot ∧ t.pf.auditing = true ∧ t.crown = s.crown) ∧
      (s.dawnDone 1 = false → ∀ c ∈ [Instr.pllLockTimeout, .dawnStepEnd 1 ⟨true, []⟩], ∃ t, exec c s = .next t ∧
        t.dawnPhase = dawnStopped ∧ t.rd base.dawn DAWN.STATUS.FAILSTEP = 1 ∧ t.flag base.fault FAULT.ERRN.ASSERTED = true ∧
        t.coll.errAon = true ∧ s.sameStore t.toDev) ∧
      (∀ units, s.dawnDone 1 = true → s.dawnDone 2 = false → ∃ t, exec (.dawnStepEnd 2 ⟨false, units⟩) s = .next t ∧
        t.dawnDone 2 = true ∧ t.crown = s.crown ∧ t.pcs = s.pcs ∧ t.fuller = s.fuller ∧ t.hbs = s.hbs) ∧
      (s.dawnDone 2 = true → s.dawnDone 3 = false → s.therm.latch = [] → ∃ t, exec (.dawnStepEnd 3 ⟨false, []⟩) s = .next t ∧
        t.dawnDone 3 = true ∧ t.rd base.dawn DAWN.COUNT.COUNT = s.dawnCount ∧ t.otp.held = false ∧ t.mgmt.norUsable = true ∧
        (s.otp.waiting = none → t.otp.words = s.otp.words) ∧ t.crown = s.crown) ∧
      (s.dawnDone 1 = true → s.dawnDone 4 = false → ∃ t, exec (.dawnStepEnd 4 ⟨false, []⟩) s = .next t ∧ t.dawnDone 4 = true ∧
        t.rd base.bist BIST.ANALOG.FAIL % 16 = 0 ∧ t.crown = s.crown ∧ (s.dawnDone 6 = false ∨ s.held = true → s.sameStore t.toDev)) ∧
      (s.dawnDone 2 = true → s.dawnDone 3 = true → s.dawnDone 5 = false → s.coreState = coreRuns →
        ∃ t, exec (.dawnStepEnd 5 ⟨false, []⟩) s = .next t ∧ t.dawnDone 5 = true ∧ t.battState = 1 ∧
          t.rd base.dawn DAWN.TIME0.FIRMWARE = s.tenths ∧ s.sameStore t.toDev) ∧
      (s.dawnDone 5 = true → s.dawnDone 6 = false →
        ∃ t, exec (.dawnStepEnd 6 ⟨false, []⟩) s = .next t ∧ t.dawnDone 6 = true ∧ t.crown = s.crown ∧
          (∀ im slot, s.dawnImage = some (im, slot) → t.batt.active = some im ∧ t.rd base.batt BATT.STATUS.SOURCE = slot % 4 ∧
            t.rd base.batt BATT.STATUS.RESULT = 0) ∧
          (s.dawnImage = none → t.batt.active = none ∧
            t.dawnPhase = (if t.tooHot || t.tooCold then dawnThermalWait else dawnNoImage))) ∧
      (s.dawnDone 2 = true → s.dawnDone 4 = true → s.dawnDone 6 = false → s.dawnDone 7 = false → s.rungPhase = rpSteady →
        ∃ t, exec (.dawnStepEnd 7 ⟨false, []⟩) s = .next t ∧ t.dawnDone 7 = true ∧ s.sameStore t.toDev) ∧
      (s.dawnDone 2 = true → s.dawnDone 6 = true → s.dawnDone 8 = false → s.anyTraining = false → s.dawnPhase ≠ dawnThermalWait →
        ∃ t, exec (.dawnStepEnd 8 ⟨false, []⟩) s = .next t ∧ t.dawnDone 8 = true ∧ t.crown = s.crown ∧ t.pcs = s.pcs ∧
          t.fuller = s.fuller ∧ t.hbs = s.hbs) ∧
      (s.dawnDone 4 = true → s.dawnDone 6 = true → s.dawnDone 9 = false → s.held = false → s.fabricSettled = true →
        ∃ t, exec (.dawnStepEnd 9 ⟨false, []⟩) s = .next t ∧ t.dawnDone 9 = true ∧ s.sameStore t.toDev) ∧
      (s.dawnDone 10 = false → ∀ rep, exec (.dawnStepEnd 10 rep) s = if s.pf.zeroFill then exec .zeroFillDone s else exec .restoreStart s) ∧
      ∀ (k : Fin 11) (rep : StepReport), k.val ≠ 0 → s.dawnDone k = true → exec (.dawnStepEnd k rep) s = .next s) ∧
    (s.dawnLive = false → s.batt.held = none → exec .pllLockTimeout s = .next s ∧ ∀ (k : Fin 11) (rep : StepReport), exec (.dawnStepEnd k rep) s = .next s) ∧
    (s.dawnDone 4 = false ∨ s.dawnDone 6 = false → s.held = false → s.dawnPhase ≠ dawnStopped → s.dawnDone 10 = false →
      ∃ t, exec .dawnHold s = .next t ∧ t.held = true ∧ t.mgmt.jtagIr = 0x11 ∧
        t.dawnPhase = (if s.dawnPhase = dawnRunning then dawnHeld else s.dawnPhase) ∧ s.sameStore t.toDev) ∧
    (s.dawnDone 4 = true → s.dawnDone 6 = true → exec .dawnHold s = .next { s with toDev := s.jtagLoad 0x11 0 }) ∧
    (s.held = true → s.dawnDone 6 = false → s.rungPhase = rpSteady → ∃ t, exec .dawnRelease s = .next t ∧ t.held = false ∧
      t.mgmt.jtagIr = 0x12 ∧ t.dawnPhase = (if s.dawnPhase = dawnHeld then dawnRunning else s.dawnPhase) ∧ s.sameStore t.toDev) ∧
    (s.held = false → exec .dawnRelease s = .next { s with toDev := s.jtagLoad 0x12 0 }) ∧
    (s.pf.zeroFill = true → s.pfPhase = pfIdle → s.rungPhase = rpSteady → s.hbState 0 ≠ hbResync → s.hbState 1 ≠ hbResync →
      ∃ t, exec .zeroFillDone s = .next t ∧ t.crown = [] ∧ t.pf.zeroFill = false ∧ t.dawnDone 10 = true ∧ t.dawnPhase = dawnReady ∧
        (∀ p : Fin 128, t.pcState p = (if s.pcState p = pcInit then pcServing else s.pcState p)) ∧
        (s.pf.serveNd = true → t.holds srcNondurable)) ∧
    (s.pf.zeroFill = false → exec .zeroFillDone s = .next s) ∧
    (s.dawnPhase = dawnWaitHatbox → ∃ t, exec .serveNondurable s = .next t ∧ t.pf.zeroFill = true ∧ t.pf.serveNd = true ∧
      t.flag base.dawn DAWN.CTL.SERVE_NONDURABLE = false ∧ t.dawnPhase = (if s.held then dawnHeld else dawnRunning) ∧
      t.crown = s.crown ∧ t.pcs = s.pcs ∧ t.fuller = s.fuller ∧ t.hbs = s.hbs) ∧
    (s.dawnPhase ≠ dawnWaitHatbox →
      exec .serveNondurable s = .next { s with toDev := s.put base.dawn DAWN.CTL.SERVE_NONDURABLE 0 })

/-- Faults (R453-R456, R461-R463, R465-R469): an event that the collector samples counts and, by its source's
reaction, fills or merges into the capture, is passed to INT, drives ERR_N, or resets the chip; integrity faults
silence a source until it recovers; a forced event signals as its source does; a handled capture is free again; ERR_N
and ALERT keep their times. Where its clauses rest on a choice of the model and not on the spec's words, that is said
in notes/assumptions: entries 128, 140, 141, 142, 143, 144. -/
def Obligations.Faults : Prop :=
  ∀ (s : State) (i : Fin 512),
    let n := i.val
    (srcImpl n = false → exec (.faultEvent i none) s = .next s ∧ exec (.faultIntegrity i) s = .next s ∧
      exec (.faultForce i) s = .next s) ∧
    (s.collectorOn = true → srcImpl n = true → s.srcFlag n FAULT.SRC.INTEGRITY = false → s.mgmt.buffer.length < 256 →
      ∀ g, s.heldEvent n = some g → g.sampled = false → g.info.forced = false →
        let r := s.srcr n FAULT.SRC.REACT
        (r = 0 → ∃ t, exec (.faultEvent i none) s = .next t ∧ t.heldEvent n = none ∧
          t.srcr n FAULT.SRC.COUNT = min 65535 (s.srcr n FAULT.SRC.COUNT + 1) ∧ t.mgmt.buffer.length = s.mgmt.buffer.length + 1 ∧
          s.sameStore t.toDev) ∧
        (r = actInt → s.rung = rungNoon → s.rungPhase = rpSteady →
          ∃ t, exec (.faultEvent i none) s = .next t ∧ t.unhandled = true ∧ t.flag base.fault FAULT.CAP0.INT_PENDING = true ∧
            (s.unhandled = false → t.rd base.fault FAULT.CAP0.SOURCE = n ∧ t.rd base.fault FAULT.CAP1.MERGED = 0) ∧
            (s.unhandled = true → t.rd base.fault FAULT.CAP0.SOURCE = s.rd base.fault FAULT.CAP0.SOURCE ∧
              t.rd base.fault FAULT.CAP1.MERGED = min 65535 (s.rd base.fault FAULT.CAP1.MERGED + 1)) ∧ s.sameStore t.toDev) ∧
        (r = actErrPin → s.rung = rungNoon → s.rungPhase = rpSteady → s.flag base.fault FAULT.ERRN.ALERT_EN = false →
          ∃ t, exec (.faultEvent i none) s = .next t ∧ t.unhandled = true ∧ t.flag base.fault FAULT.ERRN.ASSERTED = true ∧
            t.coll.errMin = true ∧ s.sameStore t.toDev) ∧
        (r = actChipReset → s.rung = rungNoon → s.rungPhase = rpSteady →
          ∃ t, exec (.faultEvent i none) s = .next t ∧ t.rd base.fault FAULT.RESET_SRC.SOURCE = n ∧
            t.flag base.fault FAULT.RESET_SRC.VALID = true ∧ t.crown = [] ∧ (∀ k, t.dawnDone k = false) ∧
            ∀ k : Fin 2, (t.hb k).cart = (s.hb k).cart)) ∧
    (s.collectorOn = true → srcImpl n = true → s.srcFlag n FAULT.SRC.INTEGRITY = false →
      (∃ t, exec (.faultIntegrity i) s = .next t ∧ t.srcFlag n FAULT.SRC.INTEGRITY = true ∧ t.holds srcCollector ∧
        t.rd base.fault FAULT.INTEGRITY.COUNT = min 65535 (s.rd base.fault FAULT.INTEGRITY.COUNT + 1) ∧ s.sameStore t.toDev) ∧
      (s.heldEvent n = none → ∃ t, exec (.faultForce i) s = .next t ∧
        t.heldEvent n = some ⟨n, ⟨true, false, none, 0, 0⟩, false, false⟩ ∧ t.srcFlag n FAULT.SRC.FORCE = false ∧
        s.sameStore t.toDev)) ∧
    (s.srcFlag n FAULT.SRC.INTEGRITY = true → srcImpl n = true → s.collectorOn = true →
      exec (.faultEvent i none) s = .next { s with toDev := s.dropEvent n } ∧ exec (.faultIntegrity i) s = .next s) ∧
    (∃ t, exec (.integrityRecover i) s = .next t ∧ t.srcFlag n FAULT.SRC.INTEGRITY = false ∧ s.sameStore t.toDev ∧ t.coll = s.coll) ∧
    (s.heldEvent n = none → exec (.forcedEventEnd i) s = .next s ∧ exec (.faultEscalate i) s = .next s) ∧
    (∀ g, s.heldEvent n = some g → g.info.forced = true →
      (g.sampled = true → (g.info.real = false ∨ g.escalated = true) →
        exec (.forcedEventEnd i) s = .next { s with toDev := s.dropEvent n }) ∧
      (g.escalated = false → g.sampled = false → ∃ t, exec (.faultEscalate i) s = .next t ∧
        t.heldEvent n = some { g with info := { g.info with real := true } } ∧ t.regs = s.regs ∧ s.sameStore t.toDev) ∧
      (g.escalated = false → g.sampled = true → s.srcFlag n FAULT.SRC.FTEST = false → ∃ t, exec (.faultEscalate i) s = .next t ∧
        t.heldEvent n = some { g with info := { g.info with real := true }, escalated := true } ∧ t.regs = s.regs ∧
        s.sameStore t.toDev)) ∧
    (∀ (m : Master) (v : Word),
      (s.ownerBars m base.fault = true ∨ v.toNat % 256 ≠ s.rd base.fault FAULT.CAP0.SEQ → exec (.captureHandle m v) s = .next s) ∧
      (s.ownerBars m base.fault = false → v.toNat % 256 = s.rd base.fault FAULT.CAP0.SEQ →
        ∃ t, exec (.captureHandle m v) s = .next t ∧ t.unhandled = false ∧ t.flag base.fault FAULT.CAP0.INT_PENDING = false ∧
          t.coll.errHeld = false ∧ t.flag base.fault FAULT.ERRN.ASSERTED = (s.coll.errMin || s.coll.errAon) ∧
          t.rd base.fault FAULT.CAP0.SOURCE = s.rd base.fault FAULT.CAP0.SOURCE ∧ s.sameStore t.toDev)) ∧
    (s.coll.alertLast = none → exec .alertTimer s = .next { s with toDev := { s.toDev with coll := { s.coll with alertGap := false } } }) ∧
    (∀ g, s.coll.alertLast = some g → s.flag base.fault FAULT.ERRN.ALERT_EN = true → s.coll.alertGap = true →
      ∃ t, exec .alertTimer s = .next t ∧ t.coll.alertTag = s.coll.alertTag + 1 ∧ t.coll.alertCount = 0 ∧ t.coll.alertLast = none ∧
        t.coll.alertGap = true ∧ t.rd base.fault FAULT.ALERT_TX.COUNT = min 65535 (s.rd base.fault FAULT.ALERT_TX.COUNT + 1) ∧
        s.sameStore t.toDev) ∧
    (∃ t, exec .errnRelease s = .next t ∧ t.coll.errMin = false ∧
      t.flag base.fault FAULT.ERRN.ASSERTED = ((s.coll.errHeld && s.unhandled) || s.coll.errAon) ∧ s.sameStore t.toDev)

/-- The register interface over its four masters' paths (R5, R436, R535-R537, R551, R555): SCRATCH takes a write,
IDCODE reads, and of two writes in one cycle the higher master's is applied, the other gets PREEMPTED and the conflict
is recorded. Where its clauses rest on a choice of the model and not on the spec's words, that is said in
notes/assumptions: entries 35, 37, 152, 155. -/
def Obligations.RegisterAccess : Prop :=
  ∀ s : State, s.mgmt.late = [] → (∀ m, s.ownerBars m base.chipId = false) → s.shut = false → s.unclocked = false →
    (∀ w, ∃ t, exec (.registerWrite 0x000008 [(.core, w)]) s = .next t ∧ t.reg 8 = w ∧ t.mgmt.coreAnswer = (0, 0) ∧
      (∀ a, a ≠ 8 → t.reg a = s.reg a) ∧ t.crown = s.crown ∧ t.wide = s.wide) ∧
    (s.rd base.fault FAULT.CONFLICT.WINNER = 0 → ∀ w v,
      ∃ t, exec (.registerWrite 0x000008 [(.core, w), (.jtag, v)]) s = .next t ∧ t.reg 8 = v ∧
        t.mgmt.coreAnswer = (0, BitVec.ofNat 4 stPreempted) ∧ t.rd base.fault FAULT.CONFLICT.WINNER = 4 ∧
        t.rd base.fault FAULT.CONFLICT.LOSERS = 4 ∧ t.rd base.fault FAULT.CONFLICT_ADDR.ADDR = 8 ∧
        t.coll.signals.any (fun g => g.src = srcConflict) = true) ∧
    (∃ t, exec (.i3cRegRead [0x00, 0x00, 0x00, 0x00]) s = .next t ∧
      t.mgmt.readBuf = (bytesOf (s.reg 0).toNat 4).map (BitVec.ofNat 8) ++ [0] ∧ t.regs = s.regs) ∧
    (∀ x0 x1 x2 x3 : BitVec 8, ∃ t, exec (.i3cRegWrite [0x08, 0x00, 0x00, 0x01, x0, x1, x2, x3]) s = .next t ∧
      t.reg 8 = x3 ++ x2 ++ x1 ++ x0 ∧ t.mgmt.lastStatus = 0 ∧ ∀ a, a ≠ 8 → t.reg a = s.reg a) ∧
    (∃ t, exec (.mgmtAccess 0) s = .next t ∧ t.mgmt.jtagDr = BitVec.ofNat 64 ((s.reg 0).toNat + 2 ^ 36) ∧
      t.mgmt.jtagIr = 0x10 ∧ t.regs = s.regs) ∧
    ∀ w : BitVec 32, ∃ t, exec (.mgmtAccess ((0x01000008 : BitVec 32) ++ w)) s = .next t ∧ t.reg 8 = w ∧
      t.mgmt.jtagDr = 0x1000000000

/-- The mailbox (R545-R548): a free one is claimed by a transfer start, which latches the value; data accesses of the
claimant move word INDEX; a COMMIT stores the value and frees the claim; so do a release and the time-out. Where its
clauses rest on a choice of the model and not on the spec's words, that is said in notes/assumptions: entries 7, 36,
149. -/
def Obligations.Mailbox : Prop :=
  ∀ (s : State) (m : Master) (blk : BitVec 24) (t : Site) (mb : Nat), (∀ node, m ≠ .mgt node) → s.mgmt.late = [] →
    siteOf blk.toNat = some t → t.blk.mb = some mb → s.wakeFor t.domain = s.toDev → s.ownerBars m t.base = false →
    (∀ k w, s.barred m ⟨t.blk, t.base, mb + 4 * k⟩ w = false) →
    let x := s.mailbox t.base
    (∀ (v : BitVec 32) n rw, x.owner = none → v.getLsbD 17 = false → v.extractLsb' 0 16 ≠ 0 →
      wideOfSel t.blk (v.extractLsb' 0 16).toNat = some (n, rw) →
      ∃ u, exec (.mbxTransferStart m blk v) s = .next u ∧ u.mailbox t.base =
        ⟨v.extractLsb' 0 16, v.getLsbD 16, some m, true, false, (n + 31) / 32, 0, false,
          s.wideView t (v.extractLsb' 0 16).toNat⟩ ∧ u.regs = s.regs ∧ u.wide = s.wide) ∧
    (x.owner = some m → x.valid = true → x.dir = true → ∀ v n rw, wideOfSel t.blk x.selector.toNat = some (n, rw) →
      ∃ u, exec (.mbxDataAccess m blk (some v)) s = .next u ∧ u.mailbox t.base = { x with
        index := if x.index + 1 = x.words then 0 else x.index + 1
        latched := (x.latched - x.latched / 2 ^ (32 * x.index) % 2 ^ 32 * 2 ^ (32 * x.index) +
          v.toNat * 2 ^ (32 * x.index)) % 2 ^ n } ∧ u.wide = s.wide) ∧
    (x.owner = some m → x.dir = true → x.err = false → t.blk ≠ .perf → t.blk ≠ .pc →
      ∀ n, wideOfSel t.blk x.selector.toNat = some (n, true) →
      ∃ u, exec (.mbxCommit m blk) s = .next u ∧ u.wideOf t.base x.selector.toNat = x.latched % 2 ^ n ∧
        u.mailbox t.base = { x with owner := none, done := true } ∧ u.regs = s.regs) ∧
    (x.owner = some m → ∃ u, exec (.mbxRelease m blk) s = .next u ∧ (u.mailbox t.base).owner = none ∧
      u.wide = s.wide ∧ u.regs = s.regs) ∧
    ∃ u, exec (.mbxClaimTimeout blk) s = .next u ∧ (u.mailbox t.base).owner = none ∧ u.wide = s.wide ∧ u.regs = s.regs

/-- A write to a status register (R550): a matching SEQ is a write-back, which clears EVENT and keeps SEQ; another one
changes nothing. A crossing that does not complete in time (R543): TIMEOUT to the master, REG_TIMEOUT, and a write
stays queued. Where its clauses rest on a choice of the model and not on the spec's words, that is said in
notes/assumptions: entry 153. -/
def Obligations.StatusAndCrossing : Prop :=
  (∀ (s : State) (v : BitVec 32), s.mgmt.late = [] → s.shut = false → s.unclocked = false → (∀ b, s.ownerBars .core b = false) →
    ∀ x ∈ [(base.core, CORE.STATUS.SEQ, CORE.STATUS.EVENT), (base.i3c, I3C.STATUS.SEQ, I3C.STATUS.EVENT)],
      ∃ t, exec (.statusWriteBack .core (BitVec.ofNat 24 (x.1 + 4)) v) s = .next t ∧ t.rd x.1 x.2.1 = s.rd x.1 x.2.1 ∧
        t.rd x.1 x.2.2 = (if (v.extractLsb' 0 8).toNat = s.rd x.1 x.2.1 then 0 else s.rd x.1 x.2.2) ∧
        t.mgmt.coreAnswer = (0, 0) ∧ ∀ a, a ≠ x.1 + 4 → t.reg a = s.reg a) ∧
  (∀ (s : State) (addr : BitVec 24) (w : Option Word) (t : Site), s.admitted .core none addr.toNat w.isSome = (stOk, some t) →
    ∃ u, exec (.regCrossingTimeout .core addr w) s = .next u ∧ u.mgmt.coreAnswer = (0, BitVec.ofNat 4 stTimeout) ∧
      u.mgmt.late = s.mgmt.late ++ (match w with | some v => [(.core, addr, v)] | none => []) ∧ u.regs = s.regs ∧
      u.coll.signals.any (fun g => g.src = srcRegTimeout) = true)

/-- JTAG: IDCODE, SAMPLE/PRELOAD, BYPASS, STACK_SEL with the Crown powered and WS_BYPASS load the instruction
register, leave the pins alone and change nothing outside the management complex and the free-value counter (R490,
R491). The boundary-scan instructions, with Dawn held (R490). Where its clauses rest on a choice of the model and not
on the spec's words, that is said in notes/assumptions: entries 33, 38, 165. -/
def Obligations.Jtag : Prop :=
  (∀ s : State,
    exec .idcode s = .next { s with mgmt := { s.mgmt with jtagIr := 0x01, boundary := 0, jtagDr := 0x1001674D } } ∧
    exec .bypass s = .next { s with mgmt := { s.mgmt with jtagIr := 0xFF, boundary := 0, jtagDr := 0 } } ∧
    (∃ v, exec .samplePreload s = .next { s with
      free := s.free + 1
      mgmt := { s.mgmt with jtagIr := 0x02, boundary := 0, jtagDr := v } }) ∧
    (s.power.crownOn = true → ∀ dies,
      exec (.stackSel dies) s = .next { s with mgmt := { s.mgmt with jtagIr := 0x20, boundary := 0, dieSelect := dies } }) ∧
    ∀ core cleared, exec (.wrapSel core true cleared) s = .next { s with
      mgmt := { s.mgmt with jtagIr := 0x21, boundary := 0, wrapCore := core } }) ∧
  (∀ s : State, s.held = true → ∀ x ∈ [(Instr.extest, (0x00 : BitVec 8)), (.extestPulse, 0x03), (.extestTrain, 0x04),
      (.clamp, 0x05), (.highz, 0x06)],
    ∃ v, exec x.1 s = .next { s with
      free := s.free + 1
      mgmt := { s.mgmt with jtagIr := x.2, boundary := x.2, jtagDr := v } })

/-- Dynamic addresses of the I3C target (R435): ENTDAA and SETDASA give an address to a target that has none, ENTDAA
is answered with PID, BCR and DCR, and RSTDAA takes the address away. Common command codes (R435, R438): ENEC and
DISEC switch the interrupts, GETPID, GETBCR and GETDCR are answered with their values, GETSTATUS and GETMXDS with two
bytes, and RSTACT ends what was to be read. Where its clauses rest on a choice of the model and not on the spec's
words, that is said in notes/assumptions: entries 118, 119. -/
def Obligations.I3cTarget : Prop :=
  (∀ s : State, ∀ da : BitVec 7,
    (s.rd base.i3c I3C.STATUS.DA = 0 →
      (∃ t, exec (.entdaa da) s = .next t ∧ t.rd base.i3c I3C.STATUS.DA = da.toNat ∧ t.rd base.i3c I3C.STATUS.EVENT = 1 ∧
        t.mgmt.cccAnswer = [(0x07 : BitVec 8), 0x4C, 0x00, 0x16, (BitVec.zeroExtend 8 s.mgmt.straps) <<< 4, 0x00, 0x06, 0x00]) ∧
      (∃ t, exec (.setdasa da) s = .next t ∧ t.rd base.i3c I3C.STATUS.DA = da.toNat ∧ t.rd base.i3c I3C.STATUS.EVENT = 1)) ∧
    ∃ t, exec .rstdaa s = .next t ∧ t.rd base.i3c I3C.STATUS.DA = 0 ∧ t.rd base.i3c I3C.STATUS.EVENT = 2) ∧
  (∀ s : State,
    ((∀ x ∈ s.mgmt.ibis, 1 ≤ x.1 ∧ x.1 ≤ 5) → ∀ ev : BitVec 8, ev.getLsbD 0 = true →
      (∃ t, exec (.enec ev) s = .next t ∧ t.rd base.i3c I3C.STATUS.IBI_EN = 1) ∧
      (∃ t, exec (.disec ev) s = .next t ∧ t.rd base.i3c I3C.STATUS.IBI_EN = 0 ∧ t.mgmt = s.mgmt)) ∧
    exec .getpid s = .next { s with mgmt := { s.mgmt with
      cccAnswer := [0x07, 0x4C, 0x00, 0x16, (BitVec.zeroExtend 8 s.mgmt.straps : BitVec 8) <<< (4 : Nat), 0x00] } } ∧
    exec .getbcr s = .next { s with mgmt := { s.mgmt with cccAnswer := [0x06] } } ∧
    exec .getdcr s = .next { s with mgmt := { s.mgmt with cccAnswer := [0x00] } } ∧
    (∀ c ∈ [Instr.getstatus, .getmxds], ∃ x y : BitVec 8, exec c s = .next { s with
      free := s.free + 1
      mgmt := { s.mgmt with cccAnswer := [x, y] } }) ∧
    exec (.rstact 0x01) s = .next { s with mgmt := { s.mgmt with readBuf := [], lastStatus := 0 } })

/-- IBI_RETRY with interrupts enabled raises the pending classes in ascending order (R439): the controller has
accepted a first part of them, and the first that it NACKed stays pending with all that follow. Where its clauses rest
on a choice of the model and not on the spec's words, that is said in notes/assumptions: entry 99. -/
def Obligations.I3cRetry : Prop :=
  ∀ s : State, (∀ x ∈ s.mgmt.ibis, 1 ≤ x.1 ∧ x.1 ≤ 5) →
    (s.rd base.i3c I3C.STATUS.IBI_EN = 0 → exec .ibiRetry s = .next s) ∧
    (s.rd base.i3c I3C.STATUS.IBI_EN = 1 → s.mgmt.ibis ≠ [] →
      ∃ t k, exec .ibiRetry s = .next t ∧ k ≤ s.mgmt.ibis.length ∧ t.mgmt.ibis = s.mgmt.ibis.drop k ∧
        t.rd base.i3c I3C.STATUS.EVENT = (if k = s.mgmt.ibis.length then 3 else 4))

/-- The watchdog restarts the core into its boot ROM; a third restart within 60 s halts it (R434). WDT_KICK counts
with 0xC3 only; RESTART restarts the core from any state; the boot ROM's time-out restarts it (R432-R434). -/
def Obligations.CoreRestarts : Prop :=
  (∀ s : State, s.mgmt.wdtRuns = true → s.batt.held = none →
    let earlier := (s.mgmt.wdtTimes.filter (fun t => s.now < t + 60000000000)).length
    (earlier < 2 → ∃ t, exec .watchdogExpire s = .next t ∧ t.rd base.core CORE.STATUS.STATE = coreBoot ∧
      t.rd base.core CORE.STATUS.RESTARTS = earlier + 1 ∧ t.rd base.core CORE.STATUS.EVENT = 2 ∧
      t.rd base.core CORE.STATUS.TRIAL = 0 ∧ t.crown = s.crown ∧ t.otp = s.otp) ∧
    (2 ≤ earlier → ∃ t, exec .watchdogExpire s = .next t ∧ t.rd base.core CORE.STATUS.STATE = coreHalted ∧
      t.rd base.core CORE.STATUS.RESTARTS = 3 ∧ t.rd base.core CORE.STATUS.EVENT = 4 ∧ t.crown = s.crown ∧ t.otp = s.otp)) ∧
  (∀ s : State,
    exec (.wdtKick 0xC3) s = .next { s with mgmt := { s.mgmt with kickedAt := s.now } } ∧
    (∀ v, v ≠ 0xC3 → exec (.wdtKick v) s = .next s) ∧
    (∃ t, exec .coreRestart s = .next t ∧ t.rd base.core CORE.STATUS.STATE = coreBoot ∧
      t.rd base.core CORE.STATUS.EVENT = 3 ∧ t.rd base.core CORE.WDT.RESTART = 0 ∧ t.crown = s.crown ∧ t.otp = s.otp) ∧
    (s.coreState = coreBoot → s.rd base.core CORE.STATUS.EVENT ≠ 7 → s.dawnDone 1 = true → s.batt.held = none →
      ∃ t, exec .bootRomTimeout s = .next t ∧ t.rd base.core CORE.STATUS.RESTARTS =
        min 3 ((s.mgmt.wdtTimes.filter (fun t => s.now < t + 60000000000)).length + 1)))

/-- FWUP (R446, R447): BEGIN erases the inactive slot and sets ADDR to 0; VERIFY, ACTIVATE, ABORT, and CONFIRM by the
core that runs a trial, start as well and run; a GO behind one that runs is held; CONFIRM by another master is DENIED; a
DATA word waits in the program buffer, one that finds the buffer full is not applied. The end of an operation: VERIFY
reports the checks of R443; ACTIVATE puts a verified slot on trial; CONFIRM makes the running slot ACTIVE, ends the
trial, and in PROVISIONED and DEPLOYED alone may burn the rollback counter, upwards only; ABORT drops the trial.
FIRMWARE_HANDOVER from the boot ROM (R445): the image of TRY is booted once, on trial; one that was tried reverts to
ACTIVE; a slot that fails is skipped for the other; when neither passes, FW_NONE is reported and the boot ROM stays.
Where its clauses rest on a choice of the model and not on the spec's words, that is said in notes/assumptions: entries
116, 117, 195. -/
def Obligations.Firmware : Prop :=
  (∀ (s : State) (m : Master) (v : BitVec 32),
    (s.ownerBars m base.fwup = true → ∀ c ∈ [Instr.fwupBegin m, .fwupVerify m, .fwupActivate m, .fwupConfirm m, .fwupAbort m,
      .fwupDataWrite m v], exec c s = .next s) ∧
    (s.ownerBars m base.fwup = false →
      (s.mgmt.fwOp = none →
        (s.mgmt.norUsable = true → ∃ t, exec (.fwupBegin m) s = .next t ∧ t.mgmt.fwOp = some (0, s.fwInactive) ∧
          t.rd base.fwup FWUP.STATUS.RUNNING = 1 ∧ t.rd base.fwup FWUP.ADDR.ADDR = 0 ∧ t.mgmt.progBuf = [] ∧
          (∀ i, i < 0x100000 → t.norByte (fwBase s.fwInactive + i) = 0xFF) ∧
          (∀ a, a < fwBase s.fwInactive ∨ fwBase s.fwInactive + 0x100000 ≤ a → t.norByte a = s.norByte a) ∧ s.sameStore t.toDev) ∧
        (s.mgmt.norUsable = false → ∃ t, exec (.fwupBegin m) s = .next t ∧ t.rd base.fwup FWUP.STATUS.RESULT = fwSpiErr ∧
          t.mgmt.nor = s.mgmt.nor ∧ t.mgmt.fwOp = none ∧ s.sameStore t.toDev) ∧
        (∀ x ∈ [(Instr.fwupVerify m, 1), (.fwupActivate m, 2), (.fwupAbort m, 4)],
          ∃ t, exec x.1 s = .next t ∧ t.mgmt = { s.mgmt with fwOp := some (x.2, s.fwInactive) } ∧
            t.rd base.fwup FWUP.STATUS.RUNNING = 1 ∧ t.flag base.fwup FWUP.CMD.GO = false ∧ s.sameStore t.toDev) ∧
        (s.fwTrialBy m = true → ∃ t, exec (.fwupConfirm m) s = .next t ∧
          t.mgmt = { s.mgmt with fwOp := some (3, s.rd base.core CORE.STATUS.SLOT) } ∧
          t.rd base.fwup FWUP.STATUS.RUNNING = 1 ∧ t.flag base.fwup FWUP.CMD.GO = false ∧ s.sameStore t.toDev) ∧
        (s.fwTrialBy m = false → ∃ t, exec (.fwupConfirm m) s = .next t ∧ t.rd base.fwup FWUP.STATUS.RESULT = fwDenied ∧
          t.mgmt = s.mgmt ∧ s.sameStore t.toDev)) ∧
      (s.mgmt.fwOp ≠ none → ∀ x ∈ [(Instr.fwupBegin m, 0), (.fwupVerify m, 1), (.fwupActivate m, 2), (.fwupConfirm m, 3),
          (.fwupAbort m, 4)],
        ∃ t, exec x.1 s = .next t ∧ t.mgmt = { s.mgmt with fwHeld := some (x.2, m) } ∧ t.flag base.fwup FWUP.CMD.GO = true ∧
          s.sameStore t.toDev) ∧
      (s.mgmt.progBuf.length < 1024 → ∃ t, exec (.fwupDataWrite m v) s = .next t ∧
        t.mgmt.progBuf = s.mgmt.progBuf ++ [(fwBase s.fwInactive + s.rd base.fwup FWUP.ADDR.ADDR / 4 * 4, v)] ∧
        t.rd base.fwup FWUP.ADDR.ADDR = (s.rd base.fwup FWUP.ADDR.ADDR / 4 * 4 + 4) % 2 ^ 20 ∧ s.sameStore t.toDev) ∧
      (1024 ≤ s.mgmt.progBuf.length → exec (.fwupDataWrite m v) s = .next s))) ∧
  (∀ (s : State) (op slot : Nat), s.mgmt.progBuf = [] → s.mgmt.fwOp = some (op, slot) → s.mgmt.fwHeld = none → slot < 2 →
    let t := s.spiTick
    t.mgmt.fwOp = none ∧ t.rd base.fwup FWUP.STATUS.RUNNING = 0 ∧ t.crown = s.crown ∧ t.hbs = s.hbs ∧
      (op = 1 → t.rd base.fwup FWUP.STATUS.RESULT = s.fwCheck slot ∧ t.mgmt.nor = s.mgmt.nor) ∧
      (op = 2 → t.rd base.fwup FWUP.STATUS.RESULT = s.fwCheck slot ∧
        t.mgmt.fwActive = s.mgmt.fwActive ∧ (if s.fwCheck slot = fwOk then t.mgmt.fwTry.toNat = slot ∧ t.mgmt.fwTries = 0
          else t.mgmt = { s.mgmt with fwOp := none })) ∧
      (op = 3 → t.rd base.fwup FWUP.STATUS.RESULT = fwOk ∧ t.rd base.core CORE.STATUS.TRIAL = 0 ∧
        t.rd base.core CORE.STATUS.EVENT = 6 ∧ t.mgmt.fwTry = 0xFF ∧ t.mgmt.fwActive.toNat = slot ∧
        ((s.otp.lifecycle ≠ 2 ∧ s.otp.lifecycle ≠ 3) ∨ min (fieldAt (s.fwBytes slot) 0x10 1) 64 ≤ s.otp.rollback → t.otp = s.otp)) ∧
      (op = 4 → t.rd base.fwup FWUP.STATUS.RESULT = fwOk ∧ t.mgmt.fwTry = 0xFF ∧ t.mgmt.fwActive = s.mgmt.fwActive)) ∧
  ∀ s : State,
    (s.coreState ≠ coreBoot ∨ s.rd base.core CORE.STATUS.EVENT = 7 ∨ s.dawnDone 1 = false → exec .firmwareHandover s = .next s) ∧
    (s.coreState = coreBoot → s.rd base.core CORE.STATUS.EVENT ≠ 7 → s.dawnDone 1 = true →
      let f := s.fwLoad.mgmt
      let a := f.fwActive.toNat % 2
      let b := f.fwTry.toNat % 2
      let trying := f.fwTry ≠ 0xFF ∧ f.fwTries = 0
      ∃ t, exec .firmwareHandover s = .next t ∧ s.sameStore t.toDev ∧ t.mgmt.fwActive = f.fwActive ∧
        (trying → t.mgmt.fwTry = f.fwTry ∧ t.mgmt.fwTries = 1 ∧ (s.fwCheck b = fwOk → t.coreState = coreRuns ∧
          t.rd base.core CORE.STATUS.SLOT = b ∧ t.rd base.core CORE.STATUS.TRIAL = 1 ∧ t.mgmt.wdtRuns = true)) ∧
        (trying → s.fwCheck b ≠ fwOk → s.fwCheck (1 - b) = fwOk → t.coreState = coreRuns ∧
          t.rd base.core CORE.STATUS.SLOT = 1 - b ∧ t.rd base.core CORE.STATUS.TRIAL = 0 ∧ t.mgmt.wdtRuns = true) ∧
        (¬ trying → t.mgmt.fwTry = 0xFF ∧ (s.fwCheck a = fwOk → t.coreState = coreRuns ∧
          t.rd base.core CORE.STATUS.SLOT = a ∧ t.rd base.core CORE.STATUS.TRIAL = 0 ∧ t.mgmt.wdtRuns = true)) ∧
        (¬ trying → s.fwCheck a ≠ fwOk → s.fwCheck (1 - a) = fwOk → t.coreState = coreRuns ∧
          t.rd base.core CORE.STATUS.SLOT = 1 - a ∧ t.rd base.core CORE.STATUS.TRIAL = 0 ∧ t.mgmt.wdtRuns = true) ∧
        (s.fwCheck 0 ≠ fwOk → s.fwCheck 1 ≠ fwOk → t.coreState = coreBoot ∧ t.rd base.core CORE.STATUS.EVENT = 7 ∧
          t.holds srcFwNone))

/-- LC_TRANSITION (R450-R452): granted, the field of the next state is burned whole and the step waits for the next
chip reset; refused, nothing is burned. Where its clauses rest on a choice of the model and not on the spec's words,
that is said in notes/assumptions: entries 115, 164. -/
def Obligations.LifecycleTransition : Prop :=
  ∀ (s : State) (m : Master), s.ownerBars m base.lc = false →
    let busy := s.dawnRuns || s.pfPhase != pfIdle || s.restoreRuns || s.preserving || s.otp.pendingLc.isSome
    (lcMaster m s.otp.lifecycle = false → ∃ t, exec (.lcTransition m) s = .next t ∧ t.rd base.lc LC.STATUS.RESULT = 1 ∧ t.otp = s.otp) ∧
    (lcMaster m s.otp.lifecycle = true → busy = true →
      ∃ t, exec (.lcTransition m) s = .next t ∧ t.rd base.lc LC.STATUS.RESULT = 2 ∧ t.otp = s.otp) ∧
    (lcMaster m s.otp.lifecycle = true → busy = false → s.lcCond s.otp.lifecycle = false →
      ∃ t, exec (.lcTransition m) s = .next t ∧ t.rd base.lc LC.STATUS.RESULT = 3 ∧ t.otp = s.otp) ∧
    (lcMaster m s.otp.lifecycle = true → busy = false → s.lcCond s.otp.lifecycle = true →
      ∃ t, exec (.lcTransition m) s = .next t ∧ t.rd base.lc LC.STATUS.RESULT = 0 ∧ t.rd base.lc LC.STATUS.PENDING = 1 ∧
        t.otp.pendingLc = some (s.otp.lifecycle + 1) ∧ t.otp.lifecycle = s.otp.lifecycle ∧
        t.otpCell 0 = s.otpCell 0 ||| BitVec.ofNat 72 (0xFF * 2 ^ (8 * s.otp.lifecycle)) ∧ t.crown = s.crown)

/-- Starting and ending an interconnect pass (R472-R475, R484): a GO or the timer starts it where it may run and the
conditions of R473 hold; at its end RESULT and COVER are set, SEQ advances and the pass is over. Analogue BIST, where
it may run and with no back-pressure in force (R476-R478): the failing items are shown and decide RESULT; the hold-up
audit runs with them. Scan entry (R486-R488): where the policy or the lifecycle state excludes it, it is refused;
else, the secrets cleared, the device scans, Dawn has stopped and the Crown is unpowered. Where its clauses rest on a
choice of the model and not on the spec's words, that is said in notes/assumptions: entries 102, 145, 148. -/
def Obligations.SelfTest : Prop :=
  (∀ (s : State), 
    (s.icStart = none → s.rung = rungNoon → s.dawnPhase = dawnReady → s.pfPhase = pfIdle →
      (∃ t, exec (.bistInterconnect ⟨true, true⟩) s = .next t ∧ t.icStart = some s.now ∧
        t.rd base.bist BIST.STATUS.STATE = 1 ∧ t.rd base.bist BIST.STATUS.KIND = 0 ∧ t.rd base.bist BIST.CMD.GO = 0 ∧
        t.crown = s.crown ∧ t.pcs = s.pcs) ∧
      (s.rd base.bist BIST.CFG.IC_EN = 1 → ∃ t, exec (.icPassTimer ⟨true, true⟩) s = .next t ∧ t.icStart = some s.now ∧
        t.rd base.bist BIST.STATUS.STATE = 1 ∧ t.crown = s.crown) ∧
      (∀ cond, condOk cond = false → ∃ t, exec (.bistInterconnect cond) s = .next t ∧ t.icStart = none ∧
        t.rd base.bist BIST.STATUS.RESULT = bistRefusedCond ∧
        t.rd base.bist BIST.STATUS.SEQ = nextSeq (s.rd base.bist BIST.STATUS.SEQ) % 256)) ∧
    (∀ start, s.icStart = some start → s.bistWait = none → ∃ t, exec (.interconnectPassEnd []) s = .next t ∧ t.icStart = none ∧
        t.rd base.bist BIST.STATUS.RESULT = bistPass ∧ t.rd base.bist BIST.DETAIL.COVER = s.icCover % 128 ∧
        t.rd base.bist BIST.STATUS.SEQ = nextSeq (s.rd base.bist BIST.STATUS.SEQ) % 256 ∧ t.crown = s.crown ∧ t.pcs = s.pcs) ∧
    (∀ start, s.icStart = some start → s.bist = none → s.bistWait = none → ∀ cond, condOk cond = false →
      ∃ t, exec (.bistCondCheck cond) s = .next t ∧ t.icStart = none ∧ t.rd base.bist BIST.STATUS.RESULT = bistAborted) ∧
    (∀ cond, condOk cond = true → s.bistWait = none → exec (.bistCondCheck cond) s = .next s)) ∧
  (∀ (s : State) (bits : BitVec 4), s.analogAllowed = true → s.rd base.fcore FULLER.STATUS.BP = 0 →
      ∃ t, exec (.bistAnalog ⟨true, true⟩ bits [] []) s = .next t ∧
        t.rd base.bist BIST.STATUS.RESULT = (if bits = 0 then bistPass else bistFailed) ∧
        t.rd base.bist BIST.ANALOG.FAIL % 16 = bits.toNat ∧ t.rd base.bist BIST.DETAIL.COVER = 100 ∧
        t.rd base.bist BIST.STATUS.KIND = 1 ∧ t.pf.auditing = true ∧ t.crown = s.crown ∧ t.pcs = s.pcs) ∧
  (∀ (s : State) (cleared : Bool), s.batt.held = none →
    (s.scanOk = false → ∃ t, exec (.scanEnter cleared) s = .next t ∧ t.mgmt.jtagIr = 0xFF ∧ t.mgmt.scan = s.mgmt.scan ∧
      t.crown = s.crown ∧ t.coll.signals.any (fun g => g.src = srcBistRefused) = true) ∧
    (s.scanOk = true → ∃ t, exec (.scanEnter true) s = .next t ∧ t.mgmt.scan = true ∧ t.dawnPhase = dawnStopped ∧
      t.pfPhase = pfIdle ∧ t.crown = [] ∧ t.power.crownOn = false))

/-- Array BIST (R479-R483): with PRESERVE a serving pseudo-channel is taken out first; without it a free one that is OUT
is tested at once; a GO behind a run is held; save, test and restore follow on each other; the test's end leaves the lines
zero, and without a complete save so does the restore, whose end ends the run; ABORT during save or test goes to the
restore. Where its clauses rest on a choice of the model and not on the spec's words, that is said in notes/assumptions:
entries 108, 146, 147. -/
def Obligations.ArrayBist : Prop :=
  ∀ s : State,
    let p := s.rd base.bist BIST.CMD.PC
    (s.bist = none → s.rd base.bist BIST.CMD.PRESERVE = 0 → s.pcState p = pcOut → (s.pc p).training = none →
      ∃ t, exec (.bistArray ⟨true, true⟩) s = .next t ∧
        t.bist = some ⟨true, p, false, s.flag base.bist BIST.CMD.TEST, 3, false, false, false, s.now⟩ ∧
        t.rd base.bist BIST.STATUS.STATE = 1 ∧ t.rd base.bist BIST.STATUS.KIND = 2 ∧ t.crown = s.crown ∧ t.pcs = s.pcs) ∧
    (s.bist = none → s.rd base.bist BIST.CMD.PRESERVE = 1 → s.pcState p = pcServing → s.rung = rungNoon → s.arrayBusy = false →
      ∃ t, exec (.bistArray ⟨true, true⟩) s = .next t ∧
        t.bist = some ⟨true, p, true, s.flag base.bist BIST.CMD.TEST, 1, false, false, false, s.now⟩ ∧
        t.pcState p = pcDraining ∧ t.rd base.bist BIST.STATUS.STATE = 1 ∧ t.rd base.bist BIST.STATUS.KIND = 2 ∧ t.crown = s.crown) ∧
    (∀ cond, condOk cond = false → s.bist = none → s.rd base.bist BIST.CMD.PRESERVE = 0 → s.pcState p = pcOut →
      (s.pc p).training = none → ∃ t, exec (.bistArray cond) s = .next t ∧ t.bist = none ∧
        t.rd base.bist BIST.STATUS.RESULT = bistRefusedCond ∧ s.sameStore t.toDev) ∧
    (∀ r cond, s.bist = some r → ∃ t, exec (.bistArray cond) s = .next t ∧ t.bist = some r ∧ t.bistWait = some (2, cond) ∧
      s.sameStore t.toDev) ∧
    (s.bistWait = none →
      (∀ failing, s.bist = none → exec (.bistStepDone failing) s = .next s) ∧
      ∀ r, s.bist = some r → r.pc < 128 →
        (r.step = 1 → ∀ failing,
          (s.pcState r.pc = pcOut → ∃ t, exec (.bistStepDone failing) s = .next t ∧ t.bist = some { r with step := 2 } ∧
            s.sameStore t.toDev) ∧
          (s.pcState r.pc ≠ pcOut → exec (.bistStepDone failing) s = .next s)) ∧
        (r.step = 2 → ∀ failing, ∃ t, exec (.bistStepDone failing) s = .next t ∧
          t.bist = some { r with saved := true, step := 3 } ∧ (t.pc r.pc).bistHeld = true) ∧
        (r.step = 3 → ∀ failing, ∃ t, exec (.bistStepDone failing) s = .next t ∧
          t.bist = some { r with step := 4, failed := !failing.isEmpty } ∧
          (∀ k, t.lineAt k = if k / 2 ^ 24 = r.pc then 0 else s.lineAt k)) ∧
        (r.step = 4 → ∀ failing, ∃ t, exec (.bistStepDone failing) s = .next t ∧ t.bist = none ∧
          t.rd base.bist BIST.STATUS.RESULT = (if r.aborted then bistAborted else if r.failed then bistFailed else bistPass) ∧
          t.rd base.bist BIST.STATUS.KIND = 2 ∧ t.rd base.bist BIST.DETAIL.COVER = (if r.aborted then 0 else 100) ∧
          (t.pc r.pc).bistHeld = false ∧ t.flag (base.pc r.pc) PC.SVC.INIT_DONE = true ∧
          (r.preserve = true → s.pcState r.pc = pcOut → t.pcState r.pc = pcRejoining) ∧
          (r.preserve = false ∨ r.saved = false → ∀ k, t.lineAt k = if k / 2 ^ 24 = r.pc then 0 else s.lineAt k))) ∧
    (∀ r, s.bist = some r → r.step = 2 ∨ r.step = 3 →
      ∃ t, exec .bistAbort s = .next t ∧ t.bist = some { r with aborted := true, step := 4 } ∧ s.sameStore t.toDev) ∧
    (s.bist = none → ∃ t, exec .bistAbort s = .next t ∧ t.bist = none ∧ s.sameStore t.toDev)

/-- READ and the weak list (R492, R493, R498): the word's data goes to RDATA, a disagreement of the samples marks it
WEAK; ROOTKEY cannot be read; POP takes the oldest entry. PROG and SEAL (R498-R500) on a word of an open copy in a
lifecycle state that may program it, the supplies in range: the bits and the check bits are burned, or the copy's
digest, and every other word reads as before. REBURN leaves the array as it is and takes a word whose references agree
off the weak list; REDIRECT moves a row to the first blank spare row, and every word of the row reads as before (R501-R503).
Where its clauses rest on a choice of the model and not on the spec's words, that is said in notes/assumptions:
entries 10, 11, 13, 21. -/
def Obligations.OtpCommands : Prop :=
  (∀ (s : State) (m : Master), s.ownerBars m base.otp = false → s.otp.held = false →
    (inRootKey s.otpAddr = false → ∀ tight,
      ∃ t, exec (.otpRead m tight) s = .next t ∧ t.rd base.otp OTP.STATUS.RESULT = otpOk ∧
        t.wideOf base.otp 2 = (s.otpData s.otpAddr).toNat ∧
        t.rd base.otp OTP.STATUS.WEAK = (if s.otpCell s.otpAddr = tight then 0 else 1) ∧
        (s.otpCell s.otpAddr = tight → t.otp = s.otp) ∧
        (s.otpCell s.otpAddr ≠ tight → s.otp.weak.length < 16 → s.otpAddr ∉ s.otp.weak →
          t.otp.weak = s.otp.weak ++ [s.otpAddr]) ∧
        t.otp.words = s.otp.words ∧ t.otp.spares = s.otp.spares ∧ t.crown = s.crown) ∧
    (inRootKey s.otpAddr = true → ∀ tight,
      ∃ t, exec (.otpRead m tight) s = .next t ∧ t.rd base.otp OTP.STATUS.RESULT = otpDenied ∧ t.wideOf base.otp 2 = 0 ∧
        t.otp = s.otp) ∧
    ∃ t, exec .otpWeakPop s = .next t ∧ t.otp.weak = s.otp.weak.drop 1 ∧ t.otp.words = s.otp.words ∧
      t.rd base.otp OTP.WEAK.ADDR = (s.otp.weak.drop 1).headD 0 % 2 ^ 11 ∧
      t.rd base.otp OTP.WEAK.COUNT = (s.otp.weak.drop 1).length % 32) ∧
  (∀ (s : State) (m : Master) (i : Nat) (tw : Bool) (r : OtpRegion), s.ownerBars m base.otp = false → s.otp.held = false →
    otpSite s.otpAddr = some (i, tw, r) → s.otp.lifecycle ≠ 5 → r.states.contains s.otp.lifecycle = true →
    s.otpSealed r = false →
    (s.otpCell s.otpAddr &&& ~~~ otpWord s.otpAddr (BitVec.ofNat 64 (s.wideOf base.otp 1)) = 0 →
      ∃ t, exec (.otpProg m ⟨true, true⟩ true) s = .next t ∧ t.rd base.otp OTP.STATUS.RESULT = otpOk ∧
        t.otpCell s.otpAddr = otpWord s.otpAddr (BitVec.ofNat 64 (s.wideOf base.otp 1)) ∧
        (∀ a, a ≠ s.otpAddr → t.otpCell a = s.otpCell a) ∧ t.crown = s.crown) ∧
    (s.otpCell s.otpAddr &&& ~~~ otpWord s.otpAddr (BitVec.ofNat 64 (s.wideOf base.otp 1)) ≠ 0 → ∀ v,
      ∃ t, exec (.otpProg m ⟨true, true⟩ v) s = .next t ∧ t.rd base.otp OTP.STATUS.RESULT = otpConflict ∧ t.otp = s.otp) ∧
    (s.otpAddr = r.first → r.sealedWords.any s.otpUe = false → ∀ weak,
      ∃ t, exec (.otpSeal m ⟨true, true⟩ true weak) s = .next t ∧ t.rd base.otp OTP.STATUS.RESULT = otpOk ∧
        t.otpCell r.digest = otpWord r.digest ((Config.sha256Words (s.otpCopyWords r)).extractLsb' 0 64) ∧
        t.otpCell (r.digest + 1) = otpWord (r.digest + 1) ((Config.sha256Words (s.otpCopyWords r)).extractLsb' 64 64) ∧
        ∀ a, a ≠ r.digest → a ≠ r.digest + 1 → t.otpCell a = s.otpCell a)) ∧
  (∀ (s : State) (m : Master), s.ownerBars m base.otp = false → s.otp.held = false → s.otp.lifecycle ≠ 5 →
    (∃ t, exec (.otpReburn m ⟨true, true⟩ true true) s = .next t ∧ t.rd base.otp OTP.STATUS.RESULT = otpOk ∧
      t.otp.words = s.otp.words ∧ t.otp.spares = s.otp.spares ∧ t.otp.weak = s.otp.weak.filter (fun a => a != s.otpAddr)) ∧
    (∀ i, 3 ≤ s.otpAddr / 16 → i < 32 → s.otpArray (0x010 + i) = 0 → (∀ j, j < i → s.otpArray (0x010 + j) ≠ 0) →
      (∀ k, k < 16 → s.otp.spares.get (fun _ => 0) (16 * i + k) = 0) →
      ∃ t, exec (.otpRedirect m ⟨true, true⟩) s = .next t ∧ t.rd base.otp OTP.STATUS.RESULT = otpOk ∧
        ∀ a, a / 16 = s.otpAddr / 16 → t.otpData a = s.otpData a) ∧
    (3 ≤ s.otpAddr / 16 → (∀ i, i < 32 → s.otpArray (0x010 + i) ≠ 0) →
      ∃ t, exec (.otpRedirect m ⟨true, true⟩) s = .next t ∧ t.rd base.otp OTP.STATUS.RESULT = otpNoSpare ∧ t.otp = s.otp))

/-- Snapshots, loads and selections of the performance counters (R526-R529), with their frames. SNAP_ALL (R529): every
slot tally and every counter unit is copied to its snapshot. Debug (R556, R558): a line read is taken and joins the
read queue of its pseudo-channel, is held behind another, or ends at once where the image does not allow it or the
pseudo-channel does not serve; the trace ring empties. Where its clauses rest on a choice of the model and not on the
spec's words, that is said in notes/assumptions: entries 12, 45, 70. -/
def Obligations.CountersAndDebug : Prop :=
  (∀ (s : State) (u : PerfUnit),
    let b := base.perf (perfIndex u)
    (∃ t, exec (.perfSnap u) s = .next t ∧
      t.wideOf b selSnapshot = (List.range 9).foldl (fun a k => a + s.wideOf b (1 + k) * 2 ^ (48 * k)) 0 + s.perfOvf (perfIndex u) * 2 ^ 432 ∧
      t.rd b PERF.STATUS.EVENT = 1 ∧ (∀ sel, sel < 10 → t.wideOf b sel = s.wideOf b sel) ∧ t.crown = s.crown ∧ t.pcs = s.pcs) ∧
    (∃ t, exec (.perfClear u) s = .next t ∧ (∀ k, k < 9 → t.wideOf b (1 + k) = 0) ∧ t.perfOvf (perfIndex u) = 0 ∧
      t.wideOf b selSnapshot = s.wideOf b selSnapshot ∧ t.crown = s.crown) ∧
    (∀ bits, ∃ t, exec (.perfOvfClr u bits) s = .next t ∧
      t.perfOvf (perfIndex u) = s.perfOvf (perfIndex u) &&& (0x1FF ^^^ bits.toNat) ∧ t.wide = s.wide ∧
      ∀ a, a ≠ b + 4 → t.reg a = s.reg a) ∧
    ∀ (k : Fin 8) v, exec (.evselWrite u k v) s = .next { s with toDev := s.toDev.setReg (b + 0x10 + 4 * k) v }) ∧
  (∀ s : State, ∃ t, exec .perfSnapAll s = .next t ∧ t.rd base.pglobal PGLOBAL.CTL.SNAP_ALL = 0 ∧
    (∀ p, p < 128 → t.wideOf (base.pc p) selSlotsSnap = s.wideOf (base.pc p) selSlots ∧
      t.wideOf (base.pc p) selSlots = s.wideOf (base.pc p) selSlots) ∧
    ∀ u, u < 14 → t.wideOf (base.perf u) selSnapshot = s.snapshotOf u) ∧
  (∀ s : State,
    let line := (s.rd base.line LINE.ADDR_LO.ADDR + s.rd base.line LINE.ADDR_HI.ADDR * 2 ^ 32) / 64
    let p := (s.place line).pc
    (s.dbgBusy = true → exec .dbgLineRead s = .next { s with toDev := s.put base.line LINE.CTL.GO 1 }) ∧
    (s.dbgBusy = false →
      (s.item itDebugRead 0 = 0 → ∃ t, exec .dbgLineRead s = .next t ∧ t.rd base.line LINE.STATUS.RESULT = 4 ∧
        t.flag base.line LINE.CTL.GO = false ∧ s.sameStore t.toDev) ∧
      (s.item itDebugRead 0 ≠ 0 → s.pcServes p = false → ∃ t, exec .dbgLineRead s = .next t ∧
        t.rd base.line LINE.STATUS.RESULT = 5 ∧ t.flag base.line LINE.CTL.GO = false ∧ s.sameStore t.toDev) ∧
      (s.item itDebugRead 0 ≠ 0 → s.pcServes p = true → ∃ t, exec .dbgLineRead s = .next t ∧ t.dbgBusy = true ∧
        t.flag base.line LINE.CTL.GO = false ∧ (∃ e ∈ (t.pc p).l1 ++ (t.pc p).xbarQ, e.op = .debugRead ∧ e.line = line) ∧
        t.crown = s.crown ∧ t.fuller = s.fuller ∧ t.hbs = s.hbs)) ∧
    ∃ t, exec .traceReset s = .next t ∧ t.rd base.trace TRACE.STATUS.WPTR = 0 ∧ t.rd base.trace TRACE.STATUS.RPTR = 0 ∧
      t.flag base.trace TRACE.STATUS.OVF = false ∧ t.flag base.trace TRACE.CTL.RESET = false ∧ t.traceUnread = 0 ∧ s.sameStore t.toDev)
end

