-- ==== Sys2Proof/Tests/Slice0.lean ====
section
/-! SUPPORT. Own tests: the well-formedness smoke test, worked examples of the spec, and for each statement of
Certificates/Slice0/Obligations.lean a theorem that concrete states and operands meet the hypotheses of its clauses. -/
open Sys2Proof Sys2Proof.Machine
namespace Sys2Proof.Tests
set_option Elab.async false

/-! ### Well-formedness: one ill-formed command for each check -/

def rq0 : Req := ⟨0, 9, false, 3, 9, 0, false, 0, 0, 0⟩

theorem test_wf_register_write_without_master : (Instr.registerWrite 0 []).wf = false := by decide
theorem test_wf_register_write_twice_by_one_master :
    (Instr.registerWrite 0 [(.core, 1), (.core, 2)]).wf = false ∧ (Instr.registerWrite 0 [(.core, 1), (.jtag, 2)]).wf = true := by decide
/-- CHIP.ID.REV has no SEQ field; MGMT.CORE.STATUS has one. -/
theorem test_wf_write_back_to_a_plain_register :
    (Instr.statusWriteBack .core 0x000004 0).wf = false ∧ (Instr.statusWriteBack .core (BitVec.ofNat 24 (base.core + CORE.STATUS.SEQ.off)) 0).wf = true := by
  decide +kernel
theorem test_wf_epoch_sub : (Instr.epochQuery 0 { rq0 with sub := 1 }).wf = false ∧ (Instr.epochSeal 0 rq0).wf = false ∧
    (Instr.epochWaitDurable 0 { rq0 with sub := 1 }).wf = false ∧ (Instr.epochWaitDurable 0 { rq0 with sub := 2 }).wf = true := by decide
theorem test_wf_region_sub : (Instr.regionQuery 0 { rq0 with sub := 1 }).wf = false ∧ (Instr.regionFlush 0 rq0).wf = false := by decide
theorem test_wf_broadcast_node : (Instr.broadcastMwr 0 rq0).wf = false ∧
    (Instr.broadcastMwr 0 { rq0 with addr := BitVec.ofNat 49 (0xFFF * 2 ^ 37) }).wf = true := by decide
theorem test_wf_empty_packet : (Instr.forwardPacket none 0 []).wf = false := by decide
theorem test_wf_windows : (Instr.calWindowEnd 0 [⟨44, 0, List.replicate 16 0⟩]).wf = false ∧
    (Instr.patternWindowEnd 0 [⟨43, 0, []⟩]).wf = false ∧ (Instr.trainGroupDone 0 [⟨44, 0, []⟩]).wf = false := by decide
theorem test_wf_rail : (Instr.supplyUndervolt 10).wf = false ∧ (Instr.supplyUndervolt 9).wf = true := by decide
theorem test_wf_quadrant_estimates : (Instr.govInterval 0 0 [1, 2, 3]).wf = false := by decide
theorem test_wf_jtag_word : (Instr.mgmtAccess (BitVec.ofNat 64 (2 ^ 57))).wf = false := by decide
theorem test_wf_dawn_step_zero : (Instr.dawnStepEnd 0 ⟨false, []⟩).wf = false := by decide
/-- CHIP.ID has no mailbox; a transfer start has a selector that is not 0. -/
theorem test_wf_mailbox : (Instr.mbxRelease .core 0).wf = false ∧ (Instr.mbxCommit .core 0).wf = false ∧
    (Instr.mbxDataAccess .core 0 none).wf = false ∧ (Instr.mbxClaimTimeout 0).wf = false ∧
    (Instr.mbxTransferStart .core (BitVec.ofNat 24 base.otp) 0).wf = false ∧
    (Instr.mbxTransferStart .core (BitVec.ofNat 24 base.otp) 1).wf = true := by decide +kernel

/-! ### Worked examples of the spec -/

/-- Chapter 2, worked decodes: local address 0x12_3456_7890 in GRANULE mode is Q0.PC029, BG 1, BK 7, ROW 0x2468, COL 18. -/
theorem test_decode_granule : placeOf 2 true (0x1234567890 / 64) = ⟨29, 15, 0x2468, 18⟩ := by decide
/-- The table of chapter 2: two addresses in LINEAR (0), PAGE (1) and GRANULE (2) mode with BANK_HASH 1; the bank is 8 BG + BK. -/
theorem test_decode_table :
    placeOf 0 true (0x401000 / 64) = ⟨0, 2, 0x40, 0⟩ ∧
    placeOf 1 true (0x401000 / 64) = ⟨64, 4, 0x0, 0⟩ ∧
    placeOf 2 true (0x401000 / 64) = ⟨8, 4, 0x0, 0⟩ ∧
    placeOf 0 true (0x1234567890 / 64) = ⟨72, 26, 0x3456, 2⟩ ∧
    placeOf 1 true (0x1234567890 / 64) = ⟨118, 15, 0x2468, 2⟩ ∧
    placeOf 2 true (0x1234567890 / 64) = ⟨29, 15, 0x2468, 18⟩ := by decide
/-- Chapter 5, worked traces: slot 0 of the RD of node 0x801 for 0x12_3456_7880 on node 0x02A. -/
theorem test_slot0_of_a_read :
    reqSlot opcRd ⟨0, 15, false, 0x0A7, 0x801, 0x55234567880, false, 0, 0, 0⟩ = 0x000000000000552345678808010A7781 := by decide
/-- Chapter 5, worked traces: RVAL of the OUTCOME of an executed ATOM (OPC 0x04, status OK, LINE 0x48D1_59E2). -/
theorem test_outcome_of_an_atom :
    let d : Dev := ((Dev.reset.put base.txn (TXN.OUTCOME_SRC.NODE.at 4 0) 0x801).put base.txn (TXN.OUTCOME_SRC.VALID.at 4 0) 1).setOutRec 0 0x0B2
      (.done 4 0 0x48D159E2)
    d.outcomeVal ⟨0, 15, false, 0, 0x801, 0, false, 0, 0, 0x0B2⟩ = 0x48D159E200000240 := by decide +kernel
/-- Chapter 22, worked example: MBX_STATUS after the transfer start for the 617 bits of CAL_STORE by fabric MGT. -/
theorem test_mailbox_status : (Mbx.statusWord ⟨1, false, some (.mgt 0x801), true, false, 20, 0, false, 0⟩) = 0x00001405 := by decide
/-- R540 and R541: the mailbox of Q2.PC073 lies at 0x30_9000 + 0x3F0. -/
theorem test_mailbox_place : base.pc 73 = 0x309000 ∧ Blk.pc.mb = some 0x3F0 := by decide

/-! ### Small worlds -/

def st (d : Dev) : State := { d with pending := [] }
/-- A device that Dawn has brought up. -/
def up : Dev :=
  let d : Dev := { Dev.reset with
    now := 1000000
    power := { Power.reset with vaux := true, inRange := true, resetN := true, crownOn := true, serdesOn := true }
    batt := { Batt.reset with active := some ⟨[], 0, []⟩ }
    otp := { Otp.reset with lifecycle := 3 } }
  ((d.put base.dawn DAWN.STATUS.DONE 0x3FF).put base.dawn DAWN.STATUS.PHASE dawnReady).put base.pf PF.RST_STATUS.PHASE 3
def held (d : Dev) : Dev := d.put base.bist BIST.POLICY.HELD 1
/-- Port `n` is ACTIVE and routable, its neighbour heard as node `m`. -/
def link (n m : Nat) (d : Dev) : Dev :=
  ((((d.put (base.fp n) FP.STATUS.STATE fpActive).put (base.rport n) RPORT.NBR.ROUTABLE 1).put (base.rport n) RPORT.NBR.NODE m).put
    (base.rport n) RPORT.NBR.HEARD 1)
/-- Node 5; nodes 9 and 77 lie behind port 0. -/
def net : Dev :=
  ((((link 1 8 (link 0 9 up)).put base.rnode NODE.ID.NODE 5).setRoute 0 9 0x3C0).setRoute 0 77 0x1C1).setRoute 1 9 0x2C1
def serve (ps : List Nat) (d : Dev) : Dev := d.each ps (fun d p => d.put (base.pc p) PC.STATUS.STATE pcServing)
/-- A request of node 9 to a local address of node 5. -/
def req (addr : Nat) (tag : BitVec 12 := 3) : Req := ⟨0, 9, false, tag, 9, BitVec.ofNat 49 (5 * 2 ^ 37 + addr), false, 0, 0, 0⟩
/-- Outcome entry 0 belongs to node 9. -/
def oc0 (d : Dev) : Dev := (d.put base.txn (TXN.OUTCOME_SRC.NODE.at 4 0) 9).put base.txn (TXN.OUTCOME_SRC.VALID.at 4 0) 1
/-- Region `n` covers the first span with a class. -/
def rgn (n cls : Nat) (d : Dev) : Dev :=
  (((d.put base.rgn (RGN.SPAN.VALID.at 8 n) 1).put base.rgn (RGN.SPAN.BASE.at 8 n) 0).put base.rgn (RGN.SPAN.LAST.at 8 n) 0).put
    base.rgn (RGN.ATTR.CLASS.at 8 n) cls
def key0 : HbKey := ⟨7, 0x11, 1⟩
def super0 : Super :=
  ⟨1, 2, 0, true, false, false, false, 0x11, 0, 0, 1, 7, 0x11, key0, key0, 1000000, 0, 0, 0, 0, []⟩
/-- A VERSION block of a unit: its first line, in a tag epoch. -/
def block0 (u : Nat) (e : BitVec 32) : Block := ⟨kindVersion, 0, 0, 0, u, e, [(0, 1)], [(0, 0xAB)], []⟩
def cart0 : Cart := appendBlocks ⟨⟨0x11, true, 2000000⟩, some super0, none, []⟩ [block0 0 1, block0 3 1]
/-- Mode 2 (the cartridge of port 0 alone), IN_SERVICE. -/
def hbx (d : Dev) : Dev :=
  (((d.put base.hctl HCTL.CFG.MODE 2).put (base.hb 0) HB.STATUS.STATE hbInService).upHb 0 (fun h => { h with cart := some cart0 })).put
    base.fcore FULLER.STATUS.NONDURABLE 0
def cmds (n : Nat) (cs : List NvmeCmd) (d : Dev) : Dev := d.upHb n (fun h => { h with cmds := cs })
def ent (op : Op) (line ord : Nat) (opc : BitVec 5) (r : Req) (data : Content := 0) : Entry :=
  ⟨op, line, ord, some 0, opc, r, data, 0, 0, true, none, .none, false, 0⟩
def full : Dev := hbx (oc0 (serve [0,1,2,3,8,16,32] net))
/-- Outcome entry 0 is node 9's and some pseudo-channels serve. -/
def served : Dev := oc0 (serve [0,1,2,3,8,16,32] net)
/-- Every pseudo-channel serves. -/
def allServing : Dev := serve (List.range 128) full
/-- The pseudo-channels of quadrant 0 are stopped. -/
def stoppedQuad : Dev := full.each (List.range 32) (fun d p => d.upPc p (fun c => { c with stopped := true }))
/-- Row 0 is open in every bank of pseudo-channel 0. -/
def activeBanks : Dev :=
  served.upPc 0 (fun c => { c with banks := (List.range 32).map (fun b => (b, { Bank.reset with st := .active 0 })) })
/-- Port 0 at width x8 with logical lane k on lane k. -/
def wideNet : Dev :=
  (List.range 8).foldl (fun d k => (d.setMap 0 FP.RX_LANE_MAP.reg k k).setMap 0 FP.TX_LANE_MAP.reg k k)
    ((net.put (base.fp 0) FP.STATUS.RX_WIDTH 0).put (base.fp 0) FP.STATUS.TX_WIDTH 0)
/-- Port 0 at width x8; its spare, lane 8, shadows logical lane 2 both ways. -/
def spareNet : Dev :=
  ((((((List.range 8).foldl (fun d k => d.setFpLane 0 k 0) wideNet).setFpLane 0 8 1).put (base.fp 0) FP.STATUS.RX_SPARE 1).put
    (base.fp 0) FP.STATUS.TX_SPARE 1).put (base.fp 0) FP.STATUS.RX_SHADOW_LL 2).upFp 0 (fun f => { f with txShadow := 2, sinceNull := 1023 })

def w1 : Dev := { full with pf := { full.pf with zeroFill := true } }
/-- Registers set: FULLER.CORE.STATUS; FULLER.CORE.EPOCH_OPEN; FULLER.CORE.EPOCH_DURABLE; FULLER.RGN.SPAN0; FULLER.RGN.ATTR0. -/
def w2 : Dev := (((((served.setReg 0x700008 0x100).setReg 0x700014 0x7).setReg 0x70001C 0x3).setReg 0x701000 0x80000000).setReg 0x701004 0x2)
/-- Registers set: FULLER.CORE.STATUS; FULLER.CORE.EPOCH_OPEN; FULLER.RGN.SPAN0; FULLER.RGN.ATTR0. -/
def w3 : Dev := ((((served.setReg 0x700008 0x100).setReg 0x700014 0x7).setReg 0x701000 0x80000000).setReg 0x701004 0x2)
/-- Registers set: FULLER.RGN.SPAN0; FULLER.RGN.ATTR0. -/
def w4 : Dev := { ((served.setReg 0x701000 0x80000000).setReg 0x701004 0x1) with fuller := { served.fuller with map := [(3, 2)] } }
def w5 : Dev := ((served.upFp 0 (fun c => { c with rxq := [⟨2, [5], none⟩, ⟨0, [0xA000000040009003481], none⟩] })).upFp 3 (fun c => { c with rxq := [⟨0, [0xA000000040009003481], none⟩, ⟨2, [5], none⟩] }))
def w6 : Dev := { net with fuller := { net.fuller with xbarCmds := [(6, 0, ⟨0, 9, false, 3, 9, 0xA000000000, false, 0, 0, 0⟩)] } }
def w7 : Dev := (net.upFp 1 (fun c => { c with txq := [⟨0, [0xA000000040009003481], (some 0)⟩, ⟨2, [0xA00000004000900348C], (some 0)⟩] }))
/-- Registers set: FULLER.RGN.SPAN0; FULLER.RGN.ATTR0. -/
def w8 : Dev := ((served.setReg 0x701000 0x80000000).setReg 0x701004 0x93)
/-- Registers set: FULLER.RGN.SPAN0; FULLER.RGN.ATTR0; FULLER.PF.HOLDUP. -/
def w9 : Dev := { (((full.setReg 0x701000 0x80000000).setReg 0x701004 0x93).setReg 0x703004 0x200000) with fuller := { full.fuller with mirOut := [⟨0x21, 5, 0, [⟨Op.fullWrite, 5, 4, (some 0), 2, ⟨0, 9, false, 3, 9, 0xA000000140, false, 0, 0, 0⟩, 5, 0, 0, true, none, Hold.none, false, 0⟩], [], 10, none, false⟩, ⟨0x22, 6, 0, [⟨Op.fullWrite, 5, 4, (some 0), 2, ⟨0, 9, false, 3, 9, 0xA000000140, false, 0, 0, 0⟩, 5, 0, 0, true, none, Hold.none, false, 0⟩], [], 10, none, false⟩] } }
/-- Registers set: FULLER.RGN.SPAN0; FULLER.RGN.ATTR0; FULLER.PF.HOLDUP. -/
def w10 : Dev := (((full.setReg 0x701000 0x80000000).setReg 0x701004 0x1).setReg 0x703004 0x200000)
/-- Registers set: FULLER.RGN.SPAN0; FULLER.RGN.ATTR0; FULLER.MIR.STATUS0; FULLER.PF.HOLDUP. -/
def w11 : Dev := ((((full.setReg 0x701000 0x80000000).setReg 0x701004 0x93).setReg 0x702000 0x1).setReg 0x703004 0x200000)
/-- Registers set: FULLER.RGN.SPAN0; FULLER.RGN.ATTR0; FULLER.MIR.STATUS0; FULLER.PF.HOLDUP. -/
def w12 : Dev := ((((full.setReg 0x701000 0x80000000).setReg 0x701004 0x93).setReg 0x702000 0x3).setReg 0x703004 0x200000)
def w13 : Dev := (served.upFp 0 (fun c => { c with replay := [(7, 0, 0, 5), (8, 0, 0, 5)], oldestSent := 3 }))
def w14 : Dev := (served.upFp 0 (fun c => { c with nakPending := true }))
def w15 : Dev := (served.upFp 0 (fun c => { c with replay := [(7, 0, 0, 5), (8, 0, 0, 5)], oldestSent := 5 }))
def w16 : Dev := (net.upFp 0 (fun c => { c with sinceNull := 1023 }))
def w17 : Dev := (served.upFp 0 (fun c => { c with nakToSend := true }))
def w18 : Dev := (served.upFp 0 (fun c => { c with lctl := [7] }))
/-- Registers set: FAB.FP0.CFG; FAB.FP0.STATUS. -/
def w19 : Dev := ((served.setReg 0x500000 0x108).setReg 0x500004 0xF200)
/-- Registers set: FAB.FP0.CFG; FAB.FP0.STATUS; FAB.FP0.RX_LANE_STATE. -/
def w20 : Dev := ((((served.setReg 0x500000 0x108).setReg 0x500004 0xF600).setReg 0x500010 0x10000).upFp 0 (fun c => { c with config := 0x39D950C840, configSame := 7 }))
/-- Registers set: FAB.FP0.CFG; FAB.FP0.STATUS. -/
def w21 : Dev := ((served.setReg 0x500000 0x108).setReg 0x500004 (resetWord 0x500004))
/-- Registers set: FAB.FP0.CFG; FAB.FP0.STATUS. -/
def w22 : Dev := ((served.setReg 0x500000 0x108).setReg 0x500004 0xF100)
/-- Registers set: FAB.FP0.CFG; FAB.FP0.STATUS. -/
def w23 : Dev := (((served.setReg 0x500000 0x108).setReg 0x500004 0xF200).upFp 0 (fun c => { c with trainFails := 2, frames := [(2, 20)] }))
/-- Registers set: FAB.FP0.CFG; FAB.FP0.STATUS. -/
def w24 : Dev := (((served.setReg 0x500000 0x108).setReg 0x500004 (resetWord 0x500004)).upFp 0 (fun c => { c with recovering := true, trainFails := 2, frames := [(2, 20)] }))
/-- Registers set: FAB.FP0.CFG; FAB.FP0.STATUS. -/
def w25 : Dev := (((served.setReg 0x500000 0x108).setReg 0x500004 (resetWord 0x500004)).upFp 0 (fun c => { c with recovering := true, trainFails := 3, recFails := 2 }))
/-- Registers set: FAB.FP0.CFG. -/
def w26 : Dev := (served.setReg 0x500000 0x108)
/-- Registers set: FAB.FP0.CFG. -/
def w27 : Dev := (served.setReg 0x500000 0x10A)
/-- Registers set: FAB.FP0.CFG; FAB.FP0.RX_LANE_STATE. -/
def w28 : Dev := ((served.setReg 0x500000 0x108).setReg 0x500010 0x1FFBF)
/-- Registers set: FAB.FP0.CFG; FAB.FP0.STATUS. -/
def w29 : Dev := ((served.setReg 0x500000 0x108).setReg 0x500004 0x5F700)
/-- Registers set: FAB.FP0.CFG; FAB.FP0.STATUS. -/
def w30 : Dev := ((served.setReg 0x500000 0x108).setReg 0x500004 0x5C700)
/-- Registers set: FAB.FP0.CFG; FAB.FP0.STATUS; FAB.FP0.RX_LANE_STATE. -/
def w31 : Dev := ((((served.setReg 0x500000 0x108).setReg 0x500004 0x5F700).setReg 0x500010 0x10000).upFp 0 (fun c => { c with lctl := [0x301], sinceNull := 5 }))
/-- Registers set: FAB.FP0.CFG; FAB.FP0.STATUS; FAB.FP0.RX_LANE_STATE. -/
def w32 : Dev := ((((served.setReg 0x500000 0x108).setReg 0x500004 0xAF700).setReg 0x500010 0x10000).upFp 0 (fun c => { c with lctl := [0x8303, 5], sinceNull := 5 }))
/-- Registers set: FAB.FP0.CFG; FAB.FP0.STATUS; FAB.FP0.RX_LANE_STATE. -/
def w33 : Dev := (((served.setReg 0x500000 0x108).setReg 0x500004 0xAF700).setReg 0x500010 0x10080)
/-- Registers set: FAB.FP0.CFG; FAB.FP0.STATUS; FAB.FP0.RX_LANE_STATE. -/
def w34 : Dev := (((served.setReg 0x500000 0x108).setReg 0x500004 0xAF700).setReg 0x500010 0x10000)
/-- Registers set: FAB.FP0.CFG; FAB.FP0.STATUS; FAB.FP0.RX_LANE_STATE. -/
def w35 : Dev := (((served.setReg 0x500000 0x108).setReg 0x500004 0x5F700).setReg 0x500010 0x10000)
/-- Registers set: FAB.FP0.STATUS; ROUTE.NODE.ID; ROUTE.PORT0.NBR. -/
def w36 : Dev := (((up.setReg 0x500004 0xF700).setReg 0x600000 0x1000).setReg 0x608004 0x180009)
/-- Registers set: ROUTE.SYNC.CFG. -/
def w37 : Dev := (served.setReg 0x602000 0x9A)
def w38 : Dev := { served with xlate := (some 0x1234567890) }
def w39 : Dev := (served.upPc 0 (fun c => { c with stopped := true }))
def w40 : Dev := (served.upPc 0 (fun c => { c with banks := [(3, ⟨BankState.precharging, 0, 0, 0, Closing.pre, 10, false, [], false, false⟩)] }))
def w41 : Dev := (served.upPc 0 (fun c => { c with l1 := [⟨Op.read, 1, 4, (some 0), 1, ⟨0, 9, false, 3, 9, 0xA000000040, false, 0, 0, 0⟩, 0, 0, 0, true, none, Hold.none, false, 0⟩], mergeBuf := [⟨1, [⟨Op.merge, 1, 4, (some 0), 3, ⟨0, 9, false, 3, 9, 0xA000000040, false, 0, 0, 0⟩, 5, 0, 0, true, none, Hold.none, true, 0⟩], 40, false, false, false, false⟩] }))
/-- Registers set: PC000.STATUS. -/
def w42 : Dev := (served.setReg 0x100028 (resetWord 0x100028))
/-- Registers set: PC000.STATUS. -/
def w43 : Dev := (served.setReg 0x100028 0x200)
/-- Registers set: PC000.SVC; PC000.STATUS. -/
def w44 : Dev := ((served.setReg 0x100024 0x4).setReg 0x100028 0x300)
/-- Registers set: PC000.REF_STATUS; PC000.REF_DEBT0; PC000.REF_DEBT1; PC000.REF_DEBT2; PC000.REF_DEBT3; PC000.REF_DEBT4; PC000.REF_DEBT5; PC000.REF_DEBT6; PC000.REF_DEBT7. -/
def w45 : Dev := (((((((((served.setReg 0x100084 0x80000).setReg 0x100090 0x8080808).setReg 0x100094 0x8080808).setReg 0x100098 0x8080808).setReg 0x10009C 0x8080808).setReg 0x1000A0 0x8080808).setReg 0x1000A4 0x8080808).setReg 0x1000A8 0x8080808).setReg 0x1000AC 0x8080808)
def w46 : Dev := (served.upPc 0 (fun c => { c with banks := [(3, ⟨BankState.refreshing, 0, 0, 0, Closing.pre, 0, false, [], false, false⟩)], muInFlight := (some 3) }))
def w47 : Dev := (served.upPc 0 (fun c => { c with inFlight := [⟨⟨Op.read, 1, 4, (some 0), 1, ⟨0, 9, false, 3, 9, 0xA000000040, false, 0, 0, 0⟩, 0, 0, 0, true, none, Hold.none, false, 0⟩, 0x5361F49AA24F65AC0AB92249DEC1F70300000000000000000000000000000000000000000000000000000000000000000000000000000000000000000000000000000000000000000000000000000055, none⟩] }))
def w48 : Dev := { full with ecc := { full.ecc with heals := [⟨0, [⟨Op.read, 0, 4, (some 0), 1, ⟨0, 9, false, 3, 9, 0xA000000040, false, 0, 0, 0⟩, 0, 0, 0, true, none, Hold.none, false, 0⟩], 4, false, 5⟩] } }
def w49 : Dev := { served with ecc := { served.ecc with heals := [⟨1, [⟨Op.read, 1, 4, (some 0), 1, ⟨0, 9, false, 3, 9, 0xA000000040, false, 0, 0, 0⟩, 0, 0, 0, true, none, Hold.none, false, 0⟩], 4, false, 5⟩] } }
/-- Registers set: CHIP.ECC.INJ_CTL. -/
def w50 : Dev := (served.setReg 0x2018 0x6)
def w51 : Dev := { served with ecc := { served.ecc with fuses := [⟨3, 4, 5, false, 3⟩], burning := (some ⟨3, 4, 5, false, 77⟩) } }
def w52 : Dev := (full.upPc 0 (fun c => { c with phase := CalPhase.comparing }))
def w53 : Dev := (full.upPc 0 (fun c => { c with phase := CalPhase.window }))
/-- Registers set: PC000.CAL_CTL. -/
def w54 : Dev := (full.setReg 0x100180 0x2)
/-- Registers set: PC000.STATUS. -/
def w55 : Dev := (full.setReg 0x100028 (resetWord 0x100028))
/-- Registers set: PC000.STATUS. -/
def w56 : Dev := { ((full.setReg 0x100028 0x300).upPc 0 (fun c => { c with outSince := (some 5) })) with now := 20000000 }
/-- Registers set: PC000.STATUS. -/
def w57 : Dev := ((full.setReg 0x100028 (resetWord 0x100028)).upPc 0 (fun c => { c with training := (some ⟨true, 0, false⟩) }))
/-- Registers set: PC000.STATUS. -/
def w58 : Dev := ((full.setReg 0x100028 (resetWord 0x100028)).upPc 0 (fun c => { c with training := (some ⟨true, 10, false⟩) }))
/-- Registers set: PC000.CAL_CTL; PC000.CAL_OVR. -/
def w59 : Dev := ((full.setReg 0x100180 0x0).setReg 0x1001A4 0x202B)
/-- Registers set: PWR.CLK.TSV_REQ. -/
def w60 : Dev := (full.setReg 0x902004 0x8)
/-- Registers set: PWR.CLK.TSV_REQ. -/
def w61 : Dev := (full.setReg 0x902004 0x18)
def w62 : Dev := (full.upQme 0 (fun c => { c with changing := (some 1) }))
def w63 : Dev := (stoppedQuad.upQme 0 (fun c => { c with changing := (some 1) }))
/-- Registers set: FULLER.RGN.SPAN0; FULLER.RGN.ATTR0; FULLER.PF.HOLDUP. -/
def w64 : Dev := { (((full.setReg 0x701000 0x80000000).setReg 0x701004 0x1).setReg 0x703004 0x200000) with fuller := { full.fuller with map := [(3, 1)] } }
/-- Registers set: FULLER.RGN.SPAN0; FULLER.RGN.ATTR0; FULLER.PF.HOLDUP. -/
def w65 : Dev := { (((full.setReg 0x701000 0x80000000).setReg 0x701004 0x1).setReg 0x703004 0x800000) with fuller := { full.fuller with map := [(3, 1)], jobs := [⟨3, 4, [], [192, 200], 0, [], true⟩] } }
/-- Registers set: FULLER.RGN.SPAN0; FULLER.RGN.ATTR0; FULLER.PF.HOLDUP. -/
def w66 : Dev := { (((full.setReg 0x701000 0x80000000).setReg 0x701004 0x1).setReg 0x703004 0x200000) with fuller := { full.fuller with seeds := [5, 9] } }
/-- Registers set: FULLER.CORE.CMD_STATUS; FULLER.RGN.SPAN0; FULLER.RGN.ATTR0; FULLER.PF.HOLDUP. -/
def w67 : Dev := ((((full.setReg 0x700024 0x100).setReg 0x701000 0x80000000).setReg 0x701004 0x1).setReg 0x703004 0x200000)
/-- Registers set: FULLER.CORE.STATUS; FULLER.CORE.EPOCH_OPEN; FULLER.CORE.EPOCH_DURABLE; FULLER.RGN.SPAN0; FULLER.RGN.ATTR0; FULLER.PF.HOLDUP. -/
def w68 : Dev := { ((((((full.setReg 0x700008 0x20100).setReg 0x700014 0x7).setReg 0x70001C 0x5).setReg 0x701000 0x80000000).setReg 0x701004 0x2).setReg 0x703004 0x200000) with fuller := { full.fuller with sealAt := (some 99) } }
/-- Registers set: FULLER.CORE.STATUS; FULLER.CORE.EPOCH_OPEN; FULLER.CORE.EPOCH_SEALED; FULLER.CORE.EPOCH_DURABLE; FULLER.RGN.SPAN0; FULLER.RGN.ATTR0; FULLER.PF.HOLDUP. -/
def w69 : Dev := ((((((((full.setReg 0x700008 0x30200).setReg 0x700014 0x8).setReg 0x700018 0x7).setReg 0x70001C 0x6).setReg 0x701000 0x80000000).setReg 0x701004 0x2).setReg 0x703004 0x200000).upPc 0 (fun c => { c with wq := [⟨Op.fullWrite, 3, 4, (some 0), 2, ⟨0, 9, false, 3, 9, 0xA000000040, false, 0, 0, 0⟩, 5, 0, 0, true, none, Hold.cowStall, false, 0⟩] }))
/-- Registers set: FULLER.CORE.STATUS; FULLER.CORE.EPOCH_OPEN; FULLER.CORE.EPOCH_SEALED; FULLER.CORE.EPOCH_DURABLE; FULLER.RGN.SPAN0; FULLER.RGN.ATTR0; FULLER.PF.HOLDUP. -/
def w70 : Dev := { (((((((full.setReg 0x700008 0x30200).setReg 0x700014 0x8).setReg 0x700018 0x7).setReg 0x70001C 0x6).setReg 0x701000 0x80000000).setReg 0x701004 0x2).setReg 0x703004 0x200000) with fuller := { full.fuller with commit := (some (7, 1, false)) } }
/-- Registers set: FULLER.CORE.STATUS; FULLER.CORE.EPOCH_OPEN; FULLER.CORE.EPOCH_DURABLE; FULLER.RGN.SPAN0; FULLER.RGN.ATTR0; FULLER.PF.HOLDUP. -/
def w71 : Dev := ((((((full.setReg 0x700008 0x20100).setReg 0x700014 0x7).setReg 0x70001C 0x5).setReg 0x701000 0x80000000).setReg 0x701004 0x2).setReg 0x703004 0x200000)
/-- Registers set: FULLER.CORE.STATUS; FULLER.CORE.EPOCH_OPEN; FULLER.CORE.EPOCH_SEALED; FULLER.CORE.EPOCH_DURABLE; FULLER.RGN.SPAN0; FULLER.RGN.ATTR0; FULLER.PF.HOLDUP. -/
def w72 : Dev := (((((((full.setReg 0x700008 0x30200).setReg 0x700014 0x8).setReg 0x700018 0x7).setReg 0x70001C 0x6).setReg 0x701000 0x80000000).setReg 0x701004 0x2).setReg 0x703004 0x200000)
/-- Registers set: FULLER.RGN.SPAN0; FULLER.RGN.ATTR0; FULLER.PF.HOLDUP. -/
def w73 : Dev := { (((full.setReg 0x701000 0x80000000).setReg 0x701004 0x1).setReg 0x703004 0x200000) with power := { full.power with crownOn := false } }
/-- Registers set: FULLER.RGN.SPAN0; FULLER.RGN.ATTR0; FULLER.PF.HOLDUP; FULLER.PF.STATUS. -/
def w74 : Dev := { ((((full.setReg 0x701000 0x80000000).setReg 0x701004 0x1).setReg 0x703004 0x200000).setReg 0x703008 0x100) with pf := { full.pf with drainWindow := true } }
/-- Registers set: FULLER.RGN.SPAN0; FULLER.RGN.ATTR0; FULLER.PF.HOLDUP; MGMT.CORE.STATUS. -/
def w75 : Dev := { ((((full.setReg 0x701000 0x80000000).setReg 0x701004 0x1).setReg 0x703004 0x200000).setReg 0xA01004 0x100) with power := { full.power with linksPending := true } }
/-- Registers set: FULLER.RGN.SPAN0; FULLER.RGN.ATTR0; FULLER.PF.HOLDUP; FULLER.PF.STATUS. -/
def w76 : Dev := { ((((full.setReg 0x701000 0x80000000).setReg 0x701004 0x1).setReg 0x703004 0x200000).setReg 0x703008 0x200) with fuller := { full.fuller with map := [(3, 1)] } }
/-- Registers set: FULLER.RGN.SPAN0; FULLER.RGN.ATTR0; FULLER.PF.HOLDUP; FULLER.PF.STATUS. -/
def w77 : Dev := { ((((full.setReg 0x701000 0x80000000).setReg 0x701004 0x1).setReg 0x703004 0x200000).setReg 0x703008 0x100) with pf := { full.pf with pfSeen := true } }
/-- Registers set: FULLER.RGN.SPAN0; FULLER.RGN.ATTR0; FULLER.PF.HOLDUP; FULLER.PF.STATUS. -/
def w78 : Dev := ((((full.setReg 0x701000 0x80000000).setReg 0x701004 0x1).setReg 0x703004 0x200000).setReg 0x703008 0x600)
/-- Registers set: CHIP.DAWN.STATUS; FULLER.RGN.SPAN0; FULLER.RGN.ATTR0; FULLER.PF.HOLDUP; FULLER.PF.STATUS. -/
def w79 : Dev := { (((((full.setReg 0x3000 0x15FF00).setReg 0x701000 0x80000000).setReg 0x701004 0x1).setReg 0x703004 0x200000).setReg 0x703008 0x700) with now := 100000000 }
/-- Registers set: FULLER.RGN.SPAN0; FULLER.RGN.ATTR0; FULLER.PF.HOLDUP; FULLER.PF.STATUS. -/
def w80 : Dev := { ((((full.setReg 0x701000 0x80000000).setReg 0x701004 0x1).setReg 0x703004 0x200000).setReg 0x703008 0x700) with now := 100000000 }
/-- Registers set: FULLER.RGN.SPAN0; FULLER.RGN.ATTR0; FULLER.PF.HOLDUP. -/
def w81 : Dev := { (((full.setReg 0x701000 0x80000000).setReg 0x701004 0x1).setReg 0x703004 0x200000) with pf := { full.pf with audited := true } }
/-- Registers set: FULLER.RGN.SPAN0; FULLER.RGN.ATTR0; FULLER.PF.HOLDUP; PWR.RUNG.STATUS. -/
def w82 : Dev := ((((full.setReg 0x701000 0x80000000).setReg 0x701004 0x1).setReg 0x703004 0x200000).setReg 0x90000C 0x100)
/-- Registers set: FULLER.RGN.SPAN0; FULLER.RGN.ATTR0; FULLER.PF.HOLDUP. -/
def w83 : Dev := { (((full.setReg 0x701000 0x80000000).setReg 0x701004 0x1).setReg 0x703004 0x200000) with pf := { full.pf with auditing := true } }
/-- Registers set: FULLER.RGN.SPAN0; FULLER.RGN.ATTR0; FULLER.PF.HOLDUP; FULLER.PF.RST_STATUS. -/
def w84 : Dev := ((((full.setReg 0x701000 0x80000000).setReg 0x701004 0x1).setReg 0x703004 0x200000).setReg 0x703010 0x100)
/-- Registers set: FULLER.RGN.SPAN0; FULLER.RGN.ATTR0; FULLER.PF.HOLDUP; FULLER.PF.RST_STATUS. -/
def w85 : Dev := { ((((full.setReg 0x701000 0x80000000).setReg 0x701004 0x1).setReg 0x703004 0x200000).setReg 0x703010 0x200) with pf := { full.pf with restoring := true } }
/-- Registers set: FULLER.RGN.SPAN0; FULLER.RGN.ATTR0; FULLER.PF.HOLDUP; FULLER.PF.RST_STATUS. -/
def w86 : Dev := { ((((full.setReg 0x701000 0x80000000).setReg 0x701004 0x1).setReg 0x703004 0x200000).setReg 0x703010 0x200) with pf := { full.pf with restoring := true, faultIns := [3] } }
/-- Registers set: FULLER.RGN.SPAN0; FULLER.RGN.ATTR0; FULLER.PF.HOLDUP; FULLER.PF.RST_STATUS. -/
def w87 : Dev := { ((((full.setReg 0x701000 0x80000000).setReg 0x701004 0x1).setReg 0x703004 0x200000).setReg 0x703010 0x200) with pf := { full.pf with restoring := true, bulkPtr := 7, writing := [3, 5] } }
/-- Registers set: FULLER.RGN.SPAN0; FULLER.RGN.ATTR0; FULLER.PF.HOLDUP. -/
def w88 : Dev := { (((full.setReg 0x701000 0x80000000).setReg 0x701004 0x1).setReg 0x703004 0x200000) with pf := { full.pf with unsaved := [(5, 2, 0, false), (9, 1, 0, true)] } }
/-- Registers set: FULLER.RGN.SPAN0; FULLER.RGN.ATTR0; FULLER.PF.HOLDUP; HBOX.HB0.STATUS. -/
def w89 : Dev := { (((((full.setReg 0x701000 0x80000000).setReg 0x701004 0x1).setReg 0x703004 0x200000).setReg 0x801004 0x6100).upHb 0 (fun c => { c with cart := (some ⟨⟨0x22, true, 2000000000⟩, none, none, []⟩) })) with otp := { full.otp with lifecycle := 1 } }
/-- Registers set: FULLER.RGN.SPAN0; FULLER.RGN.ATTR0; FULLER.PF.HOLDUP; HBOX.HB0.STATUS. -/
def w90 : Dev := { (((((full.setReg 0x701000 0x80000000).setReg 0x701004 0x1).setReg 0x703004 0x200000).setReg 0x801004 0x6100).upHb 0 (fun c => { c with cart := (some ⟨⟨0x22, true, 2000000000⟩, none, none, []⟩) })) with otp := { full.otp with lifecycle := 0 } }
/-- Registers set: FULLER.RGN.SPAN0; FULLER.RGN.ATTR0; FULLER.PF.HOLDUP; HBOX.HB0.CTL. -/
def w91 : Dev := (((((full.setReg 0x701000 0x80000000).setReg 0x701004 0x1).setReg 0x703004 0x200000).setReg 0x801000 0x8).upHb 0 (fun c => { c with cmds := [⟨5, 0, NvmeOp.flush, false⟩] }))
/-- Registers set: FULLER.RGN.SPAN0; FULLER.RGN.ATTR0; FULLER.PF.HOLDUP; PWR.RUNG.STATUS. -/
def w92 : Dev := ((((full.setReg 0x701000 0x80000000).setReg 0x701004 0x1).setReg 0x703004 0x200000).setReg 0x90000C 0x300)
/-- Registers set: FULLER.RGN.SPAN0; FULLER.RGN.ATTR0; FULLER.PF.HOLDUP; HBOX.HB0.STATUS. -/
def w93 : Dev := ((((full.setReg 0x701000 0x80000000).setReg 0x701004 0x1).setReg 0x703004 0x200000).setReg 0x801004 0x6100)
/-- Registers set: FULLER.RGN.SPAN0; FULLER.RGN.ATTR0; FULLER.PF.HOLDUP; HBOX.HB0.STATUS. -/
def w94 : Dev := (((((full.setReg 0x701000 0x80000000).setReg 0x701004 0x1).setReg 0x703004 0x200000).setReg 0x801004 0x6100).upHb 0 (fun c => { c with cart := (some ⟨⟨0x11, true, 2000000⟩, (some ⟨1, 2, 0, true, false, false, false, 0x11, 0, 0, 1, 7, 0x11, ⟨7, 0x11, 1⟩, ⟨7, 0x11, 1⟩, 20000, 0, 0, 0, 0, []⟩), none, [⟨1, 19000, 19001, 19001, 3, 1, [(0, 1)], [(0, 0xAB)], []⟩, ⟨1, 3, 4, 4, 0, 1, [(0, 1)], [(0, 0xAB)], []⟩]⟩) }))
/-- Registers set: FULLER.RGN.SPAN0; FULLER.RGN.ATTR0; FULLER.PF.HOLDUP. -/
def w95 : Dev := ((((full.setReg 0x701000 0x80000000).setReg 0x701004 0x1).setReg 0x703004 0x200000).upHb 0 (fun c => { c with cmds := [⟨5, 1, (NvmeOp.writeUnit 3 [⟨1, 0, 0, 0, 3, 2, [(0, 1)], [(0, 0xAB)], []⟩]), false⟩] }))
/-- Registers set: FULLER.RGN.SPAN0; FULLER.RGN.ATTR0; FULLER.PF.HOLDUP; HBOX.CTL.CFG; HBOX.HB1.STATUS. -/
def w96 : Dev := (((((((full.setReg 0x701000 0x80000000).setReg 0x701004 0x1).setReg 0x703004 0x200000).setReg 0x800000 0x801).setReg 0x802004 0x6400).upHb 0 (fun c => { c with cmds := [⟨5, 1, (NvmeOp.writeUnit 3 [⟨1, 0, 0, 0, 3, 2, [(0, 1)], [(0, 0xAB)], []⟩]), true⟩] })).upHb 1 (fun c => { c with cart := (some ⟨⟨0x11, true, 2000000⟩, (some ⟨1, 2, 0, true, false, false, false, 0x11, 0, 0, 1, 7, 0x11, ⟨7, 0x11, 1⟩, ⟨7, 0x11, 1⟩, 1000000, 0, 0, 0, 0, []⟩), none, [⟨1, 1, 2, 2, 3, 1, [(0, 1)], [(0, 0xAB)], []⟩, ⟨1, 0, 1, 1, 0, 1, [(0, 1)], [(0, 0xAB)], []⟩]⟩) }))
/-- Registers set: FULLER.RGN.SPAN0; FULLER.RGN.ATTR0; FULLER.PF.HOLDUP; HBOX.CTL.CFG; HBOX.HB1.STATUS. -/
def w97 : Dev := (((((((full.setReg 0x701000 0x80000000).setReg 0x701004 0x1).setReg 0x703004 0x200000).setReg 0x800000 0x801).setReg 0x802004 0x6400).upHb 0 (fun c => { c with cmds := [⟨5, 1, (NvmeOp.writeUnit 3 [⟨1, 0, 0, 0, 3, 2, [(0, 1)], [(0, 0xAB)], []⟩]), true⟩], resetting := true })).upHb 1 (fun c => { c with cart := (some ⟨⟨0x11, true, 2000000⟩, (some ⟨1, 2, 0, true, false, false, false, 0x11, 0, 0, 1, 7, 0x11, ⟨7, 0x11, 1⟩, ⟨7, 0x11, 1⟩, 1000000, 0, 0, 0, 0, []⟩), none, [⟨1, 1, 2, 2, 3, 1, [(0, 1)], [(0, 0xAB)], []⟩, ⟨1, 0, 1, 1, 0, 1, [(0, 1)], [(0, 0xAB)], []⟩]⟩) }))
/-- Registers set: CHIP.DAWN.STATUS; FULLER.RGN.SPAN0; FULLER.RGN.ATTR0; FULLER.PF.HOLDUP; HBOX.CTL.CFG; HBOX.HB1.STATUS. -/
def w98 : Dev := (((((((served.setReg 0x3000 0x143F00).setReg 0x701000 0x80000000).setReg 0x701004 0x1).setReg 0x703004 0x200000).setReg 0x800000 0x801).setReg 0x802004 0x6400).upHb 1 (fun c => { c with cart := (some ⟨⟨0x11, true, 2000000⟩, (some ⟨1, 2, 0, true, false, false, false, 0x11, 0, 0, 1, 7, 0x11, ⟨7, 0x11, 1⟩, ⟨7, 0x11, 1⟩, 1000000, 0, 0, 0, 0, []⟩), none, [⟨1, 1, 2, 2, 3, 1, [(0, 1)], [(0, 0xAB)], []⟩, ⟨1, 0, 1, 1, 0, 1, [(0, 1)], [(0, 0xAB)], []⟩]⟩) }))
/-- Registers set: FULLER.RGN.SPAN0; FULLER.RGN.ATTR0; FULLER.PF.HOLDUP; HBOX.CTL.CFG; HBOX.HB1.STATUS. -/
def w99 : Dev := ((((((served.setReg 0x701000 0x80000000).setReg 0x701004 0x1).setReg 0x703004 0x200000).setReg 0x800000 0x801).setReg 0x802004 0x6400).upHb 1 (fun c => { c with cart := (some ⟨⟨0x11, true, 2000000⟩, (some ⟨1, 2, 0, true, false, false, false, 0x11, 0, 0, 1, 7, 0x11, ⟨7, 0x11, 1⟩, ⟨7, 0x11, 1⟩, 1000000, 0, 0, 0, 0, []⟩), none, [⟨1, 1, 2, 2, 3, 1, [(0, 1)], [(0, 0xAB)], []⟩, ⟨1, 0, 1, 1, 0, 1, [(0, 1)], [(0, 0xAB)], []⟩]⟩) }))
/-- Registers set: FULLER.RGN.SPAN0; FULLER.RGN.ATTR0; FULLER.PF.HOLDUP; HBOX.CTL.CFG; HBOX.HB1.STATUS. -/
def w100 : Dev := (((((((full.setReg 0x701000 0x80000000).setReg 0x701004 0x1).setReg 0x703004 0x200000).setReg 0x800000 0x801).setReg 0x802004 0x6400).upHb 0 (fun c => { c with cmds := [⟨5, 1, (NvmeOp.writeUnit 3 [⟨1, 0, 0, 0, 3, 2, [(0, 1)], [(0, 0xAB)], []⟩]), false⟩] })).upHb 1 (fun c => { c with cart := (some ⟨⟨0x11, true, 2000000⟩, (some ⟨1, 2, 0, true, false, false, false, 0x11, 0, 0, 1, 7, 0x11, ⟨7, 0x11, 1⟩, ⟨7, 0x11, 1⟩, 1000000, 0, 0, 0, 0, []⟩), none, [⟨1, 1, 2, 2, 3, 1, [(0, 1)], [(0, 0xAB)], []⟩, ⟨1, 0, 1, 1, 0, 1, [(0, 1)], [(0, 0xAB)], []⟩]⟩) }))
/-- Registers set: FULLER.RGN.SPAN0; FULLER.RGN.ATTR0; FULLER.PF.HOLDUP; HBOX.CTL.CFG; HBOX.HB0.STATUS; HBOX.HB1.STATUS. -/
def w101 : Dev := (((((((full.setReg 0x701000 0x80000000).setReg 0x701004 0x1).setReg 0x703004 0x200000).setReg 0x800000 0x801).setReg 0x801004 (resetWord 0x801004)).setReg 0x802004 0x6400).upHb 1 (fun c => { c with cart := (some ⟨⟨0x11, true, 2000000⟩, (some ⟨1, 2, 0, true, false, false, false, 0x11, 0, 0, 1, 7, 0x11, ⟨7, 0x11, 1⟩, ⟨7, 0x11, 1⟩, 1000000, 0, 0, 0, 0, []⟩), none, [⟨1, 1, 2, 2, 3, 1, [(0, 1)], [(0, 0xAB)], []⟩, ⟨1, 0, 1, 1, 0, 1, [(0, 1)], [(0, 0xAB)], []⟩]⟩) }))
/-- Registers set: FAB.FP0.STATUS; FAB.FP1.STATUS; FAB.TXN.OUTCOME_SRC0; ROUTE.NODE.ID; ROUTE.PORT0.NBR; ROUTE.PORT1.NBR. -/
def w102 : Dev := { ((((((allServing.setReg 0x500004 (resetWord 0x500004)).setReg 0x501004 (resetWord 0x501004)).setReg 0x508100 (resetWord 0x508100)).setReg 0x600000 (resetWord 0x600000)).setReg 0x608004 (resetWord 0x608004)).setReg 0x609004 (resetWord 0x609004)) with routes := [] }
/-- Registers set: PWR.RUNG.STATUS. -/
def w103 : Dev := (full.setReg 0x90000C 0x100)
/-- Registers set: PWR.RUNG.WAKE_TIMER; PWR.RUNG.STATUS. -/
def w104 : Dev := ((full.setReg 0x900008 0x5).setReg 0x90000C 0x200)
/-- Registers set: FULLER.PF.STATUS; PWR.RUNG.STATUS. -/
def w105 : Dev := { ((full.setReg 0x703008 0x700).setReg 0x90000C 0x300) with pf := { full.pf with thaltSafe := true } }
/-- Registers set: FAB.FP0.STATUS; FAB.FP1.STATUS; FAB.TXN.OUTCOME_SRC0; ROUTE.NODE.ID; ROUTE.PORT0.NBR; ROUTE.PORT1.NBR; PWR.RUNG.STATUS. -/
def w106 : Dev := { (((((((allServing.setReg 0x500004 (resetWord 0x500004)).setReg 0x501004 (resetWord 0x501004)).setReg 0x508100 (resetWord 0x508100)).setReg 0x600000 (resetWord 0x600000)).setReg 0x608004 (resetWord 0x608004)).setReg 0x609004 (resetWord 0x609004)).setReg 0x90000C 0x2C00) with routes := [] }
/-- Registers set: PWR.RUNG.STATUS. -/
def w107 : Dev := (full.setReg 0x90000C 0x800)
/-- Registers set: PWR.RUNG.STATUS. -/
def w108 : Dev := (up.setReg 0x90000C 0x100)
/-- Registers set: PWR.THERM.SENS0. -/
def w109 : Dev := (up.setReg 0x903200 0x1000)
/-- Registers set: CHIP.OWNER.OWN320. -/
def w110 : Dev := (full.setReg 0x4500 0xF)
/-- Registers set: MGMT.BATT.STAGE_OWNER. -/
def w111 : Dev := (full.setReg 0xA00014 0x3)
/-- Registers set: MGMT.BATT.STATUS. -/
def w112 : Dev := { (full.setReg 0xA00000 0x500) with batt := { full.batt with active := (some ⟨[(114752, 15)], 0, [1, 2, 3, 4]⟩), cmd := (some (⟨[(114752, 15), (16448, 1)], 1, [1, 2, 3, 5]⟩, true)), starter := (some Master.core) } }
def w113 : Dev := { full with batt := { full.batt with active := (some ⟨[(114752, 2)], 0, []⟩) } }
def w114 : Dev := { full with batt := { full.batt with active := (some ⟨[(114752, 15)], 0, [1, 2, 3, 4]⟩) } }
/-- Registers set: MGMT.BATT.STATUS. -/
def w115 : Dev := { (full.setReg 0xA00000 0x500) with batt := { full.batt with active := (some ⟨[(114752, 15)], 0, [1, 2, 3, 4]⟩), cmd := (some (⟨[(114752, 15), (16448, 1)], 1, [1, 2, 3, 5]⟩, true)), held := (some Master.core), starter := (some Master.core) } }
/-- Registers set: MGMT.BATT.STATUS. -/
def w116 : Dev := { (full.setReg 0xA00000 0x300) with batt := { full.batt with active := (some ⟨[(114752, 15)], 0, [1, 2, 3, 4]⟩), cmd := (some (⟨[(114752, 15), (16448, 1)], 1, [1, 2, 3, 5]⟩, false)), quiesced := [0], starter := (some Master.core) } }
/-- Registers set: MGMT.BATT.STATUS. -/
def w117 : Dev := { ((full.setReg 0xA00000 0x300).upPc 0 (fun c => { c with l0 := [⟨Op.read, 0, 4, (some 0), 1, ⟨0, 9, false, 3, 9, 0xA000000000, false, 0, 0, 0⟩, 0, 0, 0, true, none, Hold.none, false, 0⟩] })) with batt := { full.batt with active := (some ⟨[(114752, 15)], 0, [1, 2, 3, 4]⟩), cmd := (some (⟨[(114752, 15), (16448, 1)], 1, [1, 2, 3, 5]⟩, false)), quiesced := [1], starter := (some Master.core) } }
def w118 : Dev := { Dev.reset with power := { Dev.reset.power with vaux := true, inRange := true, resetN := true, crownOn := true, serdesOn := true } }
/-- Registers set: CHIP.DAWN.STATUS. -/
def w119 : Dev := { (Dev.reset.setReg 0x3000 0x100) with power := { Dev.reset.power with vaux := true, inRange := true, resetN := true, crownOn := true, serdesOn := true } }
/-- Registers set: CHIP.DAWN.STATUS. -/
def w120 : Dev := { (Dev.reset.setReg 0x3000 0x300) with power := { Dev.reset.power with vaux := true, inRange := true, resetN := true, crownOn := true, serdesOn := true } }
/-- Registers set: CHIP.DAWN.STATUS; MGMT.CORE.STATUS. -/
def w121 : Dev := { ((Dev.reset.setReg 0x3000 0x700).setReg 0xA01004 0x100) with power := { Dev.reset.power with vaux := true, inRange := true, resetN := true, crownOn := true, serdesOn := true } }
/-- Registers set: CHIP.DAWN.STATUS. -/
def w122 : Dev := { (Dev.reset.setReg 0x3000 0x1F00) with power := { Dev.reset.power with vaux := true, inRange := true, resetN := true, crownOn := true, serdesOn := true } }
/-- Registers set: CHIP.DAWN.STATUS. -/
def w123 : Dev := { (Dev.reset.setReg 0x3000 0xF00) with power := { Dev.reset.power with vaux := true, inRange := true, resetN := true, crownOn := true, serdesOn := true } }
/-- Registers set: CHIP.DAWN.STATUS. -/
def w124 : Dev := { (Dev.reset.setReg 0x3000 0x3F00) with power := { Dev.reset.power with vaux := true, inRange := true, resetN := true, crownOn := true, serdesOn := true } }
/-- Registers set: BIST.CTL.POLICY. -/
def w125 : Dev := { (Dev.reset.setReg 0xC00014 0x8) with power := { Dev.reset.power with vaux := true, inRange := true, resetN := true, crownOn := true, serdesOn := true } }
/-- Registers set: CHIP.DAWN.STATUS. -/
def w126 : Dev := { (Dev.reset.setReg 0x3000 0x1FF00) with pf := { Dev.reset.pf with zeroFill := true, serveNd := true }, power := { Dev.reset.power with vaux := true, inRange := true, resetN := true, crownOn := true, serdesOn := true } }
/-- Registers set: CHIP.DAWN.STATUS. -/
def w127 : Dev := (full.setReg 0x3000 0xDFF00)
/-- Registers set: MGMT.FAULT.CAP0. -/
def w128 : Dev := { (full.setReg 0xA08000 0x1000000) with coll := { full.coll with signals := [⟨1, ⟨false, true, none, 0, 0⟩, false, false⟩] } }
/-- Registers set: MGMT.FAULT.SRC4. -/
def w129 : Dev := { (full.setReg 0xA08810 0x80000000) with coll := { full.coll with signals := [⟨4, ⟨false, true, none, 0, 0⟩, false, false⟩] } }
/-- Registers set: MGMT.FAULT.ERRN; MGMT.FAULT.SRC4. -/
def w130 : Dev := { ((full.setReg 0xA08008 0x0).setReg 0xA08810 0x80000010) with coll := { full.coll with signals := [⟨4, ⟨false, true, none, 0, 0⟩, false, false⟩] } }
/-- Registers set: MGMT.FAULT.SRC4. -/
def w131 : Dev := { (full.setReg 0xA08810 0x80000008) with coll := { full.coll with signals := [⟨4, ⟨false, true, none, 0, 0⟩, false, false⟩] } }
/-- Registers set: MGMT.FAULT.SRC4. -/
def w132 : Dev := (full.setReg 0xA08810 0x80000801)
def w133 : Dev := { full with coll := { full.coll with signals := [⟨4, ⟨true, false, none, 0, 0⟩, true, false⟩] } }
def w134 : Dev := { full with coll := { full.coll with signals := [⟨4, ⟨true, false, none, 0, 0⟩, false, false⟩] } }
def w135 : Dev := { full with coll := { full.coll with alertGap := true, alertLast := (some ⟨4, ⟨false, true, none, 0, 0⟩, false, false⟩) } }
def w136 : Dev := { up with mbx := [(11534336, ⟨1, true, (some Master.core), true, false, 2, 1, false, 12302652056939934532⟩)] }
def w137 : Dev := { up with mbx := [(11534336, ⟨1, false, (some Master.core), true, false, 2, 0, false, 7⟩)] }
/-- Registers set: BIST.CTL.POLICY. -/
def w138 : Dev := (Dev.reset.setReg 0xC00014 0x8)
/-- Registers set: MGMT.I3C.STATUS. -/
def w139 : Dev := { (up.setReg 0xA02004 0x8000) with mgmt := { up.mgmt with ibis := [(1, ⟨3, 4, 0⟩), (3, ⟨2, 4, 1⟩)] } }
def w140 : Dev := { up with now := 100000000000, mgmt := { up.mgmt with wdtRuns := true } }
def w141 : Dev := { up with now := 100000000000, mgmt := { up.mgmt with wdtTimes := [99000000000, 98000000000], wdtRuns := true } }
/-- Registers set: CHIP.OWNER.OWN320. -/
def w142 : Dev := (up.setReg 0x4500 0x2000)
def w143 : Dev := { up with mgmt := { up.mgmt with norUsable := false } }
/-- Registers set: MGMT.CORE.STATUS. -/
def w144 : Dev := (up.setReg 0xA01004 0x900)
def w145 : Dev := { up with mgmt := { up.mgmt with fwOp := (some (1, 1)) } }
def w146 : Dev := { up with mgmt := { up.mgmt with progBuf := (List.replicate 1024 (0, 0)) } }
/-- Registers set: MGMT.CORE.STATUS. -/
def w147 : Dev := { (up.setReg 0xA01004 0x900) with mgmt := { up.mgmt with nor := [(196608, 0x46), (196609, 0x53), (196610, 0), (196611, 0), (196612, 1), (196613, 0), (196614, 0), (196615, 0), (196616, 0), (196617, 1), (196618, 0), (196619, 0), (196628, 0), (196629, 0), (196630, 0), (196631, 0), (196632, 14), (196633, 0x21), (196634, 0x55), (196635, 0x30), (196639, 0)], fwTry := 1, fwOp := (some (2, 1)) } }
/-- Registers set: MGMT.CORE.STATUS. -/
def w148 : Dev := { (up.setReg 0xA01004 0x900) with mgmt := { up.mgmt with nor := [(196608, 0x46), (196609, 0x53), (196610, 0), (196611, 0), (196612, 1), (196613, 0), (196614, 0), (196615, 0), (196616, 0), (196617, 1), (196618, 0), (196619, 0), (196628, 0), (196629, 0), (196630, 0), (196631, 0), (196632, 14), (196633, 0x21), (196634, 0x55), (196635, 0x30), (196639, 0)], fwTry := 1, fwOp := (some (3, 1)) } }
/-- Registers set: MGMT.CORE.STATUS. -/
def w149 : Dev := { (up.setReg 0xA01004 0x900) with otp := { up.otp with lifecycle := 1 }, mgmt := { up.mgmt with nor := [(196608, 0x46), (196609, 0x53), (196610, 0), (196611, 0), (196612, 1), (196613, 0), (196614, 0), (196615, 0), (196616, 0), (196617, 1), (196618, 0), (196619, 0), (196628, 0), (196629, 0), (196630, 0), (196631, 0), (196632, 14), (196633, 0x21), (196634, 0x55), (196635, 0x30), (196639, 0)], fwTry := 1, fwOp := (some (3, 1)) } }
/-- Registers set: MGMT.CORE.STATUS. -/
def w150 : Dev := { (up.setReg 0xA01004 0x900) with mgmt := { up.mgmt with nor := [(196608, 0x46), (196609, 0x53), (196610, 0), (196611, 0), (196612, 1), (196613, 0), (196614, 0), (196615, 0), (196616, 0), (196617, 1), (196618, 0), (196619, 0), (196628, 0), (196629, 0), (196630, 0), (196631, 0), (196632, 14), (196633, 0x21), (196634, 0x55), (196635, 0x30), (196639, 0)], fwTry := 1, fwOp := (some (4, 1)) } }
def w151 : Dev := { up with otp := { up.otp with lifecycle := 0 } }
def w152 : Dev := { up with otp := { up.otp with lifecycle := 1 } }
def w153 : Dev := { up with icStart := (some 5) }
/-- Registers set: CHIP.DAWN.STATUS. -/
def w154 : Dev := (up.setReg 0x3000 0x140700)
/-- Registers set: PC000.STATUS. -/
def w155 : Dev := (up.setReg 0x100028 0x300)
/-- Registers set: PC000.STATUS; HBOX.CTL.CFG; HBOX.HB0.STATUS; BIST.CTL.CMD. -/
def w156 : Dev := (((((up.setReg 0x100028 0x100).setReg 0x800000 0x802).setReg 0x801004 0x6400).setReg 0xC00000 0x8).upHb 0 (fun c => { c with cart := (some ⟨⟨0x11, true, 2000000⟩, (some ⟨1, 2, 0, true, false, false, false, 0x11, 0, 0, 1, 7, 0x11, ⟨7, 0x11, 1⟩, ⟨7, 0x11, 1⟩, 1000000, 0, 0, 0, 0, []⟩), none, [⟨1, 1, 2, 2, 3, 1, [(0, 1)], [(0, 0xAB)], []⟩, ⟨1, 0, 1, 1, 0, 1, [(0, 1)], [(0, 0xAB)], []⟩]⟩) }))
/-- Registers set: PC007.STATUS; BIST.CTL.CMD. -/
def w157 : Dev := { ((up.setReg 0x107028 0x300).setReg 0xC00000 0xE0) with crown := [(117440589, 5), (134217806, 6)], bist := (some ⟨true, 7, true, true, 1, false, false, false, 0⟩) }
/-- Registers set: PC000.STATUS. -/
def w158 : Dev := { (up.setReg 0x100028 0x100) with bist := (some ⟨true, 0, true, true, 1, false, false, false, 0⟩) }
/-- Registers set: PC007.STATUS; BIST.CTL.CMD. -/
def w159 : Dev := { ((up.setReg 0x107028 0x300).setReg 0xC00000 0xE0) with crown := [(117440589, 5), (134217806, 6)], bist := (some ⟨true, 7, true, true, 2, false, false, false, 0⟩) }
/-- Registers set: PC007.STATUS; BIST.CTL.CMD. -/
def w160 : Dev := { ((up.setReg 0x107028 0x300).setReg 0xC00000 0xE0) with crown := [(117440589, 5), (134217806, 6)], bist := (some ⟨true, 7, true, true, 3, false, false, false, 0⟩) }
/-- Registers set: PC007.STATUS; BIST.CTL.CMD. -/
def w161 : Dev := { ((up.setReg 0x107028 0x300).setReg 0xC00000 0xE0) with crown := [(117440589, 5), (134217806, 6)], bist := (some ⟨true, 7, true, true, 4, false, false, false, 0⟩) }
/-- Registers set: OTP.CTL.CMD. -/
def w162 : Dev := { (up.setReg 0xB00000 0x1480) with wide := [(755914244097, 6)] }
/-- Registers set: OTP.CTL.CMD. -/
def w163 : Dev := { (up.setReg 0xB00000 0x2010) with wide := [(755914244097, 7)], otp := { up.otp with words := [(513, 5)] } }
/-- Registers set: OTP.CTL.CMD. -/
def w164 : Dev := { (up.setReg 0xB00000 0x2010) with wide := [(755914244097, 6)], otp := { up.otp with words := [(513, 5)] } }
/-- Registers set: OTP.CTL.CMD. -/
def w165 : Dev := { (up.setReg 0xB00000 0x2000) with wide := [(755914244097, 7)], otp := { up.otp with words := [(512, 5)] } }
/-- Registers set: OTP.CTL.CMD. -/
def w166 : Dev := { (up.setReg 0xB00000 0x2010) with wide := [(755914244097, 6)], otp := { up.otp with words := [(16, 1), (17, 1), (18, 1), (19, 1), (20, 1), (21, 1), (22, 1), (23, 1), (24, 1), (25, 1), (26, 1), (27, 1), (28, 1), (29, 1), (30, 1), (31, 1), (32, 1), (33, 1), (34, 1), (35, 1), (36, 1), (37, 1), (38, 1), (39, 1), (40, 1), (41, 1), (42, 1), (43, 1), (44, 1), (45, 1), (46, 1), (47, 1)] } }
def w167 : Dev := { served with dbgBusy := true }
/-- Registers set: PC000.STATUS. -/
def w168 : Dev := { (full.setReg 0x100028 0x300) with batt := { full.batt with active := (some ⟨[(114880, 1)], 1, []⟩) } }
def w169 : Dev := { served with batt := { served.batt with active := (some ⟨[(114880, 1)], 0, []⟩) } }

/-! ### How a hypothesis about every master, block or offset is met -/

theorem takes_of {s : Dev} {r : Req} (h : s.node ≠ 0 ∧ s.node ≠ 0xFFF ∧ Req.node r = s.node ∧ s.recordOf r.src r.tag = .none ∧
    s.claimOutcome r.src = s ∧ (match s.lookup none r.src.toNat 15 vcRsp with | .out _ _ => true | _ => false) = true) : s.takes r := by
  obtain ⟨a, b, c, d, e, f⟩ := h
  refine ⟨a, b, c, d, e, ?_⟩
  split at f
  · next o g hh => exact ⟨o, g, hh⟩
  · exact absurd f (by simp)
theorem routed {s : Dev} {n : Nat} (h : (match s.lookup none n 15 vcRsp with | .out _ _ => true | _ => false) = true) :
    ∃ o g, s.lookup none n 15 vcRsp = .out o g := by
  split at h
  · next o g hh => exact ⟨o, g, hh⟩
  · exact absurd h (by simp)
theorem bars_none {s : Dev} {m : Master} {b : Nat} (h : s.rd base.owner ⟨4 * (b / 4096 / 8), 4 * (b / 4096 % 8), 4⟩ = 0) :
    s.ownerBars m b = false := by simp [Dev.ownerBars, h]
theorem bars_nobody {s : Dev} {m : Master} {b : Nat} (h : ∀ k : Fin 512, s.reg (base.owner + 4 * k.val) = 0) :
    s.ownerBars m b = false := by
  by_cases g : b / 4096 < 4096
  · refine bars_none ?_
    have e := h ⟨b / 4096 / 8, by omega⟩
    simp only [Dev.rd, Fld.get]
    rw [e]
    simp
  · simp [Dev.ownerBars, g]
theorem barred_free {s : Dev} {m : Master} {k : Blk} {b o : Nat} {w : Bool} (h : (s.shut || s.unclocked) = false)
    (u : s.blockUp (Site.domain ⟨k, b, 0⟩) = true) (c : s.clockOff ⟨k, b, 0⟩ = false) : s.barred m ⟨k, b, o⟩ w = false := by
  have u' : s.blockUp (Site.domain ⟨k, b, o⟩) = true := u
  have c' : s.clockOff ⟨k, b, o⟩ = false := c
  unfold Dev.barred
  rw [h, u', c']
  rfl
theorem prbs_low : ((0 : BitVec 160) ^^^ (Config.prbs13.zeroExtend 160) <<< 32).toNat % 2 ^ 32 = 0 := by
  simp [BitVec.toNat_shiftLeft, Nat.shiftLeft_eq]
theorem nor_unusable {s : Dev} {k : Nat} (h : s.mgmt.norUsable = false) : s.fwCheck k ≠ fwOk := by
  simp [Dev.fwCheck, h, fwSpiErr, fwOk]
theorem get_unlisted (d : Nat → Word) (a : Nat) : ∀ t : Tab Word, t.all (fun e => e.1 != a) = true → Tab.get d t a = d a
  | [], _ => rfl
  | (j, v) :: t, h => by
    simp only [List.all_cons, Bool.and_eq_true, bne_iff_ne] at h
    simp [Tab.get, h.1, get_unlisted d a t h.2]
theorem debt_words_reset : ∀ (p : Fin 128) (k : Fin 8), resetWord (base.pc p + 0x90 + 4 * k) = 0 := by decide +kernel
theorem debts_small {s : Dev} (h : s.regs.all (fun e => e.1 % 4096 < 0x90 || 0xB0 ≤ e.1 % 4096) = true) (p : Fin 128) (b : Fin 32) :
    s.debt p b ≤ 16 := by
  have m : s.regs.all (fun e => e.1 != base.pc p + 0x90 + 4 * (b / 4)) = true := by
    rw [List.all_eq_true] at h ⊢
    intro e he
    have g := h e he
    simp only [Bool.or_eq_true, decide_eq_true_eq, bne_iff_ne] at g ⊢
    intro c
    have : base.pc p % 4096 = 0 := by simp only [base.pc]; omega
    omega
  have r := debt_words_reset p ⟨b / 4, by omega⟩
  have w : s.reg (base.pc p + 0x90 + 4 * (b / 4)) = 0 := by rw [Dev.reg, get_unlisted resetWord _ _ m]; exact r
  simp only [Dev.debt, Dev.pcr, Dev.rd, debtFld, ← Nat.add_assoc]
  rw [w]
  simp [Fld.get]

/-! ### Witnesses of the statements' hypotheses -/

/-- The hypotheses of Obligations.StepTakesFront (A step runs the command at the front of the queue; an empty queue idles) are met, clause by clause. -/
theorem witness_StepTakesFront :
    ∃ s : State, (s.pending = []) := 
    ⟨st net, rfl⟩

/-- The hypotheses of Obligations.EveryCommandAnswers (Every command completes and leaves the queue alone) are met, clause by clause. -/
theorem witness_EveryCommandAnswers :
    ∃ s : State, ∃ t : State, (s.queueWf) ∧ (step s = .next t) := 
    ⟨{ net with pending := [.bypass] }, _, (by unfold State.queueWf; decide), rfl⟩

/-- The hypotheses of Obligations.CrownCanonical (Every step keeps the Crown in canonical form) are met, clause by clause. -/
theorem witness_CrownCanonical :
    ∃ s : State, ∃ t : State, (s.crown.wf (fun _ => 0) = true) ∧ (step s = .next t) := 
    ⟨{ net with crown := [(3, 7)], pending := [.bypass] }, _, by decide +kernel, rfl⟩

/-- The hypotheses of Obligations.OtpNeverErased (No step returns a bit of the OTP array to 0) are met, clause by clause. -/
theorem witness_OtpNeverErased :
    ∃ s : State, ∃ t : State, (step s = .next t) := 
    ⟨{ net with otp := { net.otp with words := [(3, 7)] }, pending := [.powerUp] }, _, rfl⟩

/-- The hypotheses of Obligations.AddressMap (The decode of line indices is a bijection in every interleave mode) are met, clause by clause. -/
theorem witness_AddressMap :
  (
    ∃ l : Nat, (l < 2 ^ 31)) ∧
  (
    ∃ p : Place, (p.pc < 128) ∧ (p.bank < 32) ∧ (p.row < 16384) ∧ (p.col < 32)) := ⟨
    ⟨2 ^ 31 - 1, by decide⟩,
    ⟨⟨127, 31, 16383, 31⟩, by decide, by decide, by decide, by decide⟩⟩

/-- The hypotheses of Obligations.UnassignedNode (A data request to node 0x000 or 0xFFF is answered ADDR_ERR and not forwarded) are met, clause by clause. -/
theorem witness_UnassignedNode :
    ∃ s : State, ∃ r : Req, (Req.node r = 0 ∨ Req.node r = 0xFFF) ∧ (s.node ≠ 0) ∧ ((∃ o h,
    s.lookup none r.src.toNat 15 vcRsp = .out o h)) := 
    ⟨st net, ⟨0, 9, false, 3, 9, 0, false, 0, 0, 0⟩, (by decide +kernel), (by decide +kernel),
    (routed (by decide +kernel))⟩

/-- The hypotheses of Obligations.ZeroFilledLine (A zero-filled line) are met, clause by clause. -/
theorem witness_ZeroFilledLine :
    ∃ s : State, (s.pf.zeroFill = true) ∧ (s.pfPhase = pfIdle) ∧ (s.rungPhase = rpSteady) ∧ (s.hbState 0 ≠ hbResync) ∧
    (s.hbState 1 ≠ hbResync) := 
    ⟨st w1, (by decide +kernel), (by decide +kernel), (by decide +kernel), (by decide +kernel), (by decide +kernel)⟩

/-- The hypotheses of Obligations.ReadQueued (RD joins the read queues) are met, clause by clause. -/
theorem witness_ReadQueued :
    ∃ s : State, ∃ port : Fin 6, ∃ r : Req, let d := s.takeIn port ⟨vcReq, [reqSlot opcRd r], none⟩
    let l := Req.localAddr r / 64
    (d.takes r) ∧ (d.dataError opcRd r = none) ∧ (d.reasons (some l) = []) ∧ (d.unrestored (unitOf l) = false) := 
    ⟨st served, 0, ⟨0, 9, false, 3, 9, 0xA000000000, false, 0, 0, 0⟩, (takes_of (by decide +kernel)),
    (by decide +kernel), (by decide +kernel), (by decide +kernel)⟩

/-- The hypotheses of Obligations.WriteAccepted (WR, and a WRM of all bytes, are accepted and answered) are met, clause by clause. -/
theorem witness_WriteAccepted :
  (
    ∃ s : State, ∃ port : Fin 6, ∃ r : Req, ∃ data : BitVec 512, let l := Req.localAddr r / 64
    let d := s.takeIn port ⟨vcReq, reqSlot opcWr r :: dataSlots data, none⟩
    (d.takes r) ∧ (d.dataError opcWr r = none) ∧ (d.plainLine l)) ∧
  (
    ∃ s : State, ∃ port : Fin 6, ∃ r : Req, ∃ data : BitVec 512, let l := Req.localAddr r / 64
    ∃ mask : BitVec 128, (wrmEnabled r mask = BitVec.allOnes 64) ∧ let d := s.takeIn port ⟨vcReq,
    wrmSlots r mask data, none⟩
    (d.takes r) ∧ (d.dataError opcWrm r = none) ∧ (d.plainLine l)) := ⟨
    ⟨st served, 0, ⟨0, 9, false, 3, 9, 0xA000000000, false, 0, 0, 0⟩, (0 : BitVec 512),
    (takes_of (by decide +kernel)), (by decide +kernel), (by unfold Dev.plainLine; decide +kernel)⟩,
    ⟨st served, 0, ⟨0, 9, false, 3, 9, 0xA000000000, false, 0, 0, 0x3F⟩, (0 : BitVec 512),
    (0xFFFFFFFFFFFFFFFFFFFFFFFFFFFFFFFF : BitVec 128), (by decide +kernel), (takes_of (by decide +kernel)),
    (by decide +kernel), (by unfold Dev.plainLine; decide +kernel)⟩⟩

/-- The hypotheses of Obligations.PartialWriteJoins (Partial writes join the merge buffer; TAG takes a place among the reads) are met, clause by clause. -/
theorem witness_PartialWriteJoins :
  (
    ∃ s : State, ∃ port : Fin 6, ∃ r : Req, let l := Req.localAddr r / 64
    ∃ mask, ∃ data, (wrmEnabled r mask ≠ BitVec.allOnes 64) ∧ let d := s.takeIn port ⟨vcReq, wrmSlots r mask data,
    none⟩
    (d.takes r) ∧ (d.dataError opcWrm r = none) ∧ (d.plainLine l) ∧ (d.joins l = true)) ∧
  (
    ∃ s : State, ∃ port : Fin 6, ∃ r : Req, let l := Req.localAddr r / 64
    let p := (s.place l).pc
    ∃ slot1, let d := s.takeIn port ⟨vcReq, [reqSlot opcAtom r, slot1], none⟩
    (d.takes r) ∧ (d.dataError opcAtom r = none) ∧ (d.plainLine l) ∧ (d.joins l = true) ∧ ((d.pc p).l1.length < 32) ∧
    ((∀ m ∈ (d.pc p).mergeBuf, m.line = l → m.readIssued = false))) ∧
  (
    ∃ s : State, ∃ port : Fin 6, ∃ r : Req, let l := Req.localAddr r / 64
    let d := s.takeIn port ⟨vcReq, [reqSlot opcTag r], none⟩
    (d.takes r) ∧ (d.dataError opcTag r = none) ∧ (d.plainLine l)) := ⟨
    ⟨st served, 0, ⟨0, 9, false, 3, 9, 0xA000000000, false, 0, 0, 0⟩, (0 : BitVec 128), (0 : BitVec 512),
    (by decide +kernel), (takes_of (by decide +kernel)), (by decide +kernel),
    (by unfold Dev.plainLine; decide +kernel), (by decide +kernel)⟩,
    ⟨st served, 0, ⟨0, 9, false, 3, 9, 0xA000000000, false, 0, 0, 0⟩, (0 : BitVec 128),
    (takes_of (by decide +kernel)), (by decide +kernel), (by unfold Dev.plainLine; decide +kernel),
    (by decide +kernel), (by decide +kernel), (by decide +kernel)⟩,
    ⟨st served, 0, ⟨0, 9, false, 3, 9, 0xA000000000, false, 0, 0, 0⟩, (takes_of (by decide +kernel)),
    (by decide +kernel), (by unfold Dev.plainLine; decide +kernel)⟩⟩

/-- The hypotheses of Obligations.OutcomeQuery (OUTCOME answers the record and fences it) are met, clause by clause. -/
theorem witness_OutcomeQuery :
    ∃ s : State, ∃ port : Fin 6, ∃ r : Req, let d := s.takeIn port ⟨vcReq, [reqSlot opcOutcome r], none⟩
    (d.takes r) ∧ (r.sub = 0) ∧ (r.cls.toNat < 2) := 
    ⟨st served, 0, ⟨0, 9, false, 3, 9, 0xA000000000, false, 0, 0, 0⟩, (takes_of (by decide +kernel)),
    (by decide +kernel), (by decide +kernel)⟩

/-- The hypotheses of Obligations.EpochCommands (EPOCH commands: QUERY, SEAL, WAIT_DURABLE) are met, clause by clause. -/
theorem witness_EpochCommands :
  (
    ∃ s : State, ∃ port : Fin 6, ∃ r : Req, (r.cls.toNat < 2) ∧ let r0 : Req := { r with sub := 0 }
    let d := s.takeIn port ⟨vcReq, [reqSlot opcEpoch r0], none⟩
    (d.takes r0) ∧ (d.reasons none = []) ∧ (d.hasEpoch = true)) ∧
  (
    ∃ s : State, ∃ port : Fin 6, ∃ r : Req, (r.cls.toNat < 2) ∧ let r1 : Req := { r with sub := 1 }
    let d := s.takeIn port ⟨vcReq, [reqSlot opcEpoch r1], none⟩
    (d.takes r1) ∧ (d.reasons none = []) ∧ (d.hasEpoch = true) ∧ (d.deferredCount < 256) ∧ (d.fuller.xbarCmds = []) ∧
    (d.epState = epOpen) ∧ (d.nonDurable = false) ∧ (d.fuller.sealAt = none) ∧ (d.labelTaken = false)) ∧
  (
    ∃ s : State, ∃ port : Fin 6, ∃ r : Req, (r.cls.toNat < 2) ∧ let r2 : Req := { r with sub := 2 }
    let d := s.takeIn port ⟨vcReq, [reqSlot opcEpoch r2], none⟩
    (d.takes r2) ∧ (d.reasons none = []) ∧ (d.hasEpoch = true) ∧ (r.arg ≠ 0) ∧ (atOrAfter d.epochO r.arg = true) ∧
    (d.deferredCount < 256) ∧ (d.fuller.xbarCmds = []) ∧ (d.epochD ≠ 0) ∧ (atOrAfter d.epochD r.arg = true)) ∧
  (
    ∃ s : State, ∃ port : Fin 6, ∃ r : Req, (r.cls.toNat < 2) ∧ let r2 : Req := { r with sub := 2 }
    let d := s.takeIn port ⟨vcReq, [reqSlot opcEpoch r2], none⟩
    (d.takes r2) ∧ (d.reasons none = []) ∧ (d.hasEpoch = true) ∧ (r.arg ≠ 0) ∧ (atOrAfter d.epochO r.arg = true) ∧
    (d.deferredCount < 256) ∧ (d.fuller.xbarCmds = []) ∧ (d.epochD = 0)) := ⟨
    ⟨st w2, 0, ⟨0, 9, false, 3, 9, 0xA000000000, false, 0, 0, 0⟩, (by decide +kernel), (takes_of (by decide +kernel)),
    (by decide +kernel), (by decide +kernel)⟩,
    ⟨st w2, 0, ⟨0, 9, false, 3, 9, 0xA000000000, false, 0, 0, 0⟩, (by decide +kernel), (takes_of (by decide +kernel)),
    (by decide +kernel), (by decide +kernel), (by decide +kernel), (by decide +kernel), (by decide +kernel),
    (by decide +kernel), (by decide +kernel), (by decide +kernel)⟩,
    ⟨st w2, 0, ⟨0, 9, false, 9, 9, 0xA000000000, false, 0, 0, 2⟩, (by decide +kernel), (takes_of (by decide +kernel)),
    (by decide +kernel), (by decide +kernel), (by decide +kernel), (by decide +kernel), (by decide +kernel),
    (by decide +kernel), (by decide +kernel), (by decide +kernel)⟩,
    ⟨st w3, 0, ⟨0, 9, false, 5, 9, 0xA000000000, false, 0, 0, 4⟩, (by decide +kernel), (takes_of (by decide +kernel)),
    (by decide +kernel), (by decide +kernel), (by decide +kernel), (by decide +kernel), (by decide +kernel),
    (by decide +kernel), (by decide +kernel)⟩⟩

/-- The hypotheses of Obligations.RegionCommands (REGION commands: QUERY and FLUSH) are met, clause by clause. -/
theorem witness_RegionCommands :
  (
    ∃ s : State, ∃ port : Fin 6, ∃ r : Req, (r.cls.toNat < 2) ∧ let n := bitsOf r.arg.toNat 0 6
    let r0 : Req := { r with sub := 0 }
    let d := s.takeIn port ⟨vcReq, [reqSlot opcRegion r0], none⟩
    (d.takes r0) ∧ (d.rgnValid n = true) ∧ (d.reasons none = []) ∧ (d.quiescedScope (12 + n) = false)) ∧
  (
    ∃ s : State, ∃ port : Fin 6, ∃ r : Req, (r.cls.toNat < 2) ∧ let n := bitsOf r.arg.toNat 0 6
    let r1 : Req := { r with sub := 1 }
    let d := s.takeIn port ⟨vcReq, [reqSlot opcRegion r1], none⟩
    (d.takes r1) ∧ (d.rgnValid n = true) ∧ (d.reasons none = []) ∧ (d.quiescedScope (12 + n) = false) ∧
    (d.deferredCount < 256) ∧ (d.fuller.xbarCmds = []) ∧ (d.nonDurable = false) ∧
    (d.flushUnits (some n) ++ d.flushSeeds (some n) = [])) ∧
  (
    ∃ s : State, ∃ port : Fin 6, ∃ r : Req, (r.cls.toNat < 2) ∧ let n := bitsOf r.arg.toNat 0 6
    let r1 : Req := { r with sub := 1 }
    let d := s.takeIn port ⟨vcReq, [reqSlot opcRegion r1], none⟩
    (d.takes r1) ∧ (d.rgnValid n = true) ∧ (d.reasons none = []) ∧ (d.quiescedScope (12 + n) = false) ∧
    (d.deferredCount < 256) ∧ (d.fuller.xbarCmds = []) ∧ (d.nonDurable = false) ∧ (d.classOf n ≠ clsVolatile) ∧
    (d.flushUnits (some n) ++ d.flushSeeds (some n) ≠ [])) := ⟨
    ⟨st w2, 0, ⟨0, 9, false, 3, 9, 0xA000000000, false, 0, 0, 0⟩, (by decide +kernel), (takes_of (by decide +kernel)),
    (by decide +kernel), (by decide +kernel), (by decide +kernel)⟩,
    ⟨st w2, 0, ⟨0, 9, false, 3, 9, 0xA000000000, false, 0, 0, 0⟩, (by decide +kernel), (takes_of (by decide +kernel)),
    (by decide +kernel), (by decide +kernel), (by decide +kernel), (by decide +kernel), (by decide +kernel),
    (by decide +kernel), (by decide +kernel)⟩,
    ⟨st w4, 0, ⟨0, 9, false, 3, 9, 0xA000000000, false, 0, 0, 0⟩, (by decide +kernel), (takes_of (by decide +kernel)),
    (by decide +kernel), (by decide +kernel), (by decide +kernel), (by decide +kernel), (by decide +kernel),
    (by decide +kernel), (by decide +kernel), (by decide +kernel)⟩⟩

/-- The hypotheses of Obligations.FabricManagement (MRD, MWR and the broadcast MWR reach registers) are met, clause by clause. -/
theorem witness_FabricManagement :
  (
    ∃ s : State, ∃ port : Fin 6, ∃ r : Req, (s.mgmt.late = []) ∧ ((∀ m, s.ownerBars m base.chipId = false)) ∧
    (s.shut = false) ∧ (s.unclocked = false) ∧ (Req.node r ≠ 0xFFF) ∧ (Req.localAddr r = 0) ∧
    let d := s.takeIn port ⟨vcMgt, [reqSlot opcMrd r], none⟩
    (d.takes r) ∧ (mgtRefused r = none)) ∧
  (
    ∃ s : State, ∃ port : Fin 6, ∃ r : Req, (s.mgmt.late = []) ∧ ((∀ m, s.ownerBars m base.chipId = false)) ∧
    (s.shut = false) ∧ (s.unclocked = false) ∧ (Req.node r ≠ 0xFFF) ∧ (Req.localAddr r = 8) ∧
    let d := s.takeIn port ⟨vcMgt, [reqSlot opcMwr r], none⟩
    (d.takes r) ∧ (mgtRefused r = none) ∧ ((s.item itMgtPorts 0).testBit port = true)) ∧
  (
    ∃ s : State, ∃ port : Fin 6, ∃ r : Req, (s.mgmt.late = []) ∧ ((∀ m, s.ownerBars m base.chipId = false)) ∧
    (s.shut = false) ∧ (s.unclocked = false) ∧ (Req.node r ≠ 0xFFF) ∧ ∃ b : Req, (Req.node b = 0xFFF) ∧
    (Req.localAddr b = 8) ∧ (b.sub = 0) ∧ (b.cls.toNat < 2) ∧ ((s.item itMgtPorts 0).testBit port = true) ∧ ((b.src,
    b.tag) ∉ s.dups)) := ⟨
    ⟨st served, 0, ⟨0, 9, false, 3, 9, 0xA000000000, false, 0, 0, 0⟩, (by decide +kernel),
    (fun _ => bars_none (by decide +kernel)), (by decide +kernel), (by decide +kernel), (by decide +kernel),
    (by decide +kernel), (takes_of (by decide +kernel)), (by decide +kernel)⟩,
    ⟨st served, 0, ⟨0, 9, false, 3, 9, 0xA000000008, false, 0, 0, 0⟩, (by decide +kernel),
    (fun _ => bars_none (by decide +kernel)), (by decide +kernel), (by decide +kernel), (by decide +kernel),
    (by decide +kernel), (takes_of (by decide +kernel)), (by decide +kernel), (by decide +kernel)⟩,
    ⟨st served, 0, ⟨0, 9, false, 3, 9, 0xA000000000, false, 0, 0, 0⟩, (by decide +kernel),
    (fun _ => bars_none (by decide +kernel)), (by decide +kernel), (by decide +kernel), (by decide +kernel), ⟨0, 9,
    false, 9, 9, 0x1FFE000000008, false, 0, 0, 0x4D⟩, (by decide +kernel), (by decide +kernel), (by decide +kernel),
    (by decide +kernel), (by decide +kernel), (by decide +kernel)⟩⟩

/-- The hypotheses of Obligations.HeldPackets (Packets held too long are discarded; an outcome entry is released) are met, clause by clause. -/
theorem witness_HeldPackets :
  (
    ∃ s : State, ∃ port : Fin 6, ∃ k, ((s.fp port).rxq.find? (fun k => k.vc = vcReq) = some k)) ∧
  (
    ∃ s : State, ∃ port : Fin 6, ∃ k, ((s.fp port).rxq.find? (fun k => k.vc = vcMgt) = some k)) ∧
  (
    ∃ s : State, ∃ port : Fin 6, ((s.fp port).rxq.find? (fun k => k.vc = vcReq) = none) ∧ ∃ w, ∃ ws,
    (s.xbarWaiting port = w :: ws)) ∧
  (
    ∃ s : State, ∃ port : Fin 6, ((s.fp port).rxq.find? (fun k => k.vc = vcReq) = none) ∧ (s.xbarWaiting port = []) ∧
    ∃ n, ∃ k, (s.txWaiting port vcReq = some (n, k))) ∧
  (
    ∃ s : State, ∃ port : Fin 6, ((s.fp port).rxq.find? (fun k => k.vc = vcMgt) = none) ∧ ∃ n, ∃ k,
    (s.txWaiting port vcMgt = some (n, k))) := ⟨
    ⟨st w5, 0, ⟨(0 : BitVec 2), [(0xA000000040009003481 : BitVec 128)], none⟩, (by decide +kernel)⟩,
    ⟨st w5, 0, ⟨(2 : BitVec 2), [(5 : BitVec 128)], none⟩, (by decide +kernel)⟩,
    ⟨st w6, 0, (by decide +kernel), (0xA000000000009003486 : BitVec 128), [], (by decide +kernel)⟩,
    ⟨st w7, 0, (by decide +kernel), (by decide +kernel), 1, ⟨(0 : BitVec 2), [(0xA000000040009003481 : BitVec 128)],
    (some 0)⟩, (by decide +kernel)⟩,
    ⟨st w7, 0, (by decide +kernel), 1, ⟨(2 : BitVec 2), [(0xA00000004000900348C : BitVec 128)], (some 0)⟩,
    (by decide +kernel)⟩⟩

/-- The hypotheses of Obligations.Mirror (Mirror packets received and answers of the mirror node) are met, clause by clause. -/
theorem witness_Mirror :
  (
    ∃ s : State, ∃ port : Fin 6, ∃ r : Req, ∃ data : BitVec 512, let d := s.takeIn port ⟨vcPer,
    reqSlot opcMirWr r :: dataSlots data, none⟩
    let l := Req.localAddr r / 64
    let p := (s.place l).pc
    (d.takes r) ∧ (r.sub.toNat ≤ 1) ∧ (r.cls ≠ 3) ∧ (r.addr.toNat % 64 = 0) ∧ (d.inShadow l = false) ∧
    (d.reasons (some l) = []) ∧ (d.unrestored (unitOf l) = false) ∧ (d.bpHolds l = false) ∧
    (unitOf l ∉ d.fuller.seeds) ∧ ((d.pc p).wqUsed + d.pendingTags p < 64)) ∧
  (
    ∃ s : State, ∃ port : Fin 6, ∃ r : Req, ∃ slot1 : BitVec 128, ∃ n : Nat, let d := s.takeIn port ⟨vcPer,
    [reqSlot opcMirXchg r, slot1], none⟩
    let span := BitVec.ofNat 32 (slot1.toNat % 2 ^ 32)
    (d.takes r) ∧ (r.sub = 0) ∧ (r.cls ≠ 3) ∧ (d.reasons none = []) ∧ (n < 64) ∧ (d.rgnValid n = true) ∧
    (d.classOf n = clsMirrored) ∧ (d.rd base.rgn (RGN.SPAN.BASE.at 8 n) = RGN.SPAN.BASE.get span) ∧
    (d.rd base.rgn (RGN.SPAN.LAST.at 8 n) = RGN.SPAN.LAST.get span) ∧
    (d.rd base.rgn (RGN.ATTR.MIRROR_NODE.at 8 n) = r.src.toNat)) ∧
  (
    ∃ s : State, ∃ hdr : BitVec 128, (s.node ≠ 0) ∧ (bitsOf hdr.toNat 24 12 = s.node) ∧
    let tag : BitVec 12 := hdr.extractLsb' 12 12
    let st := bitsOf hdr.toNat 48 4
    ∃ m : MirOut, (s.fuller.mirOut.find? (fun x => x.tag = tag) = some m) ∧ (m.region < 64) ∧ (st = stOk) ∧
    (m.later = []) ∧ (m.resync = false)) ∧
  (
    ∃ s : State, ∃ hdr : BitVec 128, (s.node ≠ 0) ∧ (bitsOf hdr.toNat 24 12 = s.node) ∧
    let tag : BitVec 12 := hdr.extractLsb' 12 12
    let st := bitsOf hdr.toNat 48 4
    ∃ m : MirOut, (s.fuller.mirOut.find? (fun x => x.tag = tag) = some m) ∧ (m.region < 64) ∧ (st ≠ stOk) ∧
    (st ≠ stRetry)) ∧
  (
    ∃ s : State, ∃ hdr : BitVec 128, (s.node ≠ 0) ∧ (bitsOf hdr.toNat 24 12 = s.node) ∧
    let tag : BitVec 12 := hdr.extractLsb' 12 12
    (s.fuller.mirOut.find? (fun x => x.tag = tag) = none)) ∧
  (
    ∃ s : State, ∃ hdr : BitVec 128, (s.node ≠ 0) ∧ (bitsOf hdr.toNat 24 12 = s.node) ∧
    let st := bitsOf hdr.toNat 48 4
    let r := bitsOf hdr.toNat 12 6
    (s.wantsXchg r = true) ∧ (st = stOk) ∧ (s.mirState r = mirUnmatched)) ∧
  (
    ∃ s : State, ∃ hdr : BitVec 128, (s.node ≠ 0) ∧ (bitsOf hdr.toNat 24 12 = s.node) ∧
    let st := bitsOf hdr.toNat 48 4
    let r := bitsOf hdr.toNat 12 6
    (s.wantsXchg r = true) ∧ (st = stOk) ∧ (s.mirState r = mirBroken) ∧ (s.fuller.chunks.get (fun _ => []) r = [])) ∧
  (
    ∃ s : State, ∃ hdr : BitVec 128, (s.node ≠ 0) ∧ (bitsOf hdr.toNat 24 12 = s.node) ∧
    let st := bitsOf hdr.toNat 48 4
    let r := bitsOf hdr.toNat 12 6
    (s.wantsXchg r = true) ∧ (st ≠ stOk)) := ⟨
    ⟨st served, 0, ⟨0, 9, false, 3, 9, 0xA000000000, false, 0, 0, 0⟩, (0 : BitVec 512),
    (takes_of (by decide +kernel)), (by decide +kernel), (by decide +kernel), (by decide +kernel),
    (by decide +kernel), (by decide +kernel), (by decide +kernel), (by decide +kernel), (by decide +kernel),
    (by decide +kernel)⟩,
    ⟨st w8, 0, ⟨0, 9, false, 3, 9, 0xA000000000, false, 0, 0, 0⟩, (0 : BitVec 128), 0, (takes_of (by decide +kernel)),
    (by decide +kernel), (by decide +kernel), (by decide +kernel), (by decide +kernel), (by decide +kernel),
    (by decide +kernel), (by decide +kernel), (by decide +kernel), (by decide +kernel)⟩,
    ⟨st w9, (0x5021000 : BitVec 128), (by decide +kernel), (by decide +kernel), ⟨0x21, 5, 0, [⟨Op.fullWrite, 5, 4,
    (some 0), 2, ⟨0, 9, false, 3, 9, 0xA000000140, false, 0, 0, 0⟩, 5, 0, 0, true, none, Hold.none, false, 0⟩], [],
    10, none, false⟩, (by decide +kernel), (by decide +kernel), (by decide +kernel), (by decide +kernel),
    (by decide +kernel)⟩,
    ⟨st w9, (0x1000005022000 : BitVec 128), (by decide +kernel), (by decide +kernel), ⟨0x22, 6, 0, [⟨Op.fullWrite, 5,
    4, (some 0), 2, ⟨0, 9, false, 3, 9, 0xA000000140, false, 0, 0, 0⟩, 5, 0, 0, true, none, Hold.none, false, 0⟩], [],
    10, none, false⟩, (by decide +kernel), (by decide +kernel), (by decide +kernel), (by decide +kernel)⟩,
    ⟨st w10, (0x5021000 : BitVec 128), (by decide +kernel), (by decide +kernel), (by decide +kernel)⟩,
    ⟨st w11, (0x5000000 : BitVec 128), (by decide +kernel), (by decide +kernel), (by decide +kernel),
    (by decide +kernel), (by decide +kernel)⟩,
    ⟨st w12, (0x5000000 : BitVec 128), (by decide +kernel), (by decide +kernel), (by decide +kernel),
    (by decide +kernel), (by decide +kernel), (by decide +kernel)⟩,
    ⟨st w11, (0x2000005000000 : BitVec 128), (by decide +kernel), (by decide +kernel), (by decide +kernel),
    (by decide +kernel)⟩⟩

/-- The hypotheses of Obligations.FlitLayer (Flits sent and received, NAK and replay) are met, clause by clause, clauses 1 to 8. -/
theorem witness_FlitLayer :
  (
    ∃ s : State, ∃ port : Fin 6, (s.fpState port = fpActive) ∧ ((s.fp port).squelched = false) ∧ let f := s.fp port
    let b := base.fp port
    ∃ lanes : List (BitVec 320), (f.peerIdle = false) ∧ let r : RxFlit := ⟨lanes,
    (scrFlit f.rxScr (lanesOf (s.rd b FP.STATUS.RX_WIDTH))).1⟩
    (flitDecode (s.readFlit port r none) = none) ∧ ((∀ sub,
    s.standIn port = some sub → flitDecode (s.readFlit port r (some sub)) = none)) ∧ (f.nakPending = false)) ∧
  (
    ∃ s : State, ∃ port : Fin 6, (s.fpState port = fpActive) ∧ ((s.fp port).squelched = false) ∧ let f := s.fp port
    let b := base.fp port
    ∃ lanes : List (BitVec 320), (f.peerIdle = false) ∧ let r : RxFlit := ⟨lanes,
    (scrFlit f.rxScr (lanesOf (s.rd b FP.STATUS.RX_WIDTH))).1⟩
    ∃ v : Nat, ∃ syms : List Nat, ∃ vc : Nat, (flitDecode (s.readFlit port r none) = some (v, syms)) ∧
    (v / 2 ^ 528 % 2 ^ 4 = fkData) ∧ (v / 2 ^ 532 % 2 ^ 12 = s.rd b FP.LINK_SEQ.RX_EXPECTED) ∧
    (v / 2 ^ 512 % 2 ^ 16 = 12 + vc) ∧ (vc < 4) ∧ (f.rxUsed.get (fun _ => 0) vc < rxBuffer vc) ∧
    (f.partialRx.get (fun _ => []) vc = []) ∧ (packetSlots (BitVec.ofNat 128 v) = some 1)) ∧
  (
    ∃ s : State, ∃ port : Fin 6, (s.fpState port = fpActive) ∧ ((s.fp port).squelched = false) ∧ let f := s.fp port
    ∃ a : BitVec 12, (f.oldestSent < 5) ∧ (f.replay.any (fun e => e.1 = a) = false)) ∧
  (
    ∃ s : State, ∃ port : Fin 6, (s.fpState port = fpActive) ∧ ((s.fp port).squelched = false) ∧ let f := s.fp port
    ∃ a : BitVec 12, (f.oldestSent < 5) ∧ (f.replay.any (fun e => e.1 = a) = true)) ∧
  (
    ∃ s : State, ∃ port : Fin 6, (s.fpState port = fpActive) ∧ ((s.fp port).squelched = false) ∧ let f := s.fp port
    (f.nakPending = true)) ∧
  (
    ∃ s : State, ∃ port : Fin 6, (s.fpState port = fpActive) ∧ ((s.fp port).squelched = false) ∧ let f := s.fp port
    (f.replay ≠ []) ∧ (f.oldestSent < 5)) ∧
  (
    ∃ s : State, ∃ port : Fin 6, (s.fpState port = fpActive) ∧ ((s.fp port).squelched = false) ∧ let f := s.fp port
    (f.replay ≠ []) ∧ (5 ≤ f.oldestSent)) ∧
  (
    ∃ s : State, ∃ port : Fin 6, (s.fpState port = fpActive) ∧ ((s.fp port).squelched = false) ∧ let f := s.fp port
    (f.txIdle = false) ∧ (f.resumeLeft = 0) ∧ (1023 ≤ f.sinceNull)) := ⟨
    ⟨st served, 0, (by decide +kernel), (by decide +kernel), [], (by decide +kernel), (by decide +kernel),
    (by decide +kernel), (by decide +kernel)⟩,
    ⟨st wideNet, 0, (by decide +kernel), (by decide +kernel), [0x2A800002AAAAC00000C1, 0x60000302AAEAC0000009,
    0xA8800102AA9AC00000D0, 0x4B020202AADAC0000000, 0x5B5000C2AABAC0000004, 0xDB0003C2AAFAC0000000,
    0xDCEA01C2AA8AC0000000, 0x1702A2C2AACAC000003C], (by decide +kernel),
    0xD1DFD49EA681C4CAFF000FFF0001000C0000000000000000000000000000000000000000000000000000000000000000000000000000000000000000000000000000000000000A000000040009003481,
    [], 0, (by decide +kernel), (by decide +kernel), (by decide +kernel), (by decide +kernel), (by decide +kernel),
    (by decide +kernel), (by decide +kernel), (by decide +kernel)⟩,
    ⟨st served, 0, (by decide +kernel), (by decide +kernel), (0 : BitVec 12), (by decide +kernel),
    (by decide +kernel)⟩,
    ⟨st w13, 0, (by decide +kernel), (by decide +kernel), (7 : BitVec 12), (by decide +kernel), (by decide +kernel)⟩,
    ⟨st w14, 0, (by decide +kernel), (by decide +kernel), (by decide +kernel)⟩,
    ⟨st w13, 0, (by decide +kernel), (by decide +kernel), (by decide +kernel), (by decide +kernel)⟩,
    ⟨st w15, 0, (by decide +kernel), (by decide +kernel), (by decide +kernel), (by decide +kernel)⟩,
    ⟨st w16, 0, (by decide +kernel), (by decide +kernel), (by decide +kernel), (by decide +kernel),
    (by decide +kernel)⟩⟩

/-- The hypotheses of Obligations.FlitLayer (Flits sent and received, NAK and replay) are met, clause by clause, clauses 9 to 11. -/
theorem witness_FlitLayer_2 :
  (
    ∃ s : State, ∃ port : Fin 6, (s.fpState port = fpActive) ∧ ((s.fp port).squelched = false) ∧ let f := s.fp port
    (f.txIdle = false) ∧ (f.resumeLeft = 0) ∧ (f.sinceNull < 1023) ∧ (f.nakToSend = true)) ∧
  (
    ∃ s : State, ∃ port : Fin 6, (s.fpState port = fpActive) ∧ ((s.fp port).squelched = false) ∧ let f := s.fp port
    (f.txIdle = false) ∧ (f.resumeLeft = 0) ∧ (f.sinceNull < 1023) ∧ (f.nakToSend = false) ∧ (f.resend = 0) ∧
    (f.replay.length < 512) ∧ ∃ m, ∃ rest, (f.lctl = m :: rest)) ∧
  (
    ∃ s : State, ∃ port : Fin 6, (s.fpState port = fpActive) ∧ ((s.fp port).squelched = false) ∧ let f := s.fp port
    (f.txIdle = false) ∧ (f.resumeLeft = 0) ∧ (f.nakToSend = false) ∧ (f.resend = 0) ∧ (f.lctl = []) ∧ (f.txq = []) ∧
    (f.sending = [])) := ⟨
    ⟨st w17, 0, (by decide +kernel), (by decide +kernel), (by decide +kernel), (by decide +kernel),
    (by decide +kernel), (by decide +kernel)⟩,
    ⟨st w18, 0, (by decide +kernel), (by decide +kernel), (by decide +kernel), (by decide +kernel),
    (by decide +kernel), (by decide +kernel), (by decide +kernel), (by decide +kernel), (7 : BitVec 128), [],
    (by decide +kernel)⟩,
    ⟨st served, 0, (by decide +kernel), (by decide +kernel), (by decide +kernel), (by decide +kernel),
    (by decide +kernel), (by decide +kernel), (by decide +kernel), (by decide +kernel), (by decide +kernel)⟩⟩

/-- The hypotheses of Obligations.PortTraining (Training of a port) are met, clause by clause, clauses 1 to 8. -/
theorem witness_PortTraining :
  (
    ∃ s : State, ∃ port : Fin 6, let f := s.fp port
    ∃ body : BitVec 160, (s.fpDisabled port = false) ∧ (f.squelched = false) ∧ let lane := body.toNat / 2 ^ 32 % 16
    (body.toNat % 2 ^ 32 = 0xF0D42B3C) ∧ (body.toNat / 2 ^ 144 = crc16 (body.toNat % 2 ^ 144) 144) ∧ (lane < 9) ∧
    (s.fpState port = fpLock)) ∧
  (
    ∃ s : State, ∃ port : Fin 6, let f := s.fp port
    ∃ body : BitVec 160, (s.fpDisabled port = false) ∧ (f.squelched = false) ∧ let lane := body.toNat / 2 ^ 32 % 16
    (body.toNat % 2 ^ 32 = 0xF0D42B3C) ∧ (body.toNat / 2 ^ 144 = crc16 (body.toNat % 2 ^ 144) 144) ∧ (lane < 9) ∧
    (s.fpState port = fpConfig) ∧ (body.toNat / 2 ^ 36 % 16 = 5) ∧
    (f.config.toNat = body.toNat / 2 ^ 52 % 4 + 4 * (body.toNat / 2 ^ 56 % 2 ^ 36)) ∧ (7 ≤ f.configSame)) ∧
  (
    ∃ s : State, ∃ port : Fin 6, let f := s.fp port
    ∃ body : BitVec 160, (s.fpDisabled port = false) ∧ (f.squelched = false) ∧
    let frame := body ^^^ ((Config.prbs13.zeroExtend 160) <<< 32)
    (frame.toNat % 2 ^ 32 ≠ 0x0F2BD4C3) ∧ (body.toNat % 2 ^ 32 ≠ 0xF0D42B3C)) ∧
  (
    ∃ s : State, ∃ port : Fin 6, let f := s.fp port
    (s.fpState port = fpQuiet) ∧ (s.fpDisabled port = false) ∧ (f.squelched = false)) ∧
  (
    ∃ s : State, ∃ port : Fin 6, (s.fpState port = fpLock)) ∧
  (
    ∃ s : State, ∃ port : Fin 6, let f := s.fp port
    (fpLock ≤ s.fpState port) ∧ (s.fpState port ≤ fpConfig) ∧ (f.recovering = false) ∧ (f.trainFails < 2)) ∧
  (
    ∃ s : State, ∃ port : Fin 6, let f := s.fp port
    (fpLock ≤ s.fpState port) ∧ (s.fpState port ≤ fpConfig) ∧ (f.recovering = false) ∧ (2 ≤ f.trainFails)) ∧
  (
    ∃ s : State, ∃ port : Fin 6, let f := s.fp port
    (s.fpState port = fpDown) ∧ (s.fpDisabled port = false) ∧ (f.squelched = false)) := ⟨
    ⟨st w19, 0, (0x17A00000000000000000000000000053F0D42B3C : BitVec 160), (by decide +kernel), (by decide +kernel),
    (by decide +kernel), (by decide +kernel), (by decide +kernel), (by decide +kernel)⟩,
    ⟨st w20, 0, (0xFFE60000000000000E76543210000053F0D42B3C : BitVec 160), (by decide +kernel), (by decide +kernel),
    (by decide +kernel), (by decide +kernel), (by decide +kernel), (by decide +kernel), (by decide +kernel),
    (by decide +kernel), (by decide +kernel)⟩,
    ⟨st w21, 0, (0 : BitVec 160), (by decide +kernel), (by decide +kernel), (by show _ ≠ _; rw [prbs_low]; decide),
    (by decide +kernel)⟩,
    ⟨st w22, 0, (by decide +kernel), (by decide +kernel), (by decide +kernel)⟩,
    ⟨st w19, 0, (by decide +kernel)⟩,
    ⟨st w19, 0, (by decide +kernel), (by decide +kernel), (by decide +kernel), (by decide +kernel)⟩,
    ⟨st w23, 0, (by decide +kernel), (by decide +kernel), (by decide +kernel), (by decide +kernel)⟩,
    ⟨st w21, 0, (by decide +kernel), (by decide +kernel), (by decide +kernel)⟩⟩

/-- The hypotheses of Obligations.PortTraining (Training of a port) are met, clause by clause, clauses 9 to 10. -/
theorem witness_PortTraining_2 :
  (
    ∃ s : State, ∃ port : Fin 6, let f := s.fp port
    (f.recovering = true) ∧ (f.recFails < 2)) ∧
  (
    ∃ s : State, ∃ port : Fin 6, let f := s.fp port
    (f.recovering = true) ∧ (2 ≤ f.recFails)) := ⟨
    ⟨st w24, 0, (by decide +kernel), (by decide +kernel)⟩,
    ⟨st w25, 0, (by decide +kernel), (by decide +kernel)⟩⟩

/-- The hypotheses of Obligations.TrainingCommands (RETRAIN, FULL_TRAIN and LANE_RETRY) are met, clause by clause. -/
theorem witness_TrainingCommands :
  (
    ∃ s : State, ∃ port : Fin 6, (s.fpState port = fpActive)) ∧
  (
    ∃ s : State, ∃ port : Fin 6, (s.fpState port = fpActive) ∧ (s.fpDisabled port = false)) ∧
  (
    ∃ s : State, ∃ port : Fin 6, (s.fpState port = fpActive) ∧ (s.fpDisabled port = false) ∧
    (s.flag (base.fp port) FP.CFG.FULL_TRAIN = true) ∧ (s.flag (base.fp port) FP.CFG.LANE_RETRY = false)) ∧
  (
    ∃ s : State, ∃ port : Fin 6, (s.fpState port = fpActive) ∧ (s.fpDisabled port = false) ∧ ∃ pl, (pl < 9) ∧
    (s.fpLane port pl = 2)) ∧
  (
    ∃ s : State, ∃ port : Fin 6, let f := s.fp port
    (s.fpState port = fpActive) ∧ (s.fpDisabled port = false) ∧ ∃ pl, (pl < 9) ∧ (s.fpLane port pl = 2) ∧
    (f.attempts.get (fun _ => 0) pl < 16)) ∧
  (
    ∃ s : State, ∃ port : Fin 6, (s.fpState port ≠ fpActive) ∧ (s.fpState port ≠ fpDown) ∧ (s.fpDisabled port = false)) := ⟨
    ⟨st served, 0, (by decide +kernel)⟩,
    ⟨st w26, 0, (by decide +kernel), (by decide +kernel)⟩,
    ⟨st w27, 0, (by decide +kernel), (by decide +kernel), (by decide +kernel), (by decide +kernel)⟩,
    ⟨st w28, 0, (by decide +kernel), (by decide +kernel), 3, (by decide +kernel), (by decide +kernel)⟩,
    ⟨st w28, 0, (by decide +kernel), (by decide +kernel), 3, (by decide +kernel), (by decide +kernel),
    (by decide +kernel)⟩,
    ⟨st w22, 0, (by decide +kernel), (by decide +kernel), (by decide +kernel)⟩⟩

/-- The hypotheses of Obligations.LaneSparing (Lane sparing and link control messages) are met, clause by clause, clauses 1 to 8. -/
theorem witness_LaneSparing :
  (
    ∃ s : State, ∃ port : Fin 6, let b := base.fp port
    (s.rd b FP.STATUS.RX_SPARE = 1)) ∧
  (
    ∃ s : State, ∃ port : Fin 6, let b := base.fp port
    (s.fpState port = fpActive) ∧ (s.flag b FP.CFG.ROTATE_EN = true) ∧ (s.rd b FP.STATUS.TX_SPARE = 1) ∧
    (s.rd b FP.STATUS.TX_WIDTH = 0)) ∧
  (
    ∃ s : State, ∃ port : Fin 6, ∃ ll : Fin 8, let f := s.fp port
    let b := base.fp port
    (s.fpState port = fpActive) ∧ (f.squelched = false) ∧ (f.txIdle = false) ∧ (f.resumeLeft = 0) ∧
    (f.sinceNull < 1023) ∧ (f.nakToSend = false) ∧ (f.resend = 0) ∧ (f.replay.length < 512) ∧ ∃ rest,
    (f.lctl = BitVec.ofNat 128 (1 + ll * 2 ^ 8) :: rest) ∧ (s.rd b FP.STATUS.TX_SPARE = 1)) ∧
  (
    ∃ s : State, ∃ port : Fin 6, ∃ ll : Fin 8, ∃ pl : Fin 9, let f := s.fp port
    let b := base.fp port
    (s.fpState port = fpActive) ∧ (f.squelched = false) ∧ (f.txIdle = false) ∧ (f.resumeLeft = 0) ∧
    (f.sinceNull < 1023) ∧ (f.nakToSend = false) ∧ (f.resend = 0) ∧ (f.replay.length < 512) ∧ ∃ rest,
    (f.lctl = BitVec.ofNat 128 (3 + ll * 2 ^ 8 + pl * 2 ^ 12) :: rest) ∧ (s.rd b FP.STATUS.TX_SPARE = 2)) ∧
  (
    ∃ s : State, ∃ port : Fin 6, let b := base.fp port
    (s.rd b FP.STATUS.TX_SPARE = 1)) ∧
  (
    ∃ s : State, ∃ port : Fin 6, ∃ ll : Fin 8, ∃ pl : Fin 9, let b := base.fp port
    (s.rd b FP.STATUS.RX_SPARE = 2) ∧ (s.fpLane port pl = 2) ∧ (s.mapOf port FP.RX_LANE_MAP.reg ll < 9) ∧
    (s.fpLane port (s.mapOf port FP.RX_LANE_MAP.reg ll) = 0)) ∧
  (
    ∃ s : State, ∃ port : Fin 6, let b := base.fp port
    (s.rd b FP.STATUS.TX_SPARE = 2)) ∧
  (
    ∃ s : State, ∃ port : Fin 6, let f := s.fp port
    (s.fpState port = fpActive) ∧ (f.replay = []) ∧ (f.txq = []) ∧ (f.lctl = []) ∧ (f.resend = 0) ∧
    (f.nakToSend = false) ∧ (f.sending = []) ∧ (f.txIdle = false) ∧ (f.resumeLeft = 0)) := ⟨
    ⟨st w29, 0, (by decide +kernel)⟩,
    ⟨st w30, 0, (by decide +kernel), (by decide +kernel), (by decide +kernel), (by decide +kernel)⟩,
    ⟨st w31, 0, 3, (by decide +kernel), (by decide +kernel), (by decide +kernel), (by decide +kernel),
    (by decide +kernel), (by decide +kernel), (by decide +kernel), (by decide +kernel), [], (by decide +kernel),
    (by decide +kernel)⟩,
    ⟨st w32, 0, 3, 8, (by decide +kernel), (by decide +kernel), (by decide +kernel), (by decide +kernel),
    (by decide +kernel), (by decide +kernel), (by decide +kernel), (by decide +kernel), [(5 : BitVec 128)],
    (by decide +kernel), (by decide +kernel)⟩,
    ⟨st w29, 0, (by decide +kernel)⟩,
    ⟨st w33, 0, 0, 3, (by decide +kernel), (by decide +kernel), (by decide +kernel), (by decide +kernel)⟩,
    ⟨st w34, 0, (by decide +kernel)⟩,
    ⟨st served, 0, (by decide +kernel), (by decide +kernel), (by decide +kernel), (by decide +kernel),
    (by decide +kernel), (by decide +kernel), (by decide +kernel), (by decide +kernel), (by decide +kernel)⟩⟩

/-- The hypotheses of Obligations.LaneSparing (Lane sparing and link control messages) are met, clause by clause, clauses 9 to 13. -/
theorem witness_LaneSparing_2 :
  (
    ∃ s : State, ∃ port : Fin 6, let f := s.fp port
    let b := base.fp port
    (s.fpState port = fpActive) ∧ (f.squelched = false) ∧ (f.peerIdle = false) ∧ (f.damaged = []) ∧
    ∃ lanes : List (BitVec 320), ∃ k : Nat, ∃ sp : Nat, ∃ v : Nat, ∃ syms : List Nat, let r : RxFlit := ⟨lanes,
    (scrFlit f.rxScr (lanesOf (s.rd b FP.STATUS.RX_WIDTH))).1⟩
    (flitDecode (s.readFlit port r none) = none) ∧ (s.standIn port = some (k, sp)) ∧
    (flitDecode (s.readFlit port r (some (k, sp))) = some (v, syms)) ∧ (v / 2 ^ 528 % 2 ^ 4 = fkNull)) ∧
  (
    ∃ s : State, ∃ port : Fin 6, ∃ pl : Fin 9, let b := base.fp port
    (s.fpState port = fpActive) ∧ (s.fpLane port pl = 1) ∧ (s.rd b FP.STATUS.RX_SPARE = 1)) ∧
  (
    ∃ s : State, ∃ port : Fin 6, ∃ pl : Fin 9, let f := s.fp port
    let b := base.fp port
    (s.fpState port = fpActive) ∧ ∃ k, (s.fpLane port pl ≠ 1) ∧ (s.llOf port FP.RX_LANE_MAP.reg pl = some k) ∧
    (s.rd b FP.STATUS.RX_SPARE = 1) ∧ (f.spareReq = none) ∧ (s.rd b FP.STATUS.RX_SHADOW_LL ≠ k)) ∧
  (
    ∃ s : State, ∃ port : Fin 6, ∃ pl : Fin 9, let f := s.fp port
    let b := base.fp port
    (s.fpState port = fpActive) ∧ ∃ k, (s.fpLane port pl ≠ 1) ∧ (s.llOf port FP.RX_LANE_MAP.reg pl = some k) ∧
    (s.rd b FP.STATUS.RX_SPARE = 1) ∧ (f.spareReq = none) ∧ ∃ sp, (s.rd b FP.STATUS.RX_SHADOW_LL = k) ∧
    (s.rxSpareLane port = some sp) ∧ (f.damaged = [])) ∧
  (
    ∃ s : State, ∃ port : Fin 6, ∃ pl : Fin 9, let b := base.fp port
    (s.fpState port = fpActive) ∧ ∃ k, (s.fpLane port pl ≠ 1) ∧ (s.llOf port FP.RX_LANE_MAP.reg pl = some k) ∧
    (s.rd b FP.STATUS.RX_SPARE ≠ 1)) := ⟨
    ⟨st spareNet, 0, (by decide +kernel), (by decide +kernel), (by decide +kernel), (by decide +kernel),
    [0xEA800002AAAAC0000000, 0x7F400302AAEAC0000000, 0x1, 0x75400202AADAC0000000, 0xF00000C2AABAC0000000,
    0x6C003C2AAFAC0000000, 0xDEA01C2AA8AC0000000, 0xAA42A2C2AACAC0000000, 0x13400102AA9AC0000000], 2, 8,
    0x38BB9D055FAABF6B59000FFF0000000000000000000000000000000000000000000000000000000000000000000000000000000000000000000000000000000000000000000000000000000000000000,
    [], (by decide +kernel), (by decide +kernel), (by decide +kernel), (by decide +kernel)⟩,
    ⟨st w35, 0, 8, (by decide +kernel), (by decide +kernel), (by decide +kernel)⟩,
    ⟨st w29, 0, 3, (by decide +kernel), 3, (by decide +kernel), (by decide +kernel), (by decide +kernel),
    (by decide +kernel), (by decide +kernel)⟩,
    ⟨st w35, 0, 0, (by decide +kernel), 0, (by decide +kernel), (by decide +kernel), (by decide +kernel),
    (by decide +kernel), 8, (by decide +kernel), (by decide +kernel), (by decide +kernel)⟩,
    ⟨st served, 0, 0, (by decide +kernel), 0, (by decide +kernel), (by decide +kernel), (by decide +kernel)⟩⟩

/-- The hypotheses of Obligations.FabricDiscovery (Node identity, neighbours, alerts and time) are met, clause by clause. -/
theorem witness_FabricDiscovery :
  (
    ∃ s : State, ∃ port : Fin 6, ∃ r : Req, ∃ slot1 : BitVec 128, (Req.node r = 0xFFF) ∧
    let d := ((s.takeIn port ⟨vcMgt, [reqSlot opcNodeAssign r, slot1], none⟩).bcastPass port r).2
    ((r.src, r.tag) ∉ s.dups) ∧ (slot1.toNat % 2 ^ 64 = d.uid) ∧ (d.assignRefused r = false)) ∧
  (
    ∃ s : State, ∃ port : Fin 6, (s.fpState port = fpActive)) ∧
  (
    ∃ s : State, ∃ port : Fin 6, (s.nbr port RPORT.NBR.HEARD = 1)) ∧
  (
    ∃ s : State, ∃ r : Req, (Req.node r = 0xFFF) ∧ ((r.src, r.tag) ∉ s.dups)) ∧
  (
    ∃ w : BitVec 128, (slotOpc w = opcSync) ∧ ((reqOfSlot w).sub = 1)) ∧
  (
    ∃ w : BitVec 128, (slotOpc w = opcSync) ∧ ((reqOfSlot w).sub ≠ 1)) ∧
  (
    ∃ s : State, (s.syncs = true)) ∧
  (
    ∃ s : State, ∃ port : Fin 6, (s.syncs = true) ∧
    let e := (s.route (s.rd base.tbl TBL.GEN.ACTIVE_BANK) (s.rd base.sync SYNC.CFG.ROOT_NODE)).toNat
    (e / 64 % 16 ≠ 0) ∧ (e % 8 = port.val) ∧ (s.fpState port = fpActive)) := ⟨
    ⟨st w36, 0, ⟨0, 9, false, 3, 9, 0x1FFE000000000, false, 0, 0, 0x1007⟩, (0 : BitVec 128), (by decide +kernel),
    (by decide +kernel), (by decide +kernel), (by decide +kernel)⟩,
    ⟨st served, 0, (by decide +kernel)⟩,
    ⟨st served, 0, (by decide +kernel)⟩,
    ⟨st served, ⟨0, 9, false, 3, 9, 0x1FFE000000000, false, 0, 0, 7⟩, (by decide +kernel), (by decide +kernel)⟩,
    ⟨(0x40000000000000009003016 : BitVec 128), (by decide +kernel), (by decide +kernel)⟩,
    ⟨(0x80000000000000009003016 : BitVec 128), (by decide +kernel), (by decide +kernel)⟩,
    ⟨st w37, (by decide +kernel)⟩,
    ⟨st w37, 1, (by decide +kernel), (by decide +kernel), (by decide +kernel), (by decide +kernel)⟩⟩

/-- The hypotheses of Obligations.RoutingAndTranslation (The routing table and the translation assist) are met, clause by clause. -/
theorem witness_RoutingAndTranslation :
  (
    ∃ s : State, ∃ port : Option (Fin 6), ∃ vc : BitVec 2, ∃ w : BitVec 128, ∃ o : Fin 6, ∃ h : Nat,
    let inp := port.map Fin.val
    let dst := if vc = vcRsp then w.toNat / 2 ^ 24 % 4096 else w.toNat / 2 ^ 73 % 4096
    (s.node ≠ 0) ∧ (dst ≠ s.node) ∧ ((vc = vcRsp ∨ (slotOpc w ≠ opcHello ∧ slotOpc w ≠ opcSync ∧ dst ≠ 0xFFF))) ∧
    ((vc = vcReq → dst ≠ 0)) ∧ (s.lookup inp dst (w.toNat / 2 ^ 7 % 16) vc = .out o h)) ∧
  (
    ∃ s : State, (s.routes.wf (fun _ => 0) = true)) ∧
  (
    ∃ s : State, ∃ a : BitVec 37, (s.xlate = some a) ∧ (s.mapReload = false)) := ⟨
    ⟨st served, none, (0 : BitVec 2), (0x12000000000000000780 : BitVec 128), 0, 14, (by decide +kernel),
    (by decide +kernel), (by decide +kernel), (by decide +kernel), (by decide +kernel)⟩,
    ⟨st served, (by decide +kernel)⟩,
    ⟨st w38, (0x1234567890 : BitVec 37), (by decide +kernel), (by decide +kernel)⟩⟩

/-- The hypotheses of Obligations.LineSlots (What a line slot does) are met, clause by clause. -/
theorem witness_LineSlots :
  (
    ∃ s : State, ∃ pc : Fin 128, (s.rung = rungNoon) ∧ (s.selfRefresh = false) ∧ let p := pc.val
    ((s.pc p).stopped = true)) ∧
  (
    ∃ s : State, ∃ pc : Fin 128, (s.rung = rungNoon) ∧ (s.selfRefresh = false) ∧ let p := pc.val
    ((s.pc p).stopped = false)) := ⟨
    ⟨st w39, 0, (by decide +kernel), (by decide +kernel), (by decide +kernel)⟩,
    ⟨st served, 0, (by decide +kernel), (by decide +kernel), (by decide +kernel)⟩⟩

/-- The hypotheses of Obligations.BankTiming (Bank times, merge retirement and timing registers) are met, clause by clause. -/
theorem witness_BankTiming :
  (
    ∃ s : State, ∃ pc : Fin 128, let p := pc.val
    ∃ bank : Fin 32, (((s.pc p).bank bank).openRow.isSome = true) ∧ (s.rowWanted p bank = false)) ∧
  (
    ∃ s : State, ∃ pc : Fin 128, let p := pc.val
    ∃ bank : Fin 32, (((s.pc p).bank bank).st = .precharging ∨ ((s.pc p).bank bank).st = .refreshing)) ∧
  (
    ∃ s : State, ∃ pc : Fin 128, let p := pc.val
    ∃ line : BitVec 31, ∃ m : MergeEntry, ∃ e : Entry,
    ((s.pc p).mergeBuf.find? (fun m => m.line = line.toNat && !m.readIssued) = some m) ∧ (32 ≤ m.age) ∧
    (m.members.head? = some e) ∧ ((s.pc p).l1.length < 32)) ∧
  (
    ∃ s : State, ∃ pc : Fin 128, let p := pc.val
    ((s.pc p).timingDue.wf (fun _ => 0) = true)) := ⟨
    ⟨st activeBanks, 0, 0, (by decide +kernel), (by decide +kernel)⟩,
    ⟨st w40, 0, 3, (by decide +kernel)⟩,
    ⟨st w41, 0, (1 : BitVec 31), ⟨1, [⟨Op.merge, 1, 4, (some 0), 3, ⟨0, 9, false, 3, 9, 0xA000000040, false, 0, 0, 0⟩,
    5, 0, 0, true, none, Hold.none, true, 0⟩], 40, false, false, false, false⟩, ⟨Op.merge, 1, 4, (some 0), 3, ⟨0, 9,
    false, 3, 9, 0xA000000040, false, 0, 0, 0⟩, 5, 0, 0, true, none, Hold.none, true, 0⟩, (by decide +kernel),
    (by decide +kernel), (by decide +kernel), (by decide +kernel)⟩,
    ⟨st served, 0, (by decide +kernel)⟩⟩

/-- The hypotheses of Obligations.ServiceStates (Service states of a pseudo-channel and the walk) are met, clause by clause. -/
theorem witness_ServiceStates :
  (
    ∃ s : State, ∃ pc : Fin 128, let p := pc.val
    (s.pcServes p = true)) ∧
  (
    ∃ s : State, ∃ pc : Fin 128, let p := pc.val
    (s.pcState p = pcDraining) ∧ ((s.pc p).empty = true)) ∧
  (
    ∃ s : State, ∃ pc : Fin 128, let p := pc.val
    let b := base.pc p
    (s.pcState p = pcOut) ∧ (s.flag b PC.SVC.INIT_DONE = true)) ∧
  (
    ∃ s : State, ∃ pc : Fin 128, let p := pc.val
    let b := base.pc p
    (s.pcState p ≠ pcOut ∨ s.flag b PC.SVC.INIT_DONE = false)) ∧
  (
    ∃ s : State, ∃ pc : Fin 128, let p := pc.val
    ((s.pc p).restartWalk = false) ∧ (s.carderRuns p = true)) := ⟨
    ⟨st w42, 1, (by decide +kernel)⟩,
    ⟨st w43, 0, (by decide +kernel), (by decide +kernel)⟩,
    ⟨st w44, 0, (by decide +kernel), (by decide +kernel)⟩,
    ⟨st w42, 0, (by decide +kernel)⟩,
    ⟨st w42, 1, (by decide +kernel), (by decide +kernel)⟩⟩

/-- The hypotheses of Obligations.RefreshDebt (Refresh debts) are met, clause by clause. -/
theorem witness_RefreshDebt :
  (
    ∃ s : State, ∃ pc : Fin 128, let p := pc.val
    (s.selfRefresh = false) ∧ (s.rung = rungNoon) ∧ ((s.pc p).forced = []) ∧ let k := dueBank (s.pc p).duePos
    (s.debt p k < 8)) ∧
  (
    ∃ s : State, ∃ pc : Fin 128, let p := pc.val
    (s.selfRefresh = false) ∧ (s.rung = rungNoon) ∧ ((s.pc p).forced = []) ∧ let k := dueBank (s.pc p).duePos
    (8 ≤ s.debt p k)) ∧
  (
    ∃ s : State, ∃ pc : Fin 128, let p := pc.val
    ∃ k, ((s.pc p).muInFlight = some k) ∧ ((s.pc p).forced = []) ∧ (k < 32) ∧ (((s.pc p).bank k).st = .refreshing)) := ⟨
    ⟨st served, 0, (by decide +kernel), (by decide +kernel), (by decide +kernel), (by decide +kernel)⟩,
    ⟨st w45, 0, (by decide +kernel), (by decide +kernel), (by decide +kernel), (by decide +kernel)⟩,
    ⟨st w46, 0, 3, (by decide +kernel), (by decide +kernel), (by decide +kernel), (by decide +kernel)⟩⟩

/-- The hypotheses of Obligations.LinesDecoded (Decoded lines and heals) are met, clause by clause. -/
theorem witness_LinesDecoded :
  (
    ∃ s : State, ∃ pc : Fin 128, ∃ noise : BitVec 640, ∃ f : InFlight, ∃ rest : List InFlight, let p := pc.val
    let raw := f.raw ^^^ noise
    let die := s.erasedDie (tierOf p)
    ((s.pc p).inFlight = f :: rest) ∧ (f.entry.op = .read) ∧ (f.entry.retryOf = none) ∧ (f.entry.answered = false) ∧
    (f.entry.port.isSome = true) ∧ (s.injMask 1 f.entry.line = none) ∧ (s.injMask 2 f.entry.line = none) ∧ ∃ d,
    (s.decodeLine p die raw = some d) ∧ (s.corrected p die d = false) ∧ (s.corrections p die d = []) ∧
    (poisonOf (contentOf d.line) = false) ∧ (modifying f.entry.opc f.entry.req.sub = false) ∧ ((∃ o h,
    s.lookup none f.entry.req.src.toNat 15 vcRsp = .out o h))) ∧
  (
    ∃ s : State, ∃ pc : Fin 128, ∃ noise : BitVec 640, ∃ f : InFlight, ∃ rest : List InFlight, let p := pc.val
    let raw := f.raw ^^^ noise
    let die := s.erasedDie (tierOf p)
    ((s.pc p).inFlight = f :: rest) ∧ (f.entry.op = .read) ∧ (f.entry.retryOf = none) ∧ (f.entry.answered = false) ∧
    (f.entry.port.isSome = true) ∧ (s.injMask 1 f.entry.line = none) ∧ (s.injMask 2 f.entry.line = none) ∧
    (s.decodeLine p die raw = none)) ∧
  (
    ∃ s : State, ∃ line : BitVec 31, ∃ h : Heal, (s.ecc.heals.find? (fun h => h.line = line.toNat) = some h) ∧
    (s.ecc.healWait = []) ∧ (h.overwritten = false) ∧ ((∀ e ∈ h.waiters, e.op = .read)) ∧ ∃ c,
    (s.healCopy line.toNat = some c)) ∧
  (
    ∃ s : State, ∃ line : BitVec 31, ∃ h : Heal, (s.ecc.heals.find? (fun h => h.line = line.toNat) = some h) ∧
    (s.ecc.healWait = []) ∧ (h.overwritten = false) ∧ ((∀ e ∈ h.waiters, e.op = .read))) := ⟨
    ⟨st w47, 0, (0 : BitVec 640), ⟨⟨Op.read, 1, 4, (some 0), 1, ⟨0, 9, false, 3, 9, 0xA000000040, false, 0, 0, 0⟩, 0,
    0, 0, true, none, Hold.none, false, 0⟩,
    0x5361F49AA24F65AC0AB92249DEC1F70300000000000000000000000000000000000000000000000000000000000000000000000000000000000000000000000000000000000000000000000000000055,
    none⟩, [], (by decide +kernel), (by decide +kernel), (by decide +kernel), (by decide +kernel),
    (by decide +kernel), (by decide +kernel), (by decide +kernel),
    ⟨(0x5361F49AA24F65AC0AB92249DEC1F70300000000000000000000000000000000000000000000000000000000000000000000000000000000000000000000000000000000000000000000000000000055 : BitVec 640),
    [], none⟩, (by decide +kernel), (by decide +kernel), (by decide +kernel), (by decide +kernel),
    (by decide +kernel), (routed (by decide +kernel))⟩,
    ⟨st w47, 0,
    (0xFFFFFFFFFFFFFFFFFFFFFFFFFFFFFFFFFFFFFFFFFFFFFFFFFFFFFFFFFFFFFFFFFFFFFFFFFFFFFFFFFFFFFFFFFFFFFFFFFFFFFFFFFFFFFFFFFFFFFFFFFFFFFFFFFFFFFFFFFFFFFFFFFFFFFFFFFFFFFFFF : BitVec 640),
    ⟨⟨Op.read, 1, 4, (some 0), 1, ⟨0, 9, false, 3, 9, 0xA000000040, false, 0, 0, 0⟩, 0, 0, 0, true, none, Hold.none,
    false, 0⟩,
    0x5361F49AA24F65AC0AB92249DEC1F70300000000000000000000000000000000000000000000000000000000000000000000000000000000000000000000000000000000000000000000000000000055,
    none⟩, [], (by decide +kernel), (by decide +kernel), (by decide +kernel), (by decide +kernel),
    (by decide +kernel), (by decide +kernel), (by decide +kernel), (by decide +kernel)⟩,
    ⟨st w48, (0 : BitVec 31), ⟨0, [⟨Op.read, 0, 4, (some 0), 1, ⟨0, 9, false, 3, 9, 0xA000000040, false, 0, 0, 0⟩, 0,
    0, 0, true, none, Hold.none, false, 0⟩], 4, false, 5⟩, (by decide +kernel), (by decide +kernel),
    (by decide +kernel), (by decide +kernel), (0xAB : BitVec 520), (by decide +kernel)⟩,
    ⟨st w49, (1 : BitVec 31), ⟨1, [⟨Op.read, 1, 4, (some 0), 1, ⟨0, 9, false, 3, 9, 0xA000000040, false, 0, 0, 0⟩, 0,
    0, 0, true, none, Hold.none, false, 0⟩], 4, false, 5⟩, (by decide +kernel), (by decide +kernel),
    (by decide +kernel), (by decide +kernel)⟩⟩

/-- The hypotheses of Obligations.ErasureAndRepair (Erasure of a die and repair of a lane) are met, clause by clause. -/
theorem witness_ErasureAndRepair :
    ∃ s : State, ∃ pc : Fin 128, let p := pc.val
    let lane := s.pcr p PC.ECC_CTL.REPAIR_LANE
    (lane < 40) ∧ (s.laneErased p lane = false) ∧ (s.pcr p (assignFld (lane / 10)) = 0xF) := 
    ⟨st served, 0, (by decide +kernel), (by decide +kernel), (by decide +kernel)⟩

/-- The hypotheses of Obligations.InjectionAndFuses (Error injection, repair candidates and fuse burns) are met, clause by clause. -/
theorem witness_InjectionAndFuses :
  (
    ∃ s : State, (s.rd base.ecc ECC.INJ_CTL.STAGE ≠ 3)) ∧
  (
    ∃ s : State, (s.rd base.ecc ECC.INJ_CTL.STAGE = 3)) ∧
  (
    ∃ s : State, let col := s.flag base.ecc ECC.FUSE_CMD.TYPE
    let f : Fuse := ⟨s.rd base.ecc ECC.FUSE_CMD.DIE, s.rd base.ecc ECC.FUSE_CMD.PC, s.rd base.ecc ECC.FUSE_CMD.BANK,
    col,
    if col then s.rd base.ecc ECC.FUSE_ARG.INDEX % 32 else s.rd base.ecc ECC.FUSE_ARG.INDEX⟩
    (s.ecc.burning = none) ∧ (1 ≤ s.otp.lifecycle) ∧ (s.otp.lifecycle ≤ 3) ∧ (s.sparesLeft f ≠ 0)) ∧
  (
    ∃ s : State, ∃ f : Fuse, (s.ecc.burning = some f)) := ⟨
    ⟨st served, (by decide +kernel)⟩,
    ⟨st w50, (by decide +kernel)⟩,
    ⟨st served, (by decide +kernel), (by decide +kernel), (by decide +kernel), (by decide +kernel)⟩,
    ⟨st w51, ⟨3, 4, 5, false, 77⟩, (by decide +kernel)⟩⟩

/-- The hypotheses of Obligations.CalibrationWindows (Calibration windows and the QME slot) are met, clause by clause. -/
theorem witness_CalibrationWindows :
  (
    ∃ s : State, ∃ pc : Fin 128, let p := pc.val
    let c := s.pc p
    (s.calRuns p = true) ∧ (s.livePairs p ≠ []) ∧ (c.phase = .comparing) ∧ (c.skipPairs = 0)) ∧
  (
    ∃ s : State, ∃ pc : Fin 128, ∃ ws : List LaneWindow, let p := pc.val
    let c := s.pc p
    (s.calRuns p = true) ∧ (c.phase = .window) ∧
    let mine := (s.liveCounts p ws ((s.roundPairs p).map (targetLane (c.round / 2)))).1
    let low := mine.foldl (fun a w => min a w.trans) 65535
    (low < 2 ^ 14)) ∧
  (
    ∃ s : State, ∃ pc : Fin 128, ∃ ws : List LaneWindow, let p := pc.val
    let c := s.pc p
    (s.calRuns p = true) ∧ (c.phase = .window) ∧
    let mine := (s.liveCounts p ws ((s.roundPairs p).map (targetLane (c.round / 2)))).1
    let low := mine.foldl (fun a w => min a w.trans) 65535
    (2 ^ 14 ≤ low)) ∧
  (
    ∃ s : State, ∃ pc : Fin 128, ∃ ws : List LaneWindow, let p := pc.val
    let c := s.pc p
    (s.patternRuns p = true) ∧ (c.patReady = false) ∧
    ((s.patternLanes p).any (fun l => (windowOf ws l).trans < 2 ^ 14) = false)) ∧
  (
    ∃ s : State, (s.rung = rungNoon)) := ⟨
    ⟨st w52, 0, (by decide +kernel), (by decide +kernel), (by decide +kernel), (by decide +kernel)⟩,
    ⟨st w53, 0, [], (by decide +kernel), (by decide +kernel), (by decide +kernel)⟩,
    ⟨st w53, 0, [⟨0, 20000, [5, 7]⟩, ⟨1, 20000, [5, 7]⟩, ⟨2, 20000, [5, 7]⟩, ⟨3, 20000, [5, 7]⟩, ⟨4, 20000, [5, 7]⟩,
    ⟨5, 20000, [5, 7]⟩, ⟨6, 20000, [5, 7]⟩, ⟨7, 20000, [5, 7]⟩, ⟨8, 20000, [5, 7]⟩, ⟨9, 20000, [5, 7]⟩, ⟨10, 20000,
    [5, 7]⟩, ⟨11, 20000, [5, 7]⟩, ⟨12, 20000, [5, 7]⟩, ⟨13, 20000, [5, 7]⟩, ⟨14, 20000, [5, 7]⟩, ⟨15, 20000, [5, 7]⟩,
    ⟨16, 20000, [5, 7]⟩, ⟨17, 20000, [5, 7]⟩, ⟨18, 20000, [5, 7]⟩, ⟨19, 20000, [5, 7]⟩, ⟨20, 20000, [5, 7]⟩, ⟨21,
    20000, [5, 7]⟩, ⟨22, 20000, [5, 7]⟩, ⟨23, 20000, [5, 7]⟩, ⟨24, 20000, [5, 7]⟩, ⟨25, 20000, [5, 7]⟩, ⟨26, 20000,
    [5, 7]⟩, ⟨27, 20000, [5, 7]⟩, ⟨28, 20000, [5, 7]⟩, ⟨29, 20000, [5, 7]⟩, ⟨30, 20000, [5, 7]⟩, ⟨31, 20000, [5, 7]⟩,
    ⟨32, 20000, [5, 7]⟩, ⟨33, 20000, [5, 7]⟩, ⟨34, 20000, [5, 7]⟩, ⟨35, 20000, [5, 7]⟩, ⟨36, 20000, [5, 7]⟩, ⟨37,
    20000, [5, 7]⟩, ⟨38, 20000, [5, 7]⟩, ⟨39, 20000, [5, 7]⟩, ⟨40, 20000, [5, 7]⟩, ⟨41, 20000, [5, 7]⟩, ⟨42, 20000,
    [5, 7]⟩, ⟨43, 20000, [5, 7]⟩], (by decide +kernel), (by decide +kernel), (by decide +kernel)⟩,
    ⟨st w54, 0, [⟨0, 20000, [5, 7]⟩, ⟨1, 20000, [5, 7]⟩, ⟨2, 20000, [5, 7]⟩, ⟨3, 20000, [5, 7]⟩, ⟨4, 20000, [5, 7]⟩,
    ⟨5, 20000, [5, 7]⟩, ⟨6, 20000, [5, 7]⟩, ⟨7, 20000, [5, 7]⟩, ⟨8, 20000, [5, 7]⟩, ⟨9, 20000, [5, 7]⟩, ⟨10, 20000,
    [5, 7]⟩, ⟨11, 20000, [5, 7]⟩, ⟨12, 20000, [5, 7]⟩, ⟨13, 20000, [5, 7]⟩, ⟨14, 20000, [5, 7]⟩, ⟨15, 20000, [5, 7]⟩,
    ⟨16, 20000, [5, 7]⟩, ⟨17, 20000, [5, 7]⟩, ⟨18, 20000, [5, 7]⟩, ⟨19, 20000, [5, 7]⟩, ⟨20, 20000, [5, 7]⟩, ⟨21,
    20000, [5, 7]⟩, ⟨22, 20000, [5, 7]⟩, ⟨23, 20000, [5, 7]⟩, ⟨24, 20000, [5, 7]⟩, ⟨25, 20000, [5, 7]⟩, ⟨26, 20000,
    [5, 7]⟩, ⟨27, 20000, [5, 7]⟩, ⟨28, 20000, [5, 7]⟩, ⟨29, 20000, [5, 7]⟩, ⟨30, 20000, [5, 7]⟩, ⟨31, 20000, [5, 7]⟩,
    ⟨32, 20000, [5, 7]⟩, ⟨33, 20000, [5, 7]⟩, ⟨34, 20000, [5, 7]⟩, ⟨35, 20000, [5, 7]⟩, ⟨36, 20000, [5, 7]⟩, ⟨37,
    20000, [5, 7]⟩, ⟨38, 20000, [5, 7]⟩, ⟨39, 20000, [5, 7]⟩, ⟨40, 20000, [5, 7]⟩, ⟨41, 20000, [5, 7]⟩, ⟨42, 20000,
    [5, 7]⟩, ⟨43, 20000, [5, 7]⟩], (by decide +kernel), (by decide +kernel), (by decide +kernel)⟩,
    ⟨st full, (by decide +kernel)⟩⟩

/-- The hypotheses of Obligations.LaneTraining (Training of the TSV lanes) are met, clause by clause. -/
theorem witness_LaneTraining :
  (
    ∃ s : State, ∃ pc : Fin 128, let p := pc.val
    (s.pcState p = pcInit ∨ s.pcState p = pcOut) ∧ ((s.pc p).training = none)) ∧
  (
    ∃ s : State, ∃ pc : Fin 128, let p := pc.val
    (s.pcState p ≠ pcInit) ∧ (s.pcState p ≠ pcOut)) ∧
  (
    ∃ s : State, ∃ pc : Fin 128, let p := pc.val
    ∃ at_, ((s.pc p).outSince = some at_) ∧ (s.pcState p = pcOut) ∧ (at_ + 10000000 < s.now) ∧
    ((s.pc p).retrained = false) ∧ ((s.pc p).training = none)) ∧
  (
    ∃ s : State, ∃ pc : Fin 128, let p := pc.val
    ∃ tr : Training, ((s.pc p).training = some tr) ∧ (tr.parked = false) ∧
    (s.flag (base.qme (p / 32)) QME.TRAIN.PENDING = false) ∧ (tr.step ≠ 10)) ∧
  (
    ∃ s : State, ∃ pc : Fin 128, let p := pc.val
    let b := base.pc p
    ∃ tr : Training, ((s.pc p).training = some tr) ∧ (tr.parked = false) ∧
    (s.flag (base.qme (p / 32)) QME.TRAIN.PENDING = false) ∧ (tr.step = 10) ∧ (s.flag b PC.CAL_CTL.RETRAIN = false) ∧
    (s.flag b PC.CAL_CTL.FULL_TRAIN = false)) ∧
  (
    ∃ s : State, ∃ pc : Fin 128, let p := pc.val
    let b := base.pc p
    (s.flag b PC.CAL_CTL.LIVE_EN = false) ∧ (s.flag b PC.CAL_CTL.PATTERN_EN = false) ∧ (s.pcr p PC.CAL_OVR.LANE < 44)) := ⟨
    ⟨st w55, 0, (by decide +kernel), (by decide +kernel)⟩,
    ⟨st w55, 1, (by decide +kernel), (by decide +kernel)⟩,
    ⟨st w56, 0, 5, (by decide +kernel), (by decide +kernel), (by decide +kernel), (by decide +kernel),
    (by decide +kernel)⟩,
    ⟨st w57, 0, ⟨true, 0, false⟩, (by decide +kernel), (by decide +kernel), (by decide +kernel), (by decide +kernel)⟩,
    ⟨st w58, 0, ⟨true, 10, false⟩, (by decide +kernel), (by decide +kernel), (by decide +kernel), (by decide +kernel),
    (by decide +kernel), (by decide +kernel)⟩,
    ⟨st w59, 0, (by decide +kernel), (by decide +kernel), (by decide +kernel)⟩⟩

/-- The hypotheses of Obligations.FrequencyPoints (Changes of the TSV frequency point) are met, clause by clause. -/
theorem witness_FrequencyPoints :
  (
    ∃ s : State, let q := s.rd base.clk CLK.TSV_REQ.QUAD
    let r := s.rd base.clk CLK.TSV_REQ.POINT
    (r ≠ 3) ∧ (r ≠ s.point q) ∧ ((s.qme q).changing = none) ∧ (s.trainingPcs q = []) ∧
    (s.flag (base.qme q) QME.TRAIN.PENDING = false)) ∧
  (
    ∃ s : State, (s.rd base.clk CLK.TSV_REQ.POINT = 3)) ∧
  (
    ∃ s : State, ∃ q : Fin 4, ∃ r : BitVec 2, ((s.qme q).changing = some r)) ∧
  (
    ∃ s : State, ∃ q : Fin 4, ∃ r : BitVec 2, ((s.qme q).changing = some r) ∧ ((∀ k : Fin 32,
    (s.pc (32 * q.val + k.val)).stopped = true ∧ (s.pc (32 * q.val + k.val)).inFlight = [] ∧
    (s.pc (32 * q.val + k.val)).training = none))) := ⟨
    ⟨st w60, (by decide +kernel), (by decide +kernel), (by decide +kernel), (by decide +kernel), (by decide +kernel)⟩,
    ⟨st w61, (by decide +kernel)⟩,
    ⟨st w62, 0, (1 : BitVec 2), (by decide +kernel)⟩,
    ⟨st w63, 0, (1 : BitVec 2), (by decide +kernel), (by decide +kernel)⟩⟩

/-- The hypotheses of Obligations.DestageUnits (Destage, seed units and flushes) are met, clause by clause. -/
theorem witness_DestageUnits :
  (
    ∃ s : State, ∃ k, ∃ u, (s.pfPhase = pfIdle) ∧ (s.durableSet ≠ []) ∧ (s.pf.energyShort = false) ∧
    (s.destageChoice = some (k, u)) ∧ ((∀ i : Fin 64, s.lineHeld (64 * u + i.val) = false))) ∧
  (
    ∃ s : State, ∃ unit : BitVec 25, ∃ j : Destage, let u := unit.toNat
    (s.fuller.jobs.find? (fun x => x.unit = u && x.written) = some j) ∧ (s.durableSet ≠ []) ∧
    (j.cmds.any (fun c => s.durableSet.contains c.1 && (s.hb c.1).cmds.any (fun x => x.cid = c.2)) = false) ∧
    ((∀ i : Fin 64, s.stillDirty j (64 * u + i.val) = false)) ∧ (s.fuller.catchUp = none) ∧ (s.fuller.flushes = []) ∧
    (s.fuller.deferred = []) ∧ (s.flag base.fcore FULLER.STATUS.BP = false) ∧ (s.dirtyUnits < s.budget) ∧
    (s.stalled = false) ∧ (s.epState ≠ epSealing) ∧ (s.pfPhase = pfIdle)) ∧
  (
    ∃ s : State, ∃ u, ∃ rest, (s.fuller.seeds = u :: rest) ∧ (s.dirtyUnits < s.budget * 7 / 8) ∧
    (s.flag base.fcore FULLER.STATUS.BP = false) ∧ (s.tracked (64 * u) = true) ∧ (s.unitState u = 0)) ∧
  (
    ∃ s : State, let r := s.rd base.fcore FULLER.CMD.REGION
    let us := s.flushUnits (some r) ++ s.flushSeeds (some r)
    (s.cmdFree = true) ∧ (s.rgnValid r = true) ∧ (s.classOf r ≠ clsVolatile) ∧ (us = []) ∧ (s.nonDurable = false)) ∧
  (
    ∃ s : State, let r := s.rd base.fcore FULLER.CMD.REGION
    let us := s.flushUnits (some r) ++ s.flushSeeds (some r)
    (s.cmdFree = true) ∧ (s.rgnValid r = true) ∧ (s.classOf r ≠ clsVolatile) ∧ (us ≠ [])) ∧
  (
    ∃ s : State, let us := s.flushUnits none ++ s.flushSeeds none
    (s.cmdFree = true) ∧ (us = []) ∧ (s.nonDurable = false)) ∧
  (
    ∃ s : State, let us := s.flushUnits none ++ s.flushSeeds none
    (s.cmdFree = true) ∧ (us ≠ [])) ∧
  (
    ∃ s : State, (s.cmdFree = false)) := ⟨
    ⟨st w64, 5, 3, (by decide +kernel), (by decide +kernel), (by decide +kernel), (by decide +kernel),
    (by decide +kernel)⟩,
    ⟨st w65, (3 : BitVec 25), ⟨3, 4, [], [192, 200], 0, [], true⟩, (by decide +kernel), (by decide +kernel),
    (by decide +kernel), (by decide +kernel), (by decide +kernel), (by decide +kernel), (by decide +kernel),
    (by decide +kernel), (by decide +kernel), (by decide +kernel), (by decide +kernel), (by decide +kernel)⟩,
    ⟨st w66, 5, [9], (by decide +kernel), (by decide +kernel), (by decide +kernel), (by decide +kernel),
    (by decide +kernel)⟩,
    ⟨st w10, (by decide +kernel), (by decide +kernel), (by decide +kernel), (by decide +kernel), (by decide +kernel)⟩,
    ⟨st w64, (by decide +kernel), (by decide +kernel), (by decide +kernel), (by decide +kernel)⟩,
    ⟨st w10, (by decide +kernel), (by decide +kernel), (by decide +kernel)⟩,
    ⟨st w64, (by decide +kernel), (by decide +kernel)⟩,
    ⟨st w67, (by decide +kernel)⟩⟩

/-- The hypotheses of Obligations.EpochSealing (Sealing, committing and folding of epochs) are met, clause by clause. -/
theorem witness_EpochSealing :
  (
    ∃ s : State, ∃ at_, (s.fuller.sealAt = some at_) ∧ (s.epState = epOpen) ∧ (s.nonDurable = false) ∧
    (s.fuller.sealers = [])) ∧
  (
    ∃ s : State, (s.stalled = true) ∧ (s.epState = epSealing) ∧ (s.fuller.deferred = [])) ∧
  (
    ∃ s : State, ∃ e, ∃ m, (s.pfPhase = pfIdle) ∧ (s.fuller.commit = some (e, m, false)) ∧ (s.epState = epSealing) ∧
    (s.recordPendingOn .commit = false) ∧ (s.fuller.deferred = [])) ∧
  (
    ∃ s : State, (s.cmdFree = true) ∧ (s.epState = epOpen) ∧ (s.nonDurable = false) ∧ (s.fuller.sealAt = none) ∧
    (s.labelTaken = false)) ∧
  (
    ∃ s : State, (s.cmdFree = true) ∧ (s.epState = epNone)) ∧
  (
    ∃ s : State, (s.cmdFree = true) ∧ (s.epState = epSealing) ∧ (s.fuller.deferred = [])) ∧
  (
    ∃ s : State, (s.cmdFree = true) ∧ (s.epState ≠ epSealing)) ∧
  (
    ∃ s : State, (s.cmdFree = false)) := ⟨
    ⟨st w68, 99, (by decide +kernel), (by decide +kernel), (by decide +kernel), (by decide +kernel)⟩,
    ⟨st w69, (by decide +kernel), (by decide +kernel), (by decide +kernel)⟩,
    ⟨st w70, (7 : BitVec 32), (1 : BitVec 64), (by decide +kernel), (by decide +kernel), (by decide +kernel),
    (by decide +kernel), (by decide +kernel)⟩,
    ⟨st w71, (by decide +kernel), (by decide +kernel), (by decide +kernel), (by decide +kernel), (by decide +kernel)⟩,
    ⟨st w10, (by decide +kernel), (by decide +kernel)⟩,
    ⟨st w72, (by decide +kernel), (by decide +kernel), (by decide +kernel)⟩,
    ⟨st w10, (by decide +kernel), (by decide +kernel)⟩,
    ⟨st w67, (by decide +kernel)⟩⟩

/-- The hypotheses of Obligations.PowerFail (The power-fail, Thalt and Midnight flushes) are met, clause by clause, clauses 1 to 8. -/
theorem witness_PowerFail :
  (
    ∃ s : State, (s.power.crownOn = true) ∧ (s.pfPhase = pfIdle) ∧ (s.started = true) ∧ (s.rung = rungNoon) ∧
    (s.batt.held = none)) ∧
  (
    ∃ s : State, (s.power.crownOn = true) ∧ (s.pfPhase = pfIdle) ∧ (s.started = true) ∧ (s.rung = rungNoon) ∧
    (s.batt.held = none) ∧ ∃ rail : Fin 12, (rail.val < 10)) ∧
  (
    ∃ s : State, (s.power.crownOn = false) ∧ (s.batt.held = none)) ∧
  (
    ∃ s : State, ∃ rail : Fin 12, (10 ≤ rail.val) ∧ (s.batt.held = none)) ∧
  (
    ∃ s : State, (s.pf.drainWindow = true) ∧ (s.pfCause ≠ 3) ∧ (s.pfPhase = pfDrain) ∧ (s.pf.energyShort = false) ∧
    ((s.pf.stage0Held = true ∨ s.nonDurable = true ∨ (s.durableSet ≠ [] ∧ ∀ n ∈ s.durableSet,
    (s.hb n).ejecting = false)))) ∧
  (
    ∃ s : State, (s.pf.drainWindow = false)) ∧
  (
    ∃ s : State, (s.pfPhase = pfIdle) ∧ (s.started = true) ∧ (s.coreServes = true) ∧ (s.rung = rungNoon) ∧
    (s.rungPhase = rpSteady) ∧ ((s.power.linksPending = true ∨ s.nonDurable = true ∨ (s.durableSet ≠ [] ∧
    ∀ n ∈ s.durableSet, (s.hb n).ejecting = false)))) ∧
  (
    ∃ s : State, (s.pfPhase ≠ pfIdle ∨ s.coreServes = false)) := ⟨
    ⟨st w10, (by decide +kernel), (by decide +kernel), (by decide +kernel), (by decide +kernel), (by decide +kernel)⟩,
    ⟨st w10, (by decide +kernel), (by decide +kernel), (by decide +kernel), (by decide +kernel), (by decide +kernel),
    0, (by decide +kernel)⟩,
    ⟨st w73, (by decide +kernel), (by decide +kernel)⟩,
    ⟨st w10, 10, (by decide +kernel), (by decide +kernel)⟩,
    ⟨st w74, (by decide +kernel), (by decide +kernel), (by decide +kernel), (by decide +kernel), (by decide +kernel)⟩,
    ⟨st w10, (by decide +kernel)⟩,
    ⟨st w75, (by decide +kernel), (by decide +kernel), (by decide +kernel), (by decide +kernel), (by decide +kernel),
    (by decide +kernel)⟩,
    ⟨st w10, (by decide +kernel)⟩⟩

/-- The hypotheses of Obligations.PowerFail (The power-fail, Thalt and Midnight flushes) are met, clause by clause, clauses 9 to 13. -/
theorem witness_PowerFail_2 :
  (
    ∃ s : State, (s.pfPhase = pfStage0) ∧ (s.recordPendingOn .flushStart = false) ∧ (s.nonDurable = false) ∧
    (s.durableSet ≠ []) ∧ (s.pf.energyShort = false) ∧ (s.epState = epNone) ∧ ((∃ u ∈ s.fuller.map,
    s.epochUnit u.1 = false))) ∧
  (
    ∃ s : State, ∃ mv, (pfDrain ≤ s.pfPhase) ∧ (s.pfPhase < pfClosing) ∧ (s.pf.pfSeen = true) ∧
    (s.pf.energyShort = false) ∧ (mv < 4725)) ∧
  (
    ∃ s : State, (s.pfPhase = pfClosing) ∧ (s.power.wakeSeen = none)) ∧
  (
    ∃ s : State, (s.pfPhase = pfSafe) ∧ (s.rung ≠ rungMidnight) ∧ (s.pf.thaltSafe = false) ∧ (s.pf.low = false) ∧
    (s.pf.roseAt + 10000000 ≤ s.now) ∧ (s.dawnDone 10 = false)) ∧
  (
    ∃ s : State, (s.pfPhase = pfSafe) ∧ (s.rung ≠ rungMidnight) ∧ (s.pf.thaltSafe = false) ∧ (s.pf.low = false) ∧
    (s.pf.roseAt + 10000000 ≤ s.now) ∧ (s.dawnDone 10 = true)) := ⟨
    ⟨st w76, (by decide +kernel), (by decide +kernel), (by decide +kernel), (by decide +kernel), (by decide +kernel),
    (by decide +kernel), (by decide +kernel)⟩,
    ⟨st w77, 0, (by decide +kernel), (by decide +kernel), (by decide +kernel), (by decide +kernel),
    (by decide +kernel)⟩,
    ⟨st w78, (by decide +kernel), (by decide +kernel)⟩,
    ⟨st w79, (by decide +kernel), (by decide +kernel), (by decide +kernel), (by decide +kernel), (by decide +kernel),
    (by decide +kernel)⟩,
    ⟨st w80, (by decide +kernel), (by decide +kernel), (by decide +kernel), (by decide +kernel), (by decide +kernel),
    (by decide +kernel)⟩⟩

/-- The hypotheses of Obligations.HoldUp (Hold-up energy) are met, clause by clause. -/
theorem witness_HoldUp :
  (
    ∃ s : State, (s.rung = rungNoon) ∧ (s.pfPhase = pfIdle) ∧ (s.pf.audited = true) ∧ (s.pf.auditing = false)) ∧
  (
    ∃ s : State, (s.rung ≠ rungNoon)) ∧
  (
    ∃ s : State, (s.pf.auditing = true)) ∧
  (
    ∃ s : State, (s.pf.auditing = false)) := ⟨
    ⟨st w81, (by decide +kernel), (by decide +kernel), (by decide +kernel), (by decide +kernel)⟩,
    ⟨st w82, (by decide +kernel)⟩,
    ⟨st w83, (by decide +kernel)⟩,
    ⟨st w10, (by decide +kernel)⟩⟩

/-- The hypotheses of Obligations.Restore (Restore start, bulk restore and fault-ins) are met, clause by clause. -/
theorem witness_Restore :
  (
    ∃ s : State, (s.rstPhase = 1) ∧ (s.restorable = true) ∧ (s.pfPhase = pfIdle) ∧ (s.durableSet ≠ []) ∧
    (s.nonDurable = false) ∧ (s.hbState 0 ≠ hbResync) ∧ (s.hbState 1 ≠ hbResync) ∧ (s.rungPhase = rpSteady)) ∧
  (
    ∃ s : State, (s.pf.restoring = true) ∧ (s.pfPhase = pfIdle) ∧
    let u := s.nextBulk (s.pf.restored.length + s.pf.faultIns.length) s.pf.bulkPtr
    (u < 2 ^ 25)) ∧
  (
    ∃ s : State, ∃ unit : BitVec 25, let u := unit.toNat
    (s.pf.faultIns.contains u = true) ∧ (s.pf.writing.contains u = false) ∧ (s.pfPhase = pfIdle)) ∧
  (
    ∃ s : State, ∃ pc : Fin 128, ∃ u : Nat, let d := s.toDev.lineSlot pc
    (u ∈ d.pf.writing) ∧ (d.restoreLeft u = false) ∧ (d.pf.waitList = [])) ∧
  (
    ∃ s : State, ∃ x, ∃ rest, (s.pf.unsaved = x :: rest) ∧ (rest.length < 512)) := ⟨
    ⟨st w84, (by decide +kernel), (by decide +kernel), (by decide +kernel), (by decide +kernel), (by decide +kernel),
    (by decide +kernel), (by decide +kernel), (by decide +kernel)⟩,
    ⟨st w85, (by decide +kernel), (by decide +kernel), (by decide +kernel)⟩,
    ⟨st w86, (3 : BitVec 25), (by decide +kernel), (by decide +kernel), (by decide +kernel)⟩,
    ⟨st w87, 0, 3, (by decide +kernel), (by decide +kernel), (by decide +kernel)⟩,
    ⟨st w88, (5, 2, 0, false), [(9, 1, 0, true)], (by decide +kernel), (by decide +kernel)⟩⟩

/-- The hypotheses of Obligations.HatboxCommands (Hatbox commands) are met, clause by clause, clauses 1 to 8. -/
theorem witness_HatboxCommands :
  (
    ∃ s : State, ∃ k : Fin 2, let n := k.val
    let st := s.hbState n
    (s.hbCoincides = false) ∧ ((s.hb n).ejecting = false) ∧ ∃ c, (st = hbForeign) ∧ (1 ≤ s.otp.lifecycle) ∧
    (s.otp.lifecycle ≤ 3) ∧ (s.hbRoot.isSome = true) ∧ ((s.hb n).cart = some c) ∧
    ((c.super = none ∨ s.flag (base.hb n) HB.CTL.ERASE_OK = true)) ∧ (c.report.formatOffered = true) ∧
    (s.blocksNeeded ≤ c.report.blocks)) ∧
  (
    ∃ s : State, ∃ k : Fin 2, let n := k.val
    let st := s.hbState n
    (s.hbCoincides = false) ∧ ((s.hb n).ejecting = false) ∧ (st = hbForeign) ∧ (s.otp.lifecycle = 0)) ∧
  (
    ∃ s : State, ∃ k : Fin 2, let n := k.val
    let st := s.hbState n
    (s.hbCoincides = false) ∧ ((s.hb n).ejecting = false) ∧ (st = hbAbsent)) ∧
  (
    ∃ s : State, ∃ k : Fin 2, let n := k.val
    let st := s.hbState n
    (s.hbCoincides = false) ∧ ((s.hb n).ejecting = false) ∧ (hbForeign ≤ st) ∧ (st ≤ hbRestoreOnly) ∧
    (st ≠ hbPairing) ∧ ((s.soleMember n = false ∨ s.flag (base.hb n) HB.CTL.FORCE = true)) ∧ ((s.hb n).cmds = [])) ∧
  (
    ∃ s : State, ∃ k : Fin 2, let n := k.val
    let st := s.hbState n
    (s.hbCoincides = false) ∧ ((s.hb n).ejecting = false) ∧ (hbForeign ≤ st) ∧ (st ≤ hbRestoreOnly) ∧
    (st ≠ hbPairing) ∧ ((s.soleMember n = false ∨ s.flag (base.hb n) HB.CTL.FORCE = true)) ∧ ((s.hb n).cmds ≠ [])) ∧
  (
    ∃ s : State, ∃ k : Fin 2, let n := k.val
    let st := s.hbState n
    (s.hbCoincides = false) ∧ ((s.hb n).ejecting = false) ∧ (st = hbInService) ∧ (s.soleMember n = true) ∧
    (s.flag (base.hb n) HB.CTL.FORCE = false)) ∧
  (
    ∃ s : State, (s.hbCoincides = true)) ∧
  (
    ∃ s : State, (s.hbCoincides = false) ∧ (s.otp.lifecycle ≠ 3)) := ⟨
    ⟨st w89, 0, (by decide +kernel), (by decide +kernel), ⟨⟨(0x22 : BitVec 64), true, 2000000000⟩, none, none, []⟩,
    (by decide +kernel), (by decide +kernel), (by decide +kernel), (by decide +kernel), (by decide +kernel),
    (by decide +kernel), (by decide +kernel), (by decide +kernel)⟩,
    ⟨st w90, 0, (by decide +kernel), (by decide +kernel), (by decide +kernel), (by decide +kernel)⟩,
    ⟨st w10, 1, (by decide +kernel), (by decide +kernel), (by decide +kernel)⟩,
    ⟨st w89, 0, (by decide +kernel), (by decide +kernel), (by decide +kernel), (by decide +kernel),
    (by decide +kernel), (by decide +kernel), (by decide +kernel)⟩,
    ⟨st w91, 0, (by decide +kernel), (by decide +kernel), (by decide +kernel), (by decide +kernel),
    (by decide +kernel), (by decide +kernel), (by decide +kernel)⟩,
    ⟨st w10, 0, (by decide +kernel), (by decide +kernel), (by decide +kernel), (by decide +kernel),
    (by decide +kernel)⟩,
    ⟨st w92, (by decide +kernel)⟩,
    ⟨st w89, (by decide +kernel), (by decide +kernel)⟩⟩

/-- The hypotheses of Obligations.HatboxCommands (Hatbox commands) are met, clause by clause, clauses 9 to 13. -/
theorem witness_HatboxCommands_2 :
  (
    ∃ s : State, ∃ k : Fin 2, let n := k.val
    let st := s.hbState n
    (s.hbCoincides = false) ∧ (s.otp.lifecycle = 3) ∧ (s.rd base.key KEY.CMD.PORT = n) ∧
    (st = hbInService ∨ st = hbRestoreOnly)) ∧
  (
    ∃ s : State, ∃ k : Fin 2, let n := k.val
    let st := s.hbState n
    (s.hbCoincides = false) ∧ (s.otp.lifecycle = 3) ∧ (s.rd base.key KEY.CMD.PORT = n) ∧ ∃ c, ∃ f,
    ((s.hb n).cart = some c) ∧ (c.super = some f) ∧ (st = hbForeign)) ∧
  (
    ∃ s : State, ∃ k : Fin 2, let n := k.val
    let st := s.hbState n
    ((s.hb n).cart.isSome = true) ∧ (st = hbInService) ∧ (s.pfPhase = pfIdle)) ∧
  (
    ∃ s : State, ∃ k : Fin 2, let n := k.val
    ∃ c, ∃ f, ∃ b, ((s.hb n).cart = some c) ∧ (c.super = some f) ∧ (c.log.getLast? = some b) ∧
    (f.logBlocks ≤ 8 * (f.logBlocks - cartUsed c)) ∧ (s.pf.abandons.length ≤ 240)) ∧
  (
    ∃ s : State, ∃ k : Fin 2, let n := k.val
    ∃ c, ∃ f, ∃ b, ((s.hb n).cart = some c) ∧ (c.super = some f) ∧ (c.log.getLast? = some b) ∧
    (8 * (f.logBlocks - cartUsed c) < f.logBlocks ∨ 240 < s.pf.abandons.length)) := ⟨
    ⟨st w10, 0, (by decide +kernel), (by decide +kernel), (by decide +kernel), (by decide +kernel)⟩,
    ⟨st w93, 0, (by decide +kernel), (by decide +kernel), (by decide +kernel), ⟨⟨(0x11 : BitVec 64), true, 2000000⟩,
    (some ⟨1, 2, 0, true, false, false, false, (0x11 : BitVec 64), (0 : BitVec 64), (0 : BitVec 64), (1 : BitVec 32),
    (7 : BitVec 256), (0x11 : BitVec 64), ⟨(7 : BitVec 256), (0x11 : BitVec 64), (1 : BitVec 32)⟩, ⟨(7 : BitVec 256),
    (0x11 : BitVec 64), (1 : BitVec 32)⟩, 1000000, 0, 0, 0, 0, []⟩), none, [⟨(1 : BitVec 16), 1, 2, 2, 3,
    (1 : BitVec 32), [(0, 1)], [(0, (0xAB : BitVec 520))], []⟩, ⟨(1 : BitVec 16), 0, 1, 1, 0, (1 : BitVec 32), [(0,
    1)], [(0, (0xAB : BitVec 520))], []⟩]⟩, ⟨1, 2, 0, true, false, false, false, (0x11 : BitVec 64), (0 : BitVec 64),
    (0 : BitVec 64), (1 : BitVec 32), (7 : BitVec 256), (0x11 : BitVec 64), ⟨(7 : BitVec 256), (0x11 : BitVec 64),
    (1 : BitVec 32)⟩, ⟨(7 : BitVec 256), (0x11 : BitVec 64), (1 : BitVec 32)⟩, 1000000, 0, 0, 0, 0, []⟩,
    (by decide +kernel), (by decide +kernel), (by decide +kernel)⟩,
    ⟨st w10, 0, (by decide +kernel), (by decide +kernel), (by decide +kernel)⟩,
    ⟨st w10, 0, ⟨⟨(0x11 : BitVec 64), true, 2000000⟩, (some ⟨1, 2, 0, true, false, false, false, (0x11 : BitVec 64),
    (0 : BitVec 64), (0 : BitVec 64), (1 : BitVec 32), (7 : BitVec 256), (0x11 : BitVec 64), ⟨(7 : BitVec 256),
    (0x11 : BitVec 64), (1 : BitVec 32)⟩, ⟨(7 : BitVec 256), (0x11 : BitVec 64), (1 : BitVec 32)⟩, 1000000, 0, 0, 0,
    0, []⟩), none, [⟨(1 : BitVec 16), 1, 2, 2, 3, (1 : BitVec 32), [(0, 1)], [(0, (0xAB : BitVec 520))], []⟩,
    ⟨(1 : BitVec 16), 0, 1, 1, 0, (1 : BitVec 32), [(0, 1)], [(0, (0xAB : BitVec 520))], []⟩]⟩, ⟨1, 2, 0, true, false,
    false, false, (0x11 : BitVec 64), (0 : BitVec 64), (0 : BitVec 64), (1 : BitVec 32), (7 : BitVec 256),
    (0x11 : BitVec 64), ⟨(7 : BitVec 256), (0x11 : BitVec 64), (1 : BitVec 32)⟩, ⟨(7 : BitVec 256),
    (0x11 : BitVec 64), (1 : BitVec 32)⟩, 1000000, 0, 0, 0, 0, []⟩, ⟨(1 : BitVec 16), 0, 1, 1, 0, (1 : BitVec 32),
    [(0, 1)], [(0, (0xAB : BitVec 520))], []⟩, (by decide +kernel), (by decide +kernel), (by decide +kernel),
    (by decide +kernel), (by decide +kernel)⟩,
    ⟨st w94, 0, ⟨⟨(0x11 : BitVec 64), true, 2000000⟩, (some ⟨1, 2, 0, true, false, false, false, (0x11 : BitVec 64),
    (0 : BitVec 64), (0 : BitVec 64), (1 : BitVec 32), (7 : BitVec 256), (0x11 : BitVec 64), ⟨(7 : BitVec 256),
    (0x11 : BitVec 64), (1 : BitVec 32)⟩, ⟨(7 : BitVec 256), (0x11 : BitVec 64), (1 : BitVec 32)⟩, 20000, 0, 0, 0, 0,
    []⟩), none, [⟨(1 : BitVec 16), 19000, 19001, 19001, 3, (1 : BitVec 32), [(0, 1)], [(0, (0xAB : BitVec 520))], []⟩,
    ⟨(1 : BitVec 16), 3, 4, 4, 0, (1 : BitVec 32), [(0, 1)], [(0, (0xAB : BitVec 520))], []⟩]⟩, ⟨1, 2, 0, true, false,
    false, false, (0x11 : BitVec 64), (0 : BitVec 64), (0 : BitVec 64), (1 : BitVec 32), (7 : BitVec 256),
    (0x11 : BitVec 64), ⟨(7 : BitVec 256), (0x11 : BitVec 64), (1 : BitVec 32)⟩, ⟨(7 : BitVec 256),
    (0x11 : BitVec 64), (1 : BitVec 32)⟩, 20000, 0, 0, 0, 0, []⟩, ⟨(1 : BitVec 16), 3, 4, 4, 0, (1 : BitVec 32), [(0,
    1)], [(0, (0xAB : BitVec 520))], []⟩, (by decide +kernel), (by decide +kernel), (by decide +kernel),
    (by decide +kernel)⟩⟩

/-- The hypotheses of Obligations.HatboxPorts (Hatbox links, commands in flight and controllers) are met, clause by clause, clauses 1 to 8. -/
theorem witness_HatboxPorts :
  (
    ∃ s : State, ∃ k : Fin 2, let n := k.val
    ∃ cid, ∃ c, ∃ u, ∃ bs, ∃ ct, ((s.hb n).cmds.find? (fun c => c.cid = cid) = some c) ∧ (c.op = .writeUnit u bs) ∧
    ((s.hb n).cart = some ct) ∧ ((s.hb n).logSinceCkpt + (bs.map blockSpan).sum < 262144) ∧
    ((s.hb n).ejecting = false) ∧ (s.rungPhase ≠ rpEntering)) ∧
  (
    ∃ s : State, ∃ k : Fin 2, let n := k.val
    ∃ cid, ((s.hb n).cmds.find? (fun c => c.cid = cid) = none)) ∧
  (
    ∃ s : State, ∃ k : Fin 2, let n := k.val
    ∃ cid, ∃ c, ((s.hb n).cmds.find? (fun x => x.cid = cid) = some c) ∧ ((s.hb n).resetting = false) ∧
    (c.aborted = false) ∧ (c.op ≠ .format)) ∧
  (
    ∃ s : State, ∃ k : Fin 2, let n := k.val
    let st := s.hbState n
    ∃ cid, ∃ c, ((s.hb n).cmds.find? (fun x => x.cid = cid) = some c) ∧ ((s.hb n).resetting = false) ∧
    (c.aborted = true) ∧ ((s.hb n).cart.isSome = true) ∧ (st ≠ hbAbsent) ∧ (st ≠ hbFailed) ∧ (st ≠ hbEjected)) ∧
  (
    ∃ s : State, ∃ k : Fin 2, let n := k.val
    let other := s.nonDurable = false ∧ s.hbMode = 1 ∧ s.hbState (1 - n) = hbInService ∧ s.started = true ∧
    s.pfPhase = pfIdle ∧
    s.pf.stage0Held = false
    ∃ cid, ∃ c, ((s.hb n).cmds.find? (fun x => x.cid = cid) = some c) ∧ ((s.hb n).resetting = true) ∧ (other)) ∧
  (
    ∃ s : State, ∃ k : Fin 2, let n := k.val
    let st := s.hbState n
    ∃ speed : BitVec 2, (s.linksRun = true) ∧ (st = hbAbsent) ∧ ((s.hb n).cart = none) ∧ (speed ≠ 3) ∧
    (s.dawnDone 7 = false)) ∧
  (
    ∃ s : State, ∃ k : Fin 2, let n := k.val
    let st := s.hbState n
    let other := s.nonDurable = false ∧ s.hbMode = 1 ∧ s.hbState (1 - n) = hbInService ∧ s.started = true ∧
    s.pfPhase = pfIdle ∧
    s.pf.stage0Held = false
    ∃ speed : BitVec 2, ∃ cart : Cart, (s.linksRun = true) ∧ (st = hbAbsent) ∧ ((s.hb n).cart = none) ∧ (speed ≠ 3) ∧
    (s.dawnDone 6 = true) ∧ (s.dawnDone 7 = true) ∧ (cart.super = none) ∧ (other)) ∧
  (
    ∃ s : State, ∃ k : Fin 2, let n := k.val
    let st := s.hbState n
    let other := s.nonDurable = false ∧ s.hbMode = 1 ∧ s.hbState (1 - n) = hbInService ∧ s.started = true ∧
    s.pfPhase = pfIdle ∧
    s.pf.stage0Held = false
    (other) ∧ (st ≠ hbAbsent) ∧ (st ≠ hbEjected) ∧ (st ≠ hbFailed)) := ⟨
    ⟨st w95, 0, 5, ⟨5, 1, (NvmeOp.writeUnit 3 [⟨(1 : BitVec 16), 0, 0, 0, 3, (2 : BitVec 32), [(0, 1)], [(0,
    (0xAB : BitVec 520))], []⟩]), false⟩, 3, [⟨(1 : BitVec 16), 0, 0, 0, 3, (2 : BitVec 32), [(0, 1)], [(0,
    (0xAB : BitVec 520))], []⟩], ⟨⟨(0x11 : BitVec 64), true, 2000000⟩, (some ⟨1, 2, 0, true, false, false, false,
    (0x11 : BitVec 64), (0 : BitVec 64), (0 : BitVec 64), (1 : BitVec 32), (7 : BitVec 256), (0x11 : BitVec 64),
    ⟨(7 : BitVec 256), (0x11 : BitVec 64), (1 : BitVec 32)⟩, ⟨(7 : BitVec 256), (0x11 : BitVec 64), (1 : BitVec 32)⟩,
    1000000, 0, 0, 0, 0, []⟩), none, [⟨(1 : BitVec 16), 1, 2, 2, 3, (1 : BitVec 32), [(0, 1)], [(0,
    (0xAB : BitVec 520))], []⟩, ⟨(1 : BitVec 16), 0, 1, 1, 0, (1 : BitVec 32), [(0, 1)], [(0, (0xAB : BitVec 520))],
    []⟩]⟩, (by decide +kernel), (by decide +kernel), (by decide +kernel), (by decide +kernel), (by decide +kernel),
    (by decide +kernel)⟩,
    ⟨st w10, 0, 0, (by decide +kernel)⟩,
    ⟨st w95, 0, 5, ⟨5, 1, (NvmeOp.writeUnit 3 [⟨(1 : BitVec 16), 0, 0, 0, 3, (2 : BitVec 32), [(0, 1)], [(0,
    (0xAB : BitVec 520))], []⟩]), false⟩, (by decide +kernel), (by decide +kernel), (by decide +kernel),
    (by decide +kernel)⟩,
    ⟨st w96, 0, 5, ⟨5, 1, (NvmeOp.writeUnit 3 [⟨(1 : BitVec 16), 0, 0, 0, 3, (2 : BitVec 32), [(0, 1)], [(0,
    (0xAB : BitVec 520))], []⟩]), true⟩, (by decide +kernel), (by decide +kernel), (by decide +kernel),
    (by decide +kernel), (by decide +kernel), (by decide +kernel), (by decide +kernel)⟩,
    ⟨st w97, 0, 5, ⟨5, 1, (NvmeOp.writeUnit 3 [⟨(1 : BitVec 16), 0, 0, 0, 3, (2 : BitVec 32), [(0, 1)], [(0,
    (0xAB : BitVec 520))], []⟩]), true⟩, (by decide +kernel), (by decide +kernel), (by decide +kernel)⟩,
    ⟨st w98, 0, (0 : BitVec 2), (by decide +kernel), (by decide +kernel), (by decide +kernel), (by decide +kernel),
    (by decide +kernel)⟩,
    ⟨st w99, 0, (0 : BitVec 2), ⟨⟨0x22, true, 2000000000⟩, none, none, []⟩, (by decide +kernel), (by decide +kernel),
    (by decide +kernel), (by decide +kernel), (by decide +kernel), (by decide +kernel), (by decide +kernel),
    (by decide +kernel)⟩,
    ⟨st w100, 0, (by decide +kernel), (by decide +kernel), (by decide +kernel), (by decide +kernel)⟩⟩

/-- The hypotheses of Obligations.HatboxPorts (Hatbox links, commands in flight and controllers) are met, clause by clause, clauses 9 to 13. -/
theorem witness_HatboxPorts_2 :
  (
    ∃ s : State, ∃ k : Fin 2, let n := k.val
    let other := s.nonDurable = false ∧ s.hbMode = 1 ∧ s.hbState (1 - n) = hbInService ∧ s.started = true ∧
    s.pfPhase = pfIdle ∧
    s.pf.stage0Held = false
    (other) ∧ ((s.hb n).cart.isSome = true)) ∧
  (
    ∃ s : State, ∃ k : Fin 2, let n := k.val
    let st := s.hbState n
    let other := s.nonDurable = false ∧ s.hbMode = 1 ∧ s.hbState (1 - n) = hbInService ∧ s.started = true ∧
    s.pfPhase = pfIdle ∧
    s.pf.stage0Held = false
    (other) ∧ (s.linksRun = true) ∧ (st = hbAbsent) ∧ (s.hbr n HB.STATUS.SPEED = 3) ∧ ((s.hb n).cart.isSome = true)) ∧
  (
    ∃ s : State, ∃ k : Fin 2, let n := k.val
    let st := s.hbState n
    (st ≠ hbAbsent)) ∧
  (
    ∃ s : State, ∃ k : Fin 2, let n := k.val
    let st := s.hbState n
    ((s.hb n).cart.isSome = true) ∧ (st ≠ hbAbsent) ∧ (st ≠ hbFailed) ∧ (st ≠ hbEjected)) ∧
  (
    ∃ s : State, ∃ k : Fin 2, let n := k.val
    ((s.hb n).cart = none)) := ⟨
    ⟨st w100, 0, (by decide +kernel), (by decide +kernel)⟩,
    ⟨st w101, 0, (by decide +kernel), (by decide +kernel), (by decide +kernel), (by decide +kernel),
    (by decide +kernel)⟩,
    ⟨st w10, 0, (by decide +kernel)⟩,
    ⟨st w10, 0, (by decide +kernel), (by decide +kernel), (by decide +kernel), (by decide +kernel)⟩,
    ⟨st w10, 1, (by decide +kernel)⟩⟩

/-- The hypotheses of Obligations.Rungs (The rungs of the power ladder) are met, clause by clause, clause 1. -/
theorem witness_Rungs :
    ∃ s : State, (s.quiet = true) ∧ (s.fuller.map = []) ∧ (s.fuller.jobs = []) ∧ (s.rungPhase = rpSteady) ∧
    ((∀ (p : Fin 128) (b : Fin 32), s.debt p b ≤ 16)) := 
    ⟨st w102, (by decide +kernel), (by decide +kernel), (by decide +kernel), (by decide +kernel),
    (debts_small (by decide +kernel))⟩

/-- The hypotheses of Obligations.Rungs (The rungs of the power ladder) are met, clause by clause, clauses 2 to 9. -/
theorem witness_Rungs_2 :
  (
    ∃ s : State, (s.pfPhase = pfIdle) ∧ (s.rung = rungDusk ∨ s.rung = rungNight) ∧ ∃ src : WakeSrc, (src ≠ .carder)) ∧
  (
    ∃ s : State, (s.pfPhase = pfIdle) ∧ (s.rung = rungDusk ∨ s.rung = rungNight) ∧ (s.rung = rungNight) ∧
    (s.rd base.rung RUNG.WAKE_TIMER.MS ≠ 0)) ∧
  (
    ∃ s : State, (s.rd base.rung RUNG.WAKE_TIMER.MS = 0)) ∧
  (
    ∃ s : State, (s.pfPhase = pfIdle) ∧ (s.rung = rungNoon) ∧ (s.rungPhase = rpSteady)) ∧
  (
    ∃ s : State, ∃ src : WakeSrc, (s.asleep = false ∨ s.wakesMidnight src = false)) ∧
  (
    ∃ s : State, ∃ src : WakeSrc, (s.asleep = true) ∧ (s.pf.thaltSafe = true) ∧ (s.wakesMidnight src = true) ∧
    (s.coolEnough = true) ∧ (s.dawnDone 10 = true)) ∧
  (
    ∃ s : State, (s.asleep = false) ∧ (s.rungBusy = false) ∧ (s.rung = rungNoon) ∧ (s.rungPhase = rpHeld)) ∧
  (
    ∃ s : State, (s.asleep = false) ∧ (s.rungBusy = false) ∧ (s.rung = rungDusk) ∧ (s.rungPhase = rpSteady)) := ⟨
    ⟨st w103, (by decide +kernel), (by decide +kernel), WakeSrc.mgmt, (by decide +kernel)⟩,
    ⟨st w104, (by decide +kernel), (by decide +kernel), (by decide +kernel), (by decide +kernel)⟩,
    ⟨st full, (by decide +kernel)⟩,
    ⟨st full, (by decide +kernel), (by decide +kernel), (by decide +kernel)⟩,
    ⟨st full, WakeSrc.carder, (by decide +kernel)⟩,
    ⟨st w105, WakeSrc.timer, (by decide +kernel), (by decide +kernel), (by decide +kernel), (by decide +kernel),
    (by decide +kernel)⟩,
    ⟨st w106, (by decide +kernel), (by decide +kernel), (by decide +kernel), (by decide +kernel)⟩,
    ⟨st w103, (by decide +kernel), (by decide +kernel), (by decide +kernel), (by decide +kernel)⟩⟩

/-- The hypotheses of Obligations.Rungs (The rungs of the power ladder) are met, clause by clause, clauses 10 to 16. -/
theorem witness_Rungs_3 :
  (
    ∃ s : State, (s.asleep = false) ∧ (s.rungBusy = false) ∧ (s.rungPhase ≠ rpEntering)) ∧
  (
    ∃ s : State, (s.asleep = false) ∧ (s.rungBusy = false) ∧ (s.rung = rungNoon) ∧ (s.rungPhase = rpSteady)) ∧
  (
    ∃ s : State, (s.rungBusy = true)) ∧
  (
    ∃ s : State, (s.rungBusy = true) ∧ (s.asleep = false)) ∧
  (
    ∃ s : State, (s.rungPhase = rpHeld) ∧ (s.rd base.rung RUNG.STATUS.PENDING = 2) ∧ (s.quiet = true)) ∧
  (
    ∃ s : State, (s.rungPhase = rpHeld) ∧ (s.rd base.rung RUNG.STATUS.PENDING = 2)) ∧
  (
    ∃ s : State, (s.rungPhase ≠ rpHeld)) := ⟨
    ⟨st full, (by decide +kernel), (by decide +kernel), (by decide +kernel)⟩,
    ⟨st full, (by decide +kernel), (by decide +kernel), (by decide +kernel), (by decide +kernel)⟩,
    ⟨st w105, (by decide +kernel)⟩,
    ⟨st w107, (by decide +kernel), (by decide +kernel)⟩,
    ⟨st w106, (by decide +kernel), (by decide +kernel), (by decide +kernel)⟩,
    ⟨st w106, (by decide +kernel), (by decide +kernel)⟩,
    ⟨st full, (by decide +kernel)⟩⟩

/-- The hypotheses of Obligations.Governor (The power governor and the thermal levels) are met, clause by clause. -/
theorem witness_Governor :
  (
    ∃ s : State, ∃ p100 : Nat, (s.rung = rungNoon) ∧ (s.flag base.gov GOV.CFG.POINT_EN = false) ∧ (p100 < 4096)) ∧
  (
    ∃ s : State, (s.rung ≠ rungNoon)) ∧
  (
    ∃ s : State, (s.rung = rungNoon)) := ⟨
    ⟨st up, 0, (by decide +kernel), (by decide +kernel), (by decide +kernel)⟩,
    ⟨st w108, (by decide +kernel)⟩,
    ⟨st up, (by decide +kernel)⟩⟩

/-- The hypotheses of Obligations.Sensors (Temperature sensors and thermal shutdown) are met, clause by clause. -/
theorem witness_Sensors :
  (
    ∃ s : State, ∃ i : Fin 80, (s.sensorsRun = true) ∧ (s.sensState i ≠ sensBroken) ∧ (s.pf.wakeHeld = false) ∧
    (s.dawnPhase ≠ dawnThermalWait) ∧ ∃ v : BitVec 11, (s.plausible i (BitVec.toInt v) = true)) ∧
  (
    ∃ s : State, ∃ i : Fin 80, (s.sensorsRun = true) ∧ (s.sensState i ≠ sensBroken) ∧ (s.pf.wakeHeld = false) ∧
    (s.dawnPhase ≠ dawnThermalWait) ∧ ∃ x : Sample, ((x = .openOrShort ∨ ∃ v, x = .value v ∧
    s.plausible i v.toInt = false))) ∧
  (
    ∃ s : State, ∃ i : Fin 80, (s.sensorsRun = true) ∧ (s.sensState i ≠ sensBroken) ∧ (s.pf.wakeHeld = false) ∧
    (s.dawnPhase ≠ dawnThermalWait) ∧ (isRemote i = true)) ∧
  (
    ∃ s : State, ∃ i : Fin 80, (s.sensState i = sensBroken) ∧ (s.pf.wakeHeld = false) ∧
    (s.dawnPhase ≠ dawnThermalWait)) ∧
  (
    ∃ s : State, ∃ i : Fin 80, ∃ v : BitVec 11, (s.batt.held = none) ∧
    let trips := if isBrim i then decide (s.brimMaxC ≤ v.toInt) else isCore i && decide (s.tshutC ≤ v.toInt)
    (trips = false)) ∧
  (
    ∃ s : State, ∃ i : Fin 80, ∃ v : BitVec 11, (s.batt.held = none) ∧
    let trips := if isBrim i then decide (s.brimMaxC ≤ v.toInt) else isCore i && decide (s.tshutC ≤ v.toInt)
    (trips = true) ∧ (s.sensState i ≠ sensBroken) ∧ (s.plausible i v.toInt = true) ∧ (s.sensorsRun = true) ∧
    (s.therm.cut = false) ∧ (s.therm.latch.length < 4)) := ⟨
    ⟨st up, 0, (by decide +kernel), (by decide +kernel), (by decide +kernel), (by decide +kernel), (0 : BitVec 11),
    (by decide +kernel)⟩,
    ⟨st up, 0, (by decide +kernel), (by decide +kernel), (by decide +kernel), (by decide +kernel), Sample.openOrShort,
    (.inl rfl)⟩,
    ⟨st up, 79, (by decide +kernel), (by decide +kernel), (by decide +kernel), (by decide +kernel),
    (by decide +kernel)⟩,
    ⟨st w109, 0, (by decide +kernel), (by decide +kernel), (by decide +kernel)⟩,
    ⟨st up, 0, (0 : BitVec 11), (by decide +kernel), (by decide +kernel)⟩,
    ⟨st up, 0, (0x1E0 : BitVec 11), (by decide +kernel), (by decide +kernel), (by decide +kernel),
    (by decide +kernel), (by decide +kernel), (by decide +kernel), (by decide +kernel)⟩⟩

/-- The hypotheses of Obligations.BattStaging (The staging buffer of the Batt image) are met, clause by clause. -/
theorem witness_BattStaging :
  (
    ∃ s : State, ∃ m : Master, (s.ownerBars m base.batt = true)) ∧
  (
    ∃ s : State, ∃ m : Master, (s.ownerBars m base.batt = false) ∧ (s.battOpen m = false)) ∧
  (
    ∃ s : State, ∃ m : Master, (s.ownerBars m base.batt = false) ∧ (s.battOpen m = true) ∧ (s.battRuns = false)) ∧
  (
    ∃ s : State, ∃ m : Master, (s.ownerBars m base.batt = false) ∧ (s.battOwns m = true)) ∧
  (
    ∃ s : State, ∃ m : Master, (s.ownerBars m base.batt = false) ∧ (s.battOwns m = false)) := ⟨
    ⟨st w110, Master.core, (by decide +kernel)⟩,
    ⟨st w111, Master.jtag, (by decide +kernel), (by decide +kernel)⟩,
    ⟨st full, Master.core, (by decide +kernel), (by decide +kernel), (by decide +kernel)⟩,
    ⟨st w111, Master.core, (by decide +kernel), (by decide +kernel)⟩,
    ⟨st full, Master.core, (by decide +kernel), (by decide +kernel)⟩⟩

/-- The hypotheses of Obligations.BattCommands (VALIDATE, APPLY and APPLY_STORE) are met, clause by clause, clauses 1 to 8. -/
theorem witness_BattCommands :
  (
    ∃ s : State, ∃ m : Master, (s.ownerBars m base.batt = false) ∧ (s.battOpen m = true) ∧
    (s.battRuns = true ∨ s.batt.held ≠ none)) ∧
  (
    ∃ s : State, ∃ m : Master, (s.ownerBars m base.batt = false) ∧ (s.battOpen m = true) ∧ (s.battRuns = false) ∧
    (s.batt.held = none) ∧ (s.dawnDone 6 = true) ∧ ((s.item itBattPush 0).testBit (masterCode m - 1) = false)) ∧
  (
    ∃ s : State, ∃ m : Master, (s.ownerBars m base.batt = false) ∧ (s.battOpen m = true) ∧ (s.battRuns = false) ∧
    (s.batt.held = none) ∧ (s.dawnDone 6 = true) ∧ ((s.item itBattPush 0).testBit (masterCode m - 1) = true) ∧
    (s.rung = rungNoon) ∧ (s.rungPhase = rpSteady) ∧ (s.pfPhase = pfIdle)) ∧
  (
    ∃ s : State, ∃ im, ∃ m, (s.batt.cmd = some (im, true)) ∧ (s.batt.held = some m) ∧ (s.dawnDone 6 = true)) ∧
  (
    ∃ s : State, ∃ im, (s.batt.cmd = some (im, true)) ∧ (s.batt.held = none)) ∧
  (
    ∃ s : State, ∃ im, (s.batt.cmd = some (im, true)) ∧ (s.batt.held = none) ∧ ((s.scopesOf im).codes ≠ [])) ∧
  (
    ∃ s : State, ∃ im, (s.batt.cmd = some (im, false)) ∧ (s.batt.held = none) ∧
    (s.batt.quiesced.all s.scopeQuiet = true)) ∧
  (
    ∃ s : State, ∃ im, (s.batt.cmd = some (im, false)) ∧ (s.batt.held = none) ∧
    (s.batt.quiesced.all s.scopeQuiet = false)) := ⟨
    ⟨st w112, Master.core, (by decide +kernel), (by decide +kernel), (by decide +kernel)⟩,
    ⟨st w113, Master.core, (by decide +kernel), (by decide +kernel), (by decide +kernel), (by decide +kernel),
    (by decide +kernel), (by decide +kernel)⟩,
    ⟨st w114, Master.core, (by decide +kernel), (by decide +kernel), (by decide +kernel), (by decide +kernel),
    (by decide +kernel), (by decide +kernel), (by decide +kernel), (by decide +kernel), (by decide +kernel)⟩,
    ⟨st w115, ⟨[(114752, (15 : BitVec 32)), (16448, (1 : BitVec 32))], (1 : BitVec 32), [(1 : BitVec 8),
    (2 : BitVec 8), (3 : BitVec 8), (5 : BitVec 8)]⟩, Master.core, (by decide +kernel), (by decide +kernel),
    (by decide +kernel)⟩,
    ⟨st w112, ⟨[(114752, (15 : BitVec 32)), (16448, (1 : BitVec 32))], (1 : BitVec 32), [(1 : BitVec 8),
    (2 : BitVec 8), (3 : BitVec 8), (5 : BitVec 8)]⟩, (by decide +kernel), (by decide +kernel)⟩,
    ⟨st w112, ⟨[(114752, (15 : BitVec 32)), (16448, (1 : BitVec 32))], (1 : BitVec 32), [(1 : BitVec 8),
    (2 : BitVec 8), (3 : BitVec 8), (5 : BitVec 8)]⟩, (by decide +kernel), (by decide +kernel), (by decide +kernel)⟩,
    ⟨st w116, ⟨[(114752, (15 : BitVec 32)), (16448, (1 : BitVec 32))], (1 : BitVec 32), [(1 : BitVec 8),
    (2 : BitVec 8), (3 : BitVec 8), (5 : BitVec 8)]⟩, (by decide +kernel), (by decide +kernel), (by decide +kernel)⟩,
    ⟨st w117, ⟨[(114752, (15 : BitVec 32)), (16448, (1 : BitVec 32))], (1 : BitVec 32), [(1 : BitVec 8),
    (2 : BitVec 8), (3 : BitVec 8), (5 : BitVec 8)]⟩, (by decide +kernel), (by decide +kernel), (by decide +kernel)⟩⟩

/-- The hypotheses of Obligations.BattCommands (VALIDATE, APPLY and APPLY_STORE) are met, clause by clause, clause 9. -/
theorem witness_BattCommands_2 :
    ∃ s : State, (s.batt.cmd = none) ∧ (s.batt.held = none) := 
    ⟨st w114, (by decide +kernel), (by decide +kernel)⟩

/-- The hypotheses of Obligations.Dawn (Power-up, reset and the steps of Dawn) are met, clause by clause, clauses 1 to 8. -/
theorem witness_Dawn :
  (
    ∃ s : State, (s.power.inRange = true) ∧ (s.power.resetN = true)) ∧
  (
    ∃ s : State, (s.power.inRange = false ∨ s.power.resetN = false)) ∧
  (
    ∃ s : State, (s.dawnLive = true) ∧ (s.batt.held = none) ∧ (s.dawnDone 1 = false)) ∧
  (
    ∃ s : State, (s.dawnLive = true) ∧ (s.batt.held = none) ∧ (s.dawnDone 1 = true) ∧ (s.dawnDone 2 = false)) ∧
  (
    ∃ s : State, (s.dawnLive = true) ∧ (s.batt.held = none) ∧ (s.dawnDone 2 = true) ∧ (s.dawnDone 3 = false) ∧
    (s.therm.latch = [])) ∧
  (
    ∃ s : State, (s.dawnLive = true) ∧ (s.batt.held = none) ∧ (s.dawnDone 1 = true) ∧ (s.dawnDone 4 = false)) ∧
  (
    ∃ s : State, (s.dawnLive = true) ∧ (s.batt.held = none) ∧ (s.dawnDone 2 = true) ∧ (s.dawnDone 3 = true) ∧
    (s.dawnDone 5 = false) ∧ (s.coreState = coreRuns)) ∧
  (
    ∃ s : State, (s.dawnLive = true) ∧ (s.batt.held = none) ∧ (s.dawnDone 5 = true) ∧ (s.dawnDone 6 = false)) := ⟨
    ⟨st w118, (by decide +kernel), (by decide +kernel)⟩,
    ⟨st Dev.reset, (by decide +kernel)⟩,
    ⟨st w118, (by decide +kernel), (by decide +kernel), (by decide +kernel)⟩,
    ⟨st w119, (by decide +kernel), (by decide +kernel), (by decide +kernel), (by decide +kernel)⟩,
    ⟨st w120, (by decide +kernel), (by decide +kernel), (by decide +kernel), (by decide +kernel), (by decide +kernel)⟩,
    ⟨st w119, (by decide +kernel), (by decide +kernel), (by decide +kernel), (by decide +kernel)⟩,
    ⟨st w121, (by decide +kernel), (by decide +kernel), (by decide +kernel), (by decide +kernel), (by decide +kernel),
    (by decide +kernel)⟩,
    ⟨st w122, (by decide +kernel), (by decide +kernel), (by decide +kernel), (by decide +kernel)⟩⟩

/-- The hypotheses of Obligations.Dawn (Power-up, reset and the steps of Dawn) are met, clause by clause, clauses 9 to 16. -/
theorem witness_Dawn_2 :
  (
    ∃ s : State, (s.dawnLive = true) ∧ (s.batt.held = none) ∧ (s.dawnDone 2 = true) ∧ (s.dawnDone 4 = true) ∧
    (s.dawnDone 6 = false) ∧ (s.dawnDone 7 = false) ∧ (s.rungPhase = rpSteady)) ∧
  (
    ∃ s : State, (s.dawnLive = true) ∧ (s.batt.held = none) ∧ (s.dawnDone 2 = true) ∧ (s.dawnDone 6 = true) ∧
    (s.dawnDone 8 = false) ∧ (s.anyTraining = false) ∧ (s.dawnPhase ≠ dawnThermalWait)) ∧
  (
    ∃ s : State, (s.dawnLive = true) ∧ (s.batt.held = none) ∧ (s.dawnDone 4 = true) ∧ (s.dawnDone 6 = true) ∧
    (s.dawnDone 9 = false) ∧ (s.held = false) ∧ (s.fabricSettled = true)) ∧
  (
    ∃ s : State, (s.dawnLive = true) ∧ (s.batt.held = none) ∧ (s.dawnDone 10 = false)) ∧
  (
    ∃ s : State, (s.dawnLive = true) ∧ (s.batt.held = none) ∧ ∃ k : Fin 11, (k.val ≠ 0) ∧ (s.dawnDone k = true)) ∧
  (
    ∃ s : State, (s.dawnLive = false) ∧ (s.batt.held = none)) ∧
  (
    ∃ s : State, (s.dawnDone 4 = false ∨ s.dawnDone 6 = false) ∧ (s.held = false) ∧ (s.dawnPhase ≠ dawnStopped) ∧
    (s.dawnDone 10 = false)) ∧
  (
    ∃ s : State, (s.dawnDone 4 = true) ∧ (s.dawnDone 6 = true)) := ⟨
    ⟨st w123, (by decide +kernel), (by decide +kernel), (by decide +kernel), (by decide +kernel), (by decide +kernel),
    (by decide +kernel), (by decide +kernel)⟩,
    ⟨st w124, (by decide +kernel), (by decide +kernel), (by decide +kernel), (by decide +kernel), (by decide +kernel),
    (by decide +kernel), (by decide +kernel)⟩,
    ⟨st w124, (by decide +kernel), (by decide +kernel), (by decide +kernel), (by decide +kernel), (by decide +kernel),
    (by decide +kernel), (by decide +kernel)⟩,
    ⟨st w118, (by decide +kernel), (by decide +kernel), (by decide +kernel)⟩,
    ⟨st w119, (by decide +kernel), (by decide +kernel), 1, (by decide +kernel), (by decide +kernel)⟩,
    ⟨st Dev.reset, (by decide +kernel), (by decide +kernel)⟩,
    ⟨st Dev.reset, (by decide +kernel), (by decide +kernel), (by decide +kernel), (by decide +kernel)⟩,
    ⟨st w124, (by decide +kernel), (by decide +kernel)⟩⟩

/-- The hypotheses of Obligations.Dawn (Power-up, reset and the steps of Dawn) are met, clause by clause, clauses 17 to 22. -/
theorem witness_Dawn_3 :
  (
    ∃ s : State, (s.held = true) ∧ (s.dawnDone 6 = false) ∧ (s.rungPhase = rpSteady)) ∧
  (
    ∃ s : State, (s.held = false)) ∧
  (
    ∃ s : State, (s.pf.zeroFill = true) ∧ (s.pfPhase = pfIdle) ∧ (s.rungPhase = rpSteady) ∧ (s.hbState 0 ≠ hbResync) ∧
    (s.hbState 1 ≠ hbResync)) ∧
  (
    ∃ s : State, (s.pf.zeroFill = false)) ∧
  (
    ∃ s : State, (s.dawnPhase = dawnWaitHatbox)) ∧
  (
    ∃ s : State, (s.dawnPhase ≠ dawnWaitHatbox)) := ⟨
    ⟨st w125, (by decide +kernel), (by decide +kernel), (by decide +kernel)⟩,
    ⟨st Dev.reset, (by decide +kernel)⟩,
    ⟨st w126, (by decide +kernel), (by decide +kernel), (by decide +kernel), (by decide +kernel), (by decide +kernel)⟩,
    ⟨st Dev.reset, (by decide +kernel)⟩,
    ⟨st w127, (by decide +kernel)⟩,
    ⟨st Dev.reset, (by decide +kernel)⟩⟩

/-- The hypotheses of Obligations.Faults (Fault collection and reaction) are met, clause by clause, clauses 1 to 8. -/
theorem witness_Faults :
  (
    ∃ i : Fin 512, let n := i.val
    (srcImpl n = false)) ∧
  (
    ∃ s : State, ∃ i : Fin 512, let n := i.val
    (s.collectorOn = true) ∧ (srcImpl n = true) ∧ (s.srcFlag n FAULT.SRC.INTEGRITY = false) ∧
    (s.mgmt.buffer.length < 256) ∧ ∃ g, (s.heldEvent n = some g) ∧ (g.sampled = false) ∧ (g.info.forced = false) ∧
    let r := s.srcr n FAULT.SRC.REACT
    (r = 0)) ∧
  (
    ∃ s : State, ∃ i : Fin 512, let n := i.val
    (s.collectorOn = true) ∧ (srcImpl n = true) ∧ (s.srcFlag n FAULT.SRC.INTEGRITY = false) ∧
    (s.mgmt.buffer.length < 256) ∧ ∃ g, (s.heldEvent n = some g) ∧ (g.sampled = false) ∧ (g.info.forced = false) ∧
    let r := s.srcr n FAULT.SRC.REACT
    (r = actInt) ∧ (s.rung = rungNoon) ∧ (s.rungPhase = rpSteady)) ∧
  (
    ∃ s : State, ∃ i : Fin 512, let n := i.val
    (s.collectorOn = true) ∧ (srcImpl n = true) ∧ (s.srcFlag n FAULT.SRC.INTEGRITY = false) ∧
    (s.mgmt.buffer.length < 256) ∧ ∃ g, (s.heldEvent n = some g) ∧ (g.sampled = false) ∧ (g.info.forced = false) ∧
    let r := s.srcr n FAULT.SRC.REACT
    (r = actErrPin) ∧ (s.rung = rungNoon) ∧ (s.rungPhase = rpSteady) ∧ (s.flag base.fault FAULT.ERRN.ALERT_EN = false)) ∧
  (
    ∃ s : State, ∃ i : Fin 512, let n := i.val
    (s.collectorOn = true) ∧ (srcImpl n = true) ∧ (s.srcFlag n FAULT.SRC.INTEGRITY = false) ∧
    (s.mgmt.buffer.length < 256) ∧ ∃ g, (s.heldEvent n = some g) ∧ (g.sampled = false) ∧ (g.info.forced = false) ∧
    let r := s.srcr n FAULT.SRC.REACT
    (r = actChipReset) ∧ (s.rung = rungNoon) ∧ (s.rungPhase = rpSteady)) ∧
  (
    ∃ s : State, ∃ i : Fin 512, let n := i.val
    (s.collectorOn = true) ∧ (srcImpl n = true) ∧ (s.srcFlag n FAULT.SRC.INTEGRITY = false)) ∧
  (
    ∃ s : State, ∃ i : Fin 512, let n := i.val
    (s.collectorOn = true) ∧ (srcImpl n = true) ∧ (s.srcFlag n FAULT.SRC.INTEGRITY = false) ∧ (s.heldEvent n = none)) ∧
  (
    ∃ s : State, ∃ i : Fin 512, let n := i.val
    (s.srcFlag n FAULT.SRC.INTEGRITY = true) ∧ (srcImpl n = true) ∧ (s.collectorOn = true)) := ⟨
    ⟨511, (by decide +kernel)⟩,
    ⟨st w129, 4, (by decide +kernel), (by decide +kernel), (by decide +kernel), (by decide +kernel), ⟨4, ⟨false, true,
    none, (0 : BitVec 4), (0 : BitVec 16)⟩, false, false⟩, (by decide +kernel), (by decide +kernel),
    (by decide +kernel), (by decide +kernel)⟩,
    ⟨st w128, 1, (by decide +kernel), (by decide +kernel), (by decide +kernel), (by decide +kernel), ⟨1, ⟨false, true,
    none, (0 : BitVec 4), (0 : BitVec 16)⟩, false, false⟩, (by decide +kernel), (by decide +kernel),
    (by decide +kernel), (by decide +kernel), (by decide +kernel), (by decide +kernel)⟩,
    ⟨st w130, 4, (by decide +kernel), (by decide +kernel), (by decide +kernel), (by decide +kernel), ⟨4, ⟨false, true,
    none, (0 : BitVec 4), (0 : BitVec 16)⟩, false, false⟩, (by decide +kernel), (by decide +kernel),
    (by decide +kernel), (by decide +kernel), (by decide +kernel), (by decide +kernel), (by decide +kernel)⟩,
    ⟨st w131, 4, (by decide +kernel), (by decide +kernel), (by decide +kernel), (by decide +kernel), ⟨4, ⟨false, true,
    none, (0 : BitVec 4), (0 : BitVec 16)⟩, false, false⟩, (by decide +kernel), (by decide +kernel),
    (by decide +kernel), (by decide +kernel), (by decide +kernel), (by decide +kernel)⟩,
    ⟨st w128, 0, (by decide +kernel), (by decide +kernel), (by decide +kernel)⟩,
    ⟨st w128, 0, (by decide +kernel), (by decide +kernel), (by decide +kernel), (by decide +kernel)⟩,
    ⟨st w132, 4, (by decide +kernel), (by decide +kernel), (by decide +kernel)⟩⟩

/-- The hypotheses of Obligations.Faults (Fault collection and reaction) are met, clause by clause, clauses 9 to 16. -/
theorem witness_Faults_2 :
  (
    ∃ s : State, ∃ i : Fin 512, let n := i.val
    (s.heldEvent n = none)) ∧
  (
    ∃ s : State, ∃ i : Fin 512, let n := i.val
    ∃ g, (s.heldEvent n = some g) ∧ (g.info.forced = true) ∧ (g.sampled = true) ∧
    ((g.info.real = false ∨ g.escalated = true))) ∧
  (
    ∃ s : State, ∃ i : Fin 512, let n := i.val
    ∃ g, (s.heldEvent n = some g) ∧ (g.info.forced = true) ∧ (g.escalated = false) ∧ (g.sampled = false)) ∧
  (
    ∃ s : State, ∃ i : Fin 512, let n := i.val
    ∃ g, (s.heldEvent n = some g) ∧ (g.info.forced = true) ∧ (g.escalated = false) ∧ (g.sampled = true) ∧
    (s.srcFlag n FAULT.SRC.FTEST = false)) ∧
  (
    ∃ s : State, ∃ m : Master, ∃ v : Word,
    (s.ownerBars m base.fault = true ∨ v.toNat % 256 ≠ s.rd base.fault FAULT.CAP0.SEQ)) ∧
  (
    ∃ s : State, ∃ m : Master, ∃ v : Word, (s.ownerBars m base.fault = false) ∧
    (v.toNat % 256 = s.rd base.fault FAULT.CAP0.SEQ)) ∧
  (
    ∃ s : State, (s.coll.alertLast = none)) ∧
  (
    ∃ s : State, ∃ g, (s.coll.alertLast = some g) ∧ (s.flag base.fault FAULT.ERRN.ALERT_EN = true) ∧
    (s.coll.alertGap = true)) := ⟨
    ⟨st w128, 0, (by decide +kernel)⟩,
    ⟨st w133, 4, ⟨4, ⟨true, false, none, (0 : BitVec 4), (0 : BitVec 16)⟩, true, false⟩, (by decide +kernel),
    (by decide +kernel), (by decide +kernel), (by decide +kernel)⟩,
    ⟨st w134, 4, ⟨4, ⟨true, false, none, (0 : BitVec 4), (0 : BitVec 16)⟩, false, false⟩, (by decide +kernel),
    (by decide +kernel), (by decide +kernel), (by decide +kernel)⟩,
    ⟨st w133, 4, ⟨4, ⟨true, false, none, (0 : BitVec 4), (0 : BitVec 16)⟩, true, false⟩, (by decide +kernel),
    (by decide +kernel), (by decide +kernel), (by decide +kernel), (by decide +kernel)⟩,
    ⟨st w128, Master.core, 1, (by decide +kernel)⟩,
    ⟨st w128, Master.core, 0, (by decide +kernel), (by decide +kernel)⟩,
    ⟨st w128, (by decide +kernel)⟩,
    ⟨st w135, ⟨4, ⟨false, true, none, (0 : BitVec 4), (0 : BitVec 16)⟩, false, false⟩, (by decide +kernel),
    (by decide +kernel), (by decide +kernel)⟩⟩

/-- The hypotheses of Obligations.RegisterAccess (Register accesses over the four masters' paths) are met, clause by clause. -/
theorem witness_RegisterAccess :
  (
    ∃ s : State, (s.mgmt.late = []) ∧ ((∀ m, s.ownerBars m base.chipId = false)) ∧ (s.shut = false) ∧
    (s.unclocked = false)) ∧
  (
    ∃ s : State, (s.mgmt.late = []) ∧ ((∀ m, s.ownerBars m base.chipId = false)) ∧ (s.shut = false) ∧
    (s.unclocked = false) ∧ (s.rd base.fault FAULT.CONFLICT.WINNER = 0)) := ⟨
    ⟨st up, (by decide +kernel), (fun _ => bars_none (by decide +kernel)), (by decide +kernel), (by decide +kernel)⟩,
    ⟨st up, (by decide +kernel), (fun _ => bars_none (by decide +kernel)), (by decide +kernel), (by decide +kernel),
    (by decide +kernel)⟩⟩

/-- The hypotheses of Obligations.Mailbox (The mailboxes) are met, clause by clause. -/
theorem witness_Mailbox :
  (
    ∃ s : State, ∃ m : Master, ∃ blk : BitVec 24, ∃ t : Site, ∃ mb : Nat, ((∀ node, m ≠ .mgt node)) ∧
    (s.mgmt.late = []) ∧ (siteOf blk.toNat = some t) ∧ (t.blk.mb = some mb) ∧ (s.wakeFor t.domain = s.toDev) ∧
    (s.ownerBars m t.base = false) ∧ ((∀ k w, s.barred m ⟨t.blk, t.base, mb + 4 * k⟩ w = false)) ∧
    let x := s.mailbox t.base
    ∃ v : BitVec 32, ∃ n, ∃ rw, (x.owner = none) ∧ (v.getLsbD 17 = false) ∧ (v.extractLsb' 0 16 ≠ 0) ∧
    (wideOfSel t.blk (v.extractLsb' 0 16).toNat = some (n, rw))) ∧
  (
    ∃ s : State, ∃ m : Master, ∃ blk : BitVec 24, ∃ t : Site, ∃ mb : Nat, ((∀ node, m ≠ .mgt node)) ∧
    (s.mgmt.late = []) ∧ (siteOf blk.toNat = some t) ∧ (t.blk.mb = some mb) ∧ (s.wakeFor t.domain = s.toDev) ∧
    (s.ownerBars m t.base = false) ∧ ((∀ k w, s.barred m ⟨t.blk, t.base, mb + 4 * k⟩ w = false)) ∧
    let x := s.mailbox t.base
    (x.owner = some m) ∧ (x.valid = true) ∧ (x.dir = true) ∧ ∃ n, ∃ rw, (wideOfSel t.blk x.selector.toNat = some (n,
    rw))) ∧
  (
    ∃ s : State, ∃ m : Master, ∃ blk : BitVec 24, ∃ t : Site, ∃ mb : Nat, ((∀ node, m ≠ .mgt node)) ∧
    (s.mgmt.late = []) ∧ (siteOf blk.toNat = some t) ∧ (t.blk.mb = some mb) ∧ (s.wakeFor t.domain = s.toDev) ∧
    (s.ownerBars m t.base = false) ∧ ((∀ k w, s.barred m ⟨t.blk, t.base, mb + 4 * k⟩ w = false)) ∧
    let x := s.mailbox t.base
    (x.owner = some m) ∧ (x.dir = true) ∧ (x.err = false) ∧ (t.blk ≠ .perf) ∧ (t.blk ≠ .pc) ∧ ∃ n,
    (wideOfSel t.blk x.selector.toNat = some (n, true))) ∧
  (
    ∃ s : State, ∃ m : Master, ∃ blk : BitVec 24, ∃ t : Site, ∃ mb : Nat, ((∀ node, m ≠ .mgt node)) ∧
    (s.mgmt.late = []) ∧ (siteOf blk.toNat = some t) ∧ (t.blk.mb = some mb) ∧ (s.wakeFor t.domain = s.toDev) ∧
    (s.ownerBars m t.base = false) ∧ ((∀ k w, s.barred m ⟨t.blk, t.base, mb + 4 * k⟩ w = false)) ∧
    let x := s.mailbox t.base
    (x.owner = some m)) ∧
  (
    ∃ s : State, ∃ m : Master, ∃ blk : BitVec 24, ∃ t : Site, ∃ mb : Nat, ((∀ node, m ≠ .mgt node)) ∧
    (s.mgmt.late = []) ∧ (siteOf blk.toNat = some t) ∧ (t.blk.mb = some mb) ∧ (s.wakeFor t.domain = s.toDev) ∧
    (s.ownerBars m t.base = false) ∧ ((∀ k w, s.barred m ⟨t.blk, t.base, mb + 4 * k⟩ w = false))) := ⟨
    ⟨st up, Master.core, (0xB00000 : BitVec 24), ⟨Blk.otp, 11534336, 0⟩, 240, (by intro _ h; cases h),
    (by decide +kernel), (by decide +kernel), (by decide +kernel), (by decide +kernel), (by decide +kernel),
    (fun _ _ => barred_free (by decide +kernel) (by decide +kernel) (by decide +kernel)), (1 : BitVec 32), 64, true,
    (by decide +kernel), (by decide +kernel), (by decide +kernel), (by decide +kernel)⟩,
    ⟨st w136, Master.core, (0xB00000 : BitVec 24), ⟨Blk.otp, 11534336, 0⟩, 240, (by intro _ h; cases h),
    (by decide +kernel), (by decide +kernel), (by decide +kernel), (by decide +kernel), (by decide +kernel),
    (fun _ _ => barred_free (by decide +kernel) (by decide +kernel) (by decide +kernel)), (by decide +kernel),
    (by decide +kernel), (by decide +kernel), 64, true, (by decide +kernel)⟩,
    ⟨st w136, Master.core, (0xB00000 : BitVec 24), ⟨Blk.otp, 11534336, 0⟩, 240, (by intro _ h; cases h),
    (by decide +kernel), (by decide +kernel), (by decide +kernel), (by decide +kernel), (by decide +kernel),
    (fun _ _ => barred_free (by decide +kernel) (by decide +kernel) (by decide +kernel)), (by decide +kernel),
    (by decide +kernel), (by decide +kernel), (by decide +kernel), (by decide +kernel), 64, (by decide +kernel)⟩,
    ⟨st w137, Master.core, (0xB00000 : BitVec 24), ⟨Blk.otp, 11534336, 0⟩, 240, (by intro _ h; cases h),
    (by decide +kernel), (by decide +kernel), (by decide +kernel), (by decide +kernel), (by decide +kernel),
    (fun _ _ => barred_free (by decide +kernel) (by decide +kernel) (by decide +kernel)), (by decide +kernel)⟩,
    ⟨st up, Master.core, (0xB00000 : BitVec 24), ⟨Blk.otp, 11534336, 0⟩, 240, (by intro _ h; cases h),
    (by decide +kernel), (by decide +kernel), (by decide +kernel), (by decide +kernel), (by decide +kernel),
    (fun _ _ => barred_free (by decide +kernel) (by decide +kernel) (by decide +kernel))⟩⟩

/-- The hypotheses of Obligations.StatusAndCrossing (Write-backs to status registers and crossings that time out) are met, clause by clause. -/
theorem witness_StatusAndCrossing :
  (
    ∃ s : State, (s.mgmt.late = []) ∧ (s.shut = false) ∧ (s.unclocked = false) ∧ ((∀ b, s.ownerBars .core b = false))) ∧
  (
    ∃ s : State, ∃ addr : BitVec 24, ∃ w : Option Word, ∃ t : Site,
    (s.admitted .core none addr.toNat w.isSome = (stOk, some t))) := ⟨
    ⟨st up, (by decide +kernel), (by decide +kernel), (by decide +kernel), (fun _ => bars_nobody (by decide +kernel))⟩,
    ⟨st up, (8 : BitVec 24), none, ⟨Blk.chipId, 0, 8⟩, (by decide +kernel)⟩⟩

/-- The hypotheses of Obligations.Jtag (JTAG instructions) are met, clause by clause. -/
theorem witness_Jtag :
  (
    ∃ s : State, (s.power.crownOn = true)) ∧
  (
    ∃ s : State, (s.held = true)) := ⟨
    ⟨st up, (by decide +kernel)⟩,
    ⟨st w138, (by decide +kernel)⟩⟩

/-- The hypotheses of Obligations.I3cTarget (The I3C target's common command codes) are met, clause by clause. -/
theorem witness_I3cTarget :
  (
    ∃ s : State, (s.rd base.i3c I3C.STATUS.DA = 0)) ∧
  (
    ∃ s : State, ((∀ x ∈ s.mgmt.ibis, 1 ≤ x.1 ∧ x.1 ≤ 5)) ∧ ∃ ev : BitVec 8, (ev.getLsbD 0 = true)) := ⟨
    ⟨st Dev.reset, (by decide +kernel)⟩,
    ⟨st Dev.reset, (by decide +kernel), (1 : BitVec 8), (by decide +kernel)⟩⟩

/-- The hypotheses of Obligations.I3cRetry (Retry of in-band interrupts) are met, clause by clause. -/
theorem witness_I3cRetry :
  (
    ∃ s : State, ((∀ x ∈ s.mgmt.ibis, 1 ≤ x.1 ∧ x.1 ≤ 5)) ∧ (s.rd base.i3c I3C.STATUS.IBI_EN = 0)) ∧
  (
    ∃ s : State, ((∀ x ∈ s.mgmt.ibis, 1 ≤ x.1 ∧ x.1 ≤ 5)) ∧ (s.rd base.i3c I3C.STATUS.IBI_EN = 1) ∧ (s.mgmt.ibis ≠ [])) := ⟨
    ⟨st Dev.reset, (by decide +kernel), (by decide +kernel)⟩,
    ⟨st w139, (by decide +kernel), (by decide +kernel), (by decide +kernel)⟩⟩

/-- The hypotheses of Obligations.CoreRestarts (Watchdog and restarts of the management core) are met, clause by clause. -/
theorem witness_CoreRestarts :
  (
    ∃ s : State, (s.mgmt.wdtRuns = true) ∧ (s.batt.held = none) ∧
    let earlier := (s.mgmt.wdtTimes.filter (fun t => s.now < t + 60000000000)).length
    (earlier < 2)) ∧
  (
    ∃ s : State, (s.mgmt.wdtRuns = true) ∧ (s.batt.held = none) ∧
    let earlier := (s.mgmt.wdtTimes.filter (fun t => s.now < t + 60000000000)).length
    (2 ≤ earlier)) ∧
  (
    ∃ v, (v ≠ 0xC3)) ∧
  (
    ∃ s : State, (s.coreState = coreBoot) ∧ (s.rd base.core CORE.STATUS.EVENT ≠ 7) ∧ (s.dawnDone 1 = true) ∧
    (s.batt.held = none)) := ⟨
    ⟨st w140, (by decide +kernel), (by decide +kernel), (by decide +kernel)⟩,
    ⟨st w141, (by decide +kernel), (by decide +kernel), (by decide +kernel)⟩,
    ⟨0, (by decide +kernel)⟩,
    ⟨st up, (by decide +kernel), (by decide +kernel), (by decide +kernel), (by decide +kernel)⟩⟩

/-- The hypotheses of Obligations.Firmware (Firmware update, handover and confirmation) are met, clause by clause, clauses 1 to 8. -/
theorem witness_Firmware :
  (
    ∃ s : State, ∃ m : Master, (s.ownerBars m base.fwup = true)) ∧
  (
    ∃ s : State, ∃ m : Master, (s.ownerBars m base.fwup = false) ∧ (s.mgmt.fwOp = none) ∧ (s.mgmt.norUsable = true)) ∧
  (
    ∃ s : State, ∃ m : Master, (s.ownerBars m base.fwup = false) ∧ (s.mgmt.fwOp = none) ∧ (s.mgmt.norUsable = false)) ∧
  (
    ∃ s : State, ∃ m : Master, (s.ownerBars m base.fwup = false) ∧ (s.mgmt.fwOp = none)) ∧
  (
    ∃ s : State, ∃ m : Master, (s.ownerBars m base.fwup = false) ∧ (s.mgmt.fwOp = none) ∧ (s.fwTrialBy m = true)) ∧
  (
    ∃ s : State, ∃ m : Master, (s.ownerBars m base.fwup = false) ∧ (s.mgmt.fwOp = none) ∧ (s.fwTrialBy m = false)) ∧
  (
    ∃ s : State, ∃ m : Master, (s.ownerBars m base.fwup = false) ∧ (s.mgmt.fwOp ≠ none)) ∧
  (
    ∃ s : State, ∃ m : Master, (s.ownerBars m base.fwup = false) ∧ (s.mgmt.progBuf.length < 1024)) := ⟨
    ⟨st w142, Master.i3c, (by decide +kernel)⟩,
    ⟨st up, Master.core, (by decide +kernel), (by decide +kernel), (by decide +kernel)⟩,
    ⟨st w143, Master.core, (by decide +kernel), (by decide +kernel), (by decide +kernel)⟩,
    ⟨st up, Master.core, (by decide +kernel), (by decide +kernel)⟩,
    ⟨st w144, Master.core, (by decide +kernel), (by decide +kernel), (by decide +kernel)⟩,
    ⟨st up, Master.core, (by decide +kernel), (by decide +kernel), (by decide +kernel)⟩,
    ⟨st w145, Master.core, (by decide +kernel), (by decide +kernel)⟩,
    ⟨st up, Master.core, (by decide +kernel), (by decide +kernel)⟩⟩

/-- The hypotheses of Obligations.Firmware (Firmware update, handover and confirmation) are met, clause by clause, clauses 9 to 16. -/
theorem witness_Firmware_2 :
  (
    ∃ s : State, ∃ m : Master, (s.ownerBars m base.fwup = false) ∧ (1024 ≤ s.mgmt.progBuf.length)) ∧
  (
    ∃ s : State, ∃ op : Nat, ∃ slot : Nat, (s.mgmt.progBuf = []) ∧ (s.mgmt.fwOp = some (op, slot)) ∧
    (s.mgmt.fwHeld = none) ∧ (slot < 2)) ∧
  (
    ∃ s : State, ∃ op : Nat, ∃ slot : Nat, (s.mgmt.progBuf = []) ∧ (s.mgmt.fwOp = some (op, slot)) ∧
    (s.mgmt.fwHeld = none) ∧ (slot < 2) ∧ (op = 1)) ∧
  (
    ∃ s : State, ∃ op : Nat, ∃ slot : Nat, (s.mgmt.progBuf = []) ∧ (s.mgmt.fwOp = some (op, slot)) ∧
    (s.mgmt.fwHeld = none) ∧ (slot < 2) ∧ (op = 2)) ∧
  (
    ∃ s : State, ∃ op : Nat, ∃ slot : Nat, (s.mgmt.progBuf = []) ∧ (s.mgmt.fwOp = some (op, slot)) ∧
    (s.mgmt.fwHeld = none) ∧ (slot < 2) ∧ (op = 3)) ∧
  (
    ∃ s : State, ∃ op : Nat, ∃ slot : Nat, (s.mgmt.progBuf = []) ∧ (s.mgmt.fwOp = some (op, slot)) ∧
    (s.mgmt.fwHeld = none) ∧ (slot < 2) ∧ (op = 3) ∧ ((s.otp.lifecycle ≠ 2 ∧
    s.otp.lifecycle ≠ 3) ∨ min (fieldAt (s.fwBytes slot) 0x10 1) 64 ≤ s.otp.rollback)) ∧
  (
    ∃ s : State, ∃ op : Nat, ∃ slot : Nat, (s.mgmt.progBuf = []) ∧ (s.mgmt.fwOp = some (op, slot)) ∧
    (s.mgmt.fwHeld = none) ∧ (slot < 2) ∧ (op = 4)) ∧
  (
    ∃ s : State, (s.coreState ≠ coreBoot ∨ s.rd base.core CORE.STATUS.EVENT = 7 ∨ s.dawnDone 1 = false)) := ⟨
    ⟨st w146, Master.core, (by decide +kernel), (by decide +kernel)⟩,
    ⟨st w145, 1, 1, (by decide +kernel), (by decide +kernel), (by decide +kernel), (by decide +kernel)⟩,
    ⟨st w145, 1, 1, (by decide +kernel), (by decide +kernel), (by decide +kernel), (by decide +kernel),
    (by decide +kernel)⟩,
    ⟨st w147, 2, 1, (by decide +kernel), (by decide +kernel), (by decide +kernel), (by decide +kernel),
    (by decide +kernel)⟩,
    ⟨st w148, 3, 1, (by decide +kernel), (by decide +kernel), (by decide +kernel), (by decide +kernel),
    (by decide +kernel)⟩,
    ⟨st w149, 3, 1, (by decide +kernel), (by decide +kernel), (by decide +kernel), (by decide +kernel),
    (by decide +kernel), (by decide +kernel)⟩,
    ⟨st w150, 4, 1, (by decide +kernel), (by decide +kernel), (by decide +kernel), (by decide +kernel),
    (by decide +kernel)⟩,
    ⟨st w144, (by decide +kernel)⟩⟩

/-- The hypotheses of Obligations.Firmware (Firmware update, handover and confirmation) are met, clause by clause, clause 17. -/
theorem witness_Firmware_3 :
    ∃ s : State, (s.coreState = coreBoot) ∧ (s.rd base.core CORE.STATUS.EVENT ≠ 7) ∧ (s.dawnDone 1 = true) := 
    ⟨st up, (by decide +kernel), (by decide +kernel), (by decide +kernel)⟩

/-- The hypotheses of Obligations.LifecycleTransition (Lifecycle transitions) are met, clause by clause. -/
theorem witness_LifecycleTransition :
  (
    ∃ s : State, ∃ m : Master, (s.ownerBars m base.lc = false) ∧ (lcMaster m s.otp.lifecycle = false)) ∧
  (
    ∃ s : State, ∃ m : Master, (s.ownerBars m base.lc = false) ∧
    let busy := s.dawnRuns || s.pfPhase != pfIdle || s.restoreRuns || s.preserving || s.otp.pendingLc.isSome
    (lcMaster m s.otp.lifecycle = true) ∧ (busy = true)) ∧
  (
    ∃ s : State, ∃ m : Master, (s.ownerBars m base.lc = false) ∧
    let busy := s.dawnRuns || s.pfPhase != pfIdle || s.restoreRuns || s.preserving || s.otp.pendingLc.isSome
    (lcMaster m s.otp.lifecycle = true) ∧ (busy = false) ∧ (s.lcCond s.otp.lifecycle = false)) ∧
  (
    ∃ s : State, ∃ m : Master, (s.ownerBars m base.lc = false) ∧
    let busy := s.dawnRuns || s.pfPhase != pfIdle || s.restoreRuns || s.preserving || s.otp.pendingLc.isSome
    (lcMaster m s.otp.lifecycle = true) ∧ (busy = false) ∧ (s.lcCond s.otp.lifecycle = true)) := ⟨
    ⟨st w151, Master.core, (by decide +kernel), (by decide +kernel)⟩,
    ⟨st Dev.reset, Master.jtag, (by decide +kernel), (by decide +kernel), (by decide +kernel)⟩,
    ⟨st w152, Master.core, (by decide +kernel), (by decide +kernel), (by decide +kernel), (by decide +kernel)⟩,
    ⟨st w151, Master.jtag, (by decide +kernel), (by decide +kernel), (by decide +kernel), (by decide +kernel)⟩⟩

/-- The hypotheses of Obligations.SelfTest (Interconnect pass, analogue BIST and scan entry) are met, clause by clause, clauses 1 to 8. -/
theorem witness_SelfTest :
  (
    ∃ s : State, (s.icStart = none) ∧ (s.rung = rungNoon) ∧ (s.dawnPhase = dawnReady) ∧ (s.pfPhase = pfIdle)) ∧
  (
    ∃ s : State, (s.icStart = none) ∧ (s.rung = rungNoon) ∧ (s.dawnPhase = dawnReady) ∧ (s.pfPhase = pfIdle) ∧
    (s.rd base.bist BIST.CFG.IC_EN = 1)) ∧
  (
    ∃ s : State, (s.icStart = none) ∧ (s.rung = rungNoon) ∧ (s.dawnPhase = dawnReady) ∧ (s.pfPhase = pfIdle) ∧ ∃ cond,
    (condOk cond = false)) ∧
  (
    ∃ s : State, ∃ start, (s.icStart = some start) ∧ (s.bistWait = none)) ∧
  (
    ∃ s : State, ∃ start, (s.icStart = some start) ∧ (s.bist = none) ∧ (s.bistWait = none) ∧ ∃ cond,
    (condOk cond = false)) ∧
  (
    ∃ s : State, ∃ cond, (condOk cond = true) ∧ (s.bistWait = none)) ∧
  (
    ∃ s : State, (s.analogAllowed = true) ∧ (s.rd base.fcore FULLER.STATUS.BP = 0)) ∧
  (
    ∃ s : State, (s.batt.held = none) ∧ (s.scanOk = false)) := ⟨
    ⟨st up, (by decide +kernel), (by decide +kernel), (by decide +kernel), (by decide +kernel)⟩,
    ⟨st up, (by decide +kernel), (by decide +kernel), (by decide +kernel), (by decide +kernel), (by decide +kernel)⟩,
    ⟨st up, (by decide +kernel), (by decide +kernel), (by decide +kernel), (by decide +kernel), ⟨true, false⟩,
    (by decide +kernel)⟩,
    ⟨st w153, 5, (by decide +kernel), (by decide +kernel)⟩,
    ⟨st w153, 5, (by decide +kernel), (by decide +kernel), (by decide +kernel), ⟨true, false⟩, (by decide +kernel)⟩,
    ⟨st Dev.reset, ⟨true, true⟩, (by decide +kernel), (by decide +kernel)⟩,
    ⟨st w154, (by decide +kernel), (by decide +kernel)⟩,
    ⟨st up, (by decide +kernel), (by decide +kernel)⟩⟩

/-- The hypotheses of Obligations.SelfTest (Interconnect pass, analogue BIST and scan entry) are met, clause by clause, clause 9. -/
theorem witness_SelfTest_2 :
    ∃ s : State, (s.batt.held = none) ∧ (s.scanOk = true) := 
    ⟨st Dev.reset, (by decide +kernel), (by decide +kernel)⟩

/-- The hypotheses of Obligations.ArrayBist (Array BIST) are met, clause by clause, clauses 1 to 8. -/
theorem witness_ArrayBist :
  (
    ∃ s : State, let p := s.rd base.bist BIST.CMD.PC
    (s.bist = none) ∧ (s.rd base.bist BIST.CMD.PRESERVE = 0) ∧ (s.pcState p = pcOut) ∧ ((s.pc p).training = none)) ∧
  (
    ∃ s : State, let p := s.rd base.bist BIST.CMD.PC
    (s.bist = none) ∧ (s.rd base.bist BIST.CMD.PRESERVE = 1) ∧ (s.pcState p = pcServing) ∧ (s.rung = rungNoon) ∧
    (s.arrayBusy = false)) ∧
  (
    ∃ s : State, let p := s.rd base.bist BIST.CMD.PC
    ∃ cond, (condOk cond = false) ∧ (s.bist = none) ∧ (s.rd base.bist BIST.CMD.PRESERVE = 0) ∧ (s.pcState p = pcOut) ∧
    ((s.pc p).training = none)) ∧
  (
    ∃ s : State, ∃ r, (s.bist = some r)) ∧
  (
    ∃ s : State, (s.bistWait = none) ∧ (s.bist = none)) ∧
  (
    ∃ s : State, (s.bistWait = none) ∧ ∃ r, (s.bist = some r) ∧ (r.pc < 128) ∧ (r.step = 1) ∧ (s.pcState r.pc = pcOut)) ∧
  (
    ∃ s : State, (s.bistWait = none) ∧ ∃ r, (s.bist = some r) ∧ (r.pc < 128) ∧ (r.step = 1) ∧ (s.pcState r.pc ≠ pcOut)) ∧
  (
    ∃ s : State, (s.bistWait = none) ∧ ∃ r, (s.bist = some r) ∧ (r.pc < 128) ∧ (r.step = 2)) := ⟨
    ⟨st w155, (by decide +kernel), (by decide +kernel), (by decide +kernel), (by decide +kernel)⟩,
    ⟨st w156, (by decide +kernel), (by decide +kernel), (by decide +kernel), (by decide +kernel), (by decide +kernel)⟩,
    ⟨st w155, ⟨true, false⟩, (by decide +kernel), (by decide +kernel), (by decide +kernel), (by decide +kernel),
    (by decide +kernel)⟩,
    ⟨st w157, ⟨true, 7, true, true, 1, false, false, false, 0⟩, (by decide +kernel)⟩,
    ⟨st Dev.reset, (by decide +kernel), (by decide +kernel)⟩,
    ⟨st w157, (by decide +kernel), ⟨true, 7, true, true, 1, false, false, false, 0⟩, (by decide +kernel),
    (by decide +kernel), (by decide +kernel), (by decide +kernel)⟩,
    ⟨st w158, (by decide +kernel), ⟨true, 0, true, true, 1, false, false, false, 0⟩, (by decide +kernel),
    (by decide +kernel), (by decide +kernel), (by decide +kernel)⟩,
    ⟨st w159, (by decide +kernel), ⟨true, 7, true, true, 2, false, false, false, 0⟩, (by decide +kernel),
    (by decide +kernel), (by decide +kernel)⟩⟩

/-- The hypotheses of Obligations.ArrayBist (Array BIST) are met, clause by clause, clauses 9 to 12. -/
theorem witness_ArrayBist_2 :
  (
    ∃ s : State, (s.bistWait = none) ∧ ∃ r, (s.bist = some r) ∧ (r.pc < 128) ∧ (r.step = 3)) ∧
  (
    ∃ s : State, (s.bistWait = none) ∧ ∃ r, (s.bist = some r) ∧ (r.pc < 128) ∧ (r.step = 4)) ∧
  (
    ∃ s : State, ∃ r, (s.bist = some r) ∧ (r.step = 2 ∨ r.step = 3)) ∧
  (
    ∃ s : State, (s.bist = none)) := ⟨
    ⟨st w160, (by decide +kernel), ⟨true, 7, true, true, 3, false, false, false, 0⟩, (by decide +kernel),
    (by decide +kernel), (by decide +kernel)⟩,
    ⟨st w161, (by decide +kernel), ⟨true, 7, true, true, 4, false, false, false, 0⟩, (by decide +kernel),
    (by decide +kernel), (by decide +kernel)⟩,
    ⟨st w160, ⟨true, 7, true, true, 3, false, false, false, 0⟩, (by decide +kernel), (by decide +kernel)⟩,
    ⟨st Dev.reset, (by decide +kernel)⟩⟩

/-- The hypotheses of Obligations.OtpCommands (OTP commands) are met, clause by clause, clauses 1 to 8. -/
theorem witness_OtpCommands :
  (
    ∃ s : State, ∃ m : Master, (s.ownerBars m base.otp = false) ∧ (s.otp.held = false) ∧ (inRootKey s.otpAddr = false)) ∧
  (
    ∃ s : State, ∃ m : Master, (s.ownerBars m base.otp = false) ∧ (s.otp.held = false) ∧ (inRootKey s.otpAddr = true)) ∧
  (
    ∃ s : State, ∃ m : Master, (s.ownerBars m base.otp = false) ∧ (s.otp.held = false)) ∧
  (
    ∃ s : State, ∃ m : Master, ∃ i : Nat, ∃ tw : Bool, ∃ r : OtpRegion, (s.ownerBars m base.otp = false) ∧
    (s.otp.held = false) ∧ (otpSite s.otpAddr = some (i, tw, r)) ∧ (s.otp.lifecycle ≠ 5) ∧
    (r.states.contains s.otp.lifecycle = true) ∧ (s.otpSealed r = false) ∧
    (s.otpCell s.otpAddr &&& ~~~ otpWord s.otpAddr (BitVec.ofNat 64 (s.wideOf base.otp 1)) = 0)) ∧
  (
    ∃ s : State, ∃ m : Master, ∃ i : Nat, ∃ tw : Bool, ∃ r : OtpRegion, (s.ownerBars m base.otp = false) ∧
    (s.otp.held = false) ∧ (otpSite s.otpAddr = some (i, tw, r)) ∧ (s.otp.lifecycle ≠ 5) ∧
    (r.states.contains s.otp.lifecycle = true) ∧ (s.otpSealed r = false) ∧
    (s.otpCell s.otpAddr &&& ~~~ otpWord s.otpAddr (BitVec.ofNat 64 (s.wideOf base.otp 1)) ≠ 0)) ∧
  (
    ∃ s : State, ∃ m : Master, ∃ i : Nat, ∃ tw : Bool, ∃ r : OtpRegion, (s.ownerBars m base.otp = false) ∧
    (s.otp.held = false) ∧ (otpSite s.otpAddr = some (i, tw, r)) ∧ (s.otp.lifecycle ≠ 5) ∧
    (r.states.contains s.otp.lifecycle = true) ∧ (s.otpSealed r = false) ∧ (s.otpAddr = r.first) ∧
    (r.sealedWords.any s.otpUe = false)) ∧
  (
    ∃ s : State, ∃ m : Master, (s.ownerBars m base.otp = false) ∧ (s.otp.held = false) ∧ (s.otp.lifecycle ≠ 5)) ∧
  (
    ∃ s : State, ∃ m : Master, (s.ownerBars m base.otp = false) ∧ (s.otp.held = false) ∧ (s.otp.lifecycle ≠ 5) ∧ ∃ i,
    (3 ≤ s.otpAddr / 16) ∧ (i < 32) ∧ (s.otpArray (0x010 + i) = 0) ∧ ((∀ j, j < i → s.otpArray (0x010 + j) ≠ 0)) ∧
    ((∀ k, k < 16 → s.otp.spares.get (fun _ => 0) (16 * i + k) = 0))) := ⟨
    ⟨st Dev.reset, Master.core, (by decide +kernel), (by decide +kernel), (by decide +kernel)⟩,
    ⟨st w162, Master.core, (by decide +kernel), (by decide +kernel), (by decide +kernel)⟩,
    ⟨st Dev.reset, Master.core, (by decide +kernel), (by decide +kernel)⟩,
    ⟨st ((up.setReg 0xB00000 0x2010)), Master.core, 8, false, ⟨512, 16, 528, 529, [1, 2, 3]⟩, (by decide +kernel),
    (by decide +kernel), (by decide +kernel), (by decide +kernel), (by decide +kernel), (by decide +kernel),
    (by decide +kernel)⟩,
    ⟨st ({ (up.setReg 0xB00000 0x2010) with otp := { up.otp with words := [(513, 5)] } }), Master.core, 8, false,
    ⟨512, 16, 528, 529, [1, 2, 3]⟩, (by decide +kernel), (by decide +kernel), (by decide +kernel),
    (by decide +kernel), (by decide +kernel), (by decide +kernel), (by decide +kernel)⟩,
    ⟨st ((up.setReg 0xB00000 0x2000)), Master.core, 8, false, ⟨512, 16, 528, 529, [1, 2, 3]⟩, (by decide +kernel),
    (by decide +kernel), (by decide +kernel), (by decide +kernel), (by decide +kernel), (by decide +kernel),
    (by decide +kernel), (by decide +kernel)⟩,
    ⟨st Dev.reset, Master.core, (by decide +kernel), (by decide +kernel), (by decide +kernel)⟩,
    ⟨st w164, Master.core, (by decide +kernel), (by decide +kernel), (by decide +kernel), 0, (by decide +kernel),
    (by decide +kernel), (by decide +kernel), (by decide +kernel), (by decide +kernel)⟩⟩

/-- The hypotheses of Obligations.OtpCommands (OTP commands) are met, clause by clause, clause 9. -/
theorem witness_OtpCommands_2 :
    ∃ s : State, ∃ m : Master, (s.ownerBars m base.otp = false) ∧ (s.otp.held = false) ∧ (s.otp.lifecycle ≠ 5) ∧
    (3 ≤ s.otpAddr / 16) ∧ ((∀ i, i < 32 → s.otpArray (0x010 + i) ≠ 0)) := 
    ⟨st w166, Master.core, (by decide +kernel), (by decide +kernel), (by decide +kernel), (by decide +kernel),
    (by decide +kernel)⟩

/-- The hypotheses of Obligations.CountersAndDebug (Performance counters, debug reads and the trace ring) are met, clause by clause. -/
theorem witness_CountersAndDebug :
  (
    ∃ s : State, (s.dbgBusy = true)) ∧
  (
    ∃ s : State, (s.dbgBusy = false) ∧ (s.item itDebugRead 0 = 0)) ∧
  (
    ∃ s : State, let line := (s.rd base.line LINE.ADDR_LO.ADDR + s.rd base.line LINE.ADDR_HI.ADDR * 2 ^ 32) / 64
    let p := (s.place line).pc
    (s.dbgBusy = false) ∧ (s.item itDebugRead 0 ≠ 0) ∧ (s.pcServes p = false)) ∧
  (
    ∃ s : State, let line := (s.rd base.line LINE.ADDR_LO.ADDR + s.rd base.line LINE.ADDR_HI.ADDR * 2 ^ 32) / 64
    let p := (s.place line).pc
    (s.dbgBusy = false) ∧ (s.item itDebugRead 0 ≠ 0) ∧ (s.pcServes p = true)) := ⟨
    ⟨st w167, (by decide +kernel)⟩,
    ⟨st Dev.reset, (by decide +kernel), (by decide +kernel)⟩,
    ⟨st w168, (by decide +kernel), (by decide +kernel), (by decide +kernel)⟩,
    ⟨st w169, (by decide +kernel), (by decide +kernel), (by decide +kernel)⟩⟩

end Sys2Proof.Tests
end

section
/-! SUPPORT. The address map (R29-R33): the encode inverts the decode in every mode, and there are as many places as
lines. -/
namespace Sys2Proof.Machine

/-! ### The bank hash (R33) -/

/-- A bank field as the hash leaves it: XORed with row bits where the hash is on. -/
def hashedField (hash : Bool) (f r : Nat) : Nat := if hash then f ^^^ r else f

theorem hashedField_lt {k f r : Nat} (hash : Bool) (hf : f < 2 ^ k) (hr : r < 2 ^ k) : hashedField hash f r < 2 ^ k := by
  cases hash
  · exact hf
  · exact Nat.xor_lt_two_pow hf hr

/-- Hashing twice with the same row gives the field back. -/
@[simp] theorem hashedField_hashedField (hash : Bool) (f r : Nat) : hashedField hash (hashedField hash f r) r = f := by
  cases hash
  · rfl
  · exact Nat.xor_xor_cancel_right f r

/-! ### The selector (R30, R31) -/

theorem pcOfSel_lt (sel : Nat) : pcOfSel sel < 128 := by
  simp only [pcOfSel, bitsOf]; omega

theorem selOfPc_lt (pc : Nat) : selOfPc pc < 128 := by
  simp only [selOfPc, bitsOf]; omega

theorem pcOfSel_selOfPc {pc : Nat} (h : pc < 128) : pcOfSel (selOfPc pc) = pc := by
  revert pc; decide

theorem selOfPc_pcOfSel {sel : Nat} (h : sel < 128) : selOfPc (pcOfSel sel) = sel := by
  revert sel; decide

/-! ### Decode and encode, mode by mode (R32) -/

theorem placeOf_linear (hash : Bool) (l : Nat) : placeOf 0 hash l =
    ⟨bitsOf l 24 7, 8 * hashedField hash (bitsOf l 8 2) (bitsOf l 10 14 % 4) +
      hashedField hash (bitsOf l 5 3) (bitsOf l 10 14 / 4 % 8), bitsOf l 10 14, 4 * bitsOf l 2 3 + bitsOf l 0 2⟩ := rfl

theorem placeOf_page (hash : Bool) (l : Nat) : placeOf 1 hash l =
    ⟨pcOfSel (bitsOf l 5 7), 8 * hashedField hash (bitsOf l 12 2) (bitsOf l 17 14 % 4) +
      hashedField hash (bitsOf l 14 3) (bitsOf l 17 14 / 4 % 8), bitsOf l 17 14, 4 * bitsOf l 2 3 + bitsOf l 0 2⟩ := rfl

theorem placeOf_granule (hash : Bool) (l : Nat) : placeOf 2 hash l =
    ⟨pcOfSel (bitsOf l 2 7), 8 * hashedField hash (bitsOf l 12 2) (bitsOf l 17 14 % 4) +
      hashedField hash (bitsOf l 14 3) (bitsOf l 17 14 / 4 % 8), bitsOf l 17 14, 4 * bitsOf l 9 3 + bitsOf l 0 2⟩ := rfl

theorem lineOf_linear (hash : Bool) (p : Place) : lineOf 0 hash p =
    p.pc * 2 ^ 24 + p.row * 2 ^ 10 + hashedField hash (p.bank / 8) (p.row % 4) * 2 ^ 8 +
      hashedField hash (p.bank % 8) (p.row / 4 % 8) * 2 ^ 5 + p.col := rfl

theorem lineOf_page (hash : Bool) (p : Place) : lineOf 1 hash p =
    p.row * 2 ^ 17 + hashedField hash (p.bank % 8) (p.row / 4 % 8) * 2 ^ 14 +
      hashedField hash (p.bank / 8) (p.row % 4) * 2 ^ 12 + selOfPc p.pc * 2 ^ 5 + p.col := rfl

theorem lineOf_granule (hash : Bool) (p : Place) : lineOf 2 hash p =
    p.row * 2 ^ 17 + hashedField hash (p.bank % 8) (p.row / 4 % 8) * 2 ^ 14 +
      hashedField hash (p.bank / 8) (p.row % 4) * 2 ^ 12 + p.col / 4 * 2 ^ 9 + selOfPc p.pc * 2 ^ 2 + p.col % 4 := rfl

/-! ### The fields of a place -/

/-- Every field of a place lies within its range (R29). -/
def Place.inRange (p : Place) : Prop := p.pc < 128 ∧ p.bank < 32 ∧ p.row < 16384 ∧ p.col < 32

theorem bitsOf_lt (n lo len : Nat) : bitsOf n lo len < 2 ^ len := Nat.mod_lt _ (Nat.two_pow_pos _)

theorem rowBits_lt_group (row : Nat) : row % 4 < 2 ^ 2 := Nat.mod_lt _ (by decide)

theorem rowBits_lt_bank (row : Nat) : row / 4 % 8 < 2 ^ 3 := Nat.mod_lt _ (by decide)

/-- `8 * BG + BK` and its parts (R30). -/
theorem bank_parts {g b : Nat} (hg : g < 2 ^ 2) (hb : b < 2 ^ 3) :
    8 * g + b < 32 ∧ (8 * g + b) / 8 = g ∧ (8 * g + b) % 8 = b := by omega

/-- The bank number that the decode makes of two hashed bit fields, and its parts. -/
theorem decodedBank_parts (hash : Bool) (l lo lo' row : Nat) :
    let g := hashedField hash (bitsOf l lo 2) (row % 4)
    let b := hashedField hash (bitsOf l lo' 3) (row / 4 % 8)
    8 * g + b < 32 ∧ (8 * g + b) / 8 = g ∧ (8 * g + b) % 8 = b :=
  bank_parts (hashedField_lt hash (bitsOf_lt l lo 2) (rowBits_lt_group row))
    (hashedField_lt hash (bitsOf_lt l lo' 3) (rowBits_lt_bank row))

theorem placeOf_inRange (mode : Fin 3) (hash : Bool) (l : Nat) : (placeOf mode hash l).inRange := by
  have hcol : ∀ lo, 4 * bitsOf l lo 3 + bitsOf l 0 2 < 32 := by
    intro lo
    have hhigh := bitsOf_lt l lo 3
    have hlow := bitsOf_lt l 0 2
    omega
  match mode with
  | 0 => exact ⟨bitsOf_lt l 24 7, (decodedBank_parts hash l 8 5 _).1, bitsOf_lt l 10 14, hcol 2⟩
  | 1 => exact ⟨pcOfSel_lt _, (decodedBank_parts hash l 12 14 _).1, bitsOf_lt l 17 14, hcol 2⟩
  | 2 => exact ⟨pcOfSel_lt _, (decodedBank_parts hash l 12 14 _).1, bitsOf_lt l 17 14, hcol 9⟩

/-! ### Encode after decode -/

theorem lineOf_placeOf (mode : Fin 3) (hash : Bool) {l : Nat} (hl : l < 2 ^ 31) :
    lineOf mode hash (placeOf mode hash l) = l := by
  match mode with
  | 0 =>
    obtain ⟨-, hdiv, hmod⟩ := decodedBank_parts hash l 8 5 (bitsOf l 10 14)
    show lineOf 0 hash (placeOf 0 hash l) = l
    simp only [placeOf_linear, lineOf_linear, hdiv, hmod, hashedField_hashedField]
    simp only [bitsOf]; omega
  | 1 =>
    obtain ⟨-, hdiv, hmod⟩ := decodedBank_parts hash l 12 14 (bitsOf l 17 14)
    show lineOf 1 hash (placeOf 1 hash l) = l
    simp only [placeOf_page, lineOf_page, hdiv, hmod, hashedField_hashedField, selOfPc_pcOfSel (bitsOf_lt l 5 7)]
    simp only [bitsOf]; omega
  | 2 =>
    obtain ⟨-, hdiv, hmod⟩ := decodedBank_parts hash l 12 14 (bitsOf l 17 14)
    show lineOf 2 hash (placeOf 2 hash l) = l
    simp only [placeOf_granule, lineOf_granule, hdiv, hmod, hashedField_hashedField, selOfPc_pcOfSel (bitsOf_lt l 2 7)]
    simp only [bitsOf]; omega

/-! ### As many places as lines -/

theorem Place.key_lt {p : Place} (hp : p.inRange) : p.key < 2 ^ 31 := by
  obtain ⟨hpc, hbank, hrow, hcol⟩ := hp
  simp only [Place.key]; omega

theorem Place.key_inj {p q : Place} (hp : p.inRange) (hq : q.inRange) (h : p.key = q.key) : p = q := by
  obtain ⟨pc, bank, row, col⟩ := p
  obtain ⟨pc', bank', row', col'⟩ := q
  simp only [Place.inRange, Place.key] at hp hq h
  simp only [Place.mk.injEq]
  omega

/-- The Crown's key of a line under a mode, as a map of the 2^31 line indices to the 2^31 keys. -/
def keyUnder (mode : Fin 3) (hash : Bool) (l : Fin (2 ^ 31)) : Fin (2 ^ 31) :=
  ⟨(placeOf mode hash l).key, Place.key_lt (placeOf_inRange mode hash l)⟩

theorem placeOf_inj (mode : Fin 3) (hash : Bool) {k l : Nat} (hk : k < 2 ^ 31) (hl : l < 2 ^ 31)
    (h : placeOf mode hash k = placeOf mode hash l) : k = l := by
  rw [← lineOf_placeOf mode hash hk, h, lineOf_placeOf mode hash hl]

theorem keyUnder_injective (mode : Fin 3) (hash : Bool) : Function.Injective (keyUnder mode hash) := by
  intro k l h
  have hkey := Place.key_inj (placeOf_inRange mode hash k) (placeOf_inRange mode hash l) (Fin.mk.inj h)
  exact Fin.ext (placeOf_inj mode hash k.isLt l.isLt hkey)

/-- An injective map of the line indices to as many keys reaches every one, so every place is the place of a line. -/
theorem exists_line_of_place (mode : Fin 3) (hash : Bool) {p : Place} (hp : p.inRange) :
    ∃ l, l < 2 ^ 31 ∧ placeOf mode hash l = p := by
  obtain ⟨l, hl⟩ := Finite.surjective_of_injective (keyUnder_injective mode hash) ⟨p.key, Place.key_lt hp⟩
  exact ⟨l, l.isLt, Place.key_inj (placeOf_inRange mode hash l) hp (Fin.mk.inj hl)⟩

/-- Settles O6: the encode inverts the decode, so no two lines share a place, and there are as many places as lines. -/
theorem addressMap : Obligations.AddressMap := by
  unfold Obligations.AddressMap
  intro mode hash
  refine ⟨fun l _ => placeOf_inRange mode hash l, fun p hpc hbank hrow hcol => ?_⟩
  obtain ⟨l, hl, hplace⟩ := exists_line_of_place mode hash ⟨hpc, hbank, hrow, hcol⟩
  exact ⟨l, ⟨hl, hplace⟩, fun k hk hkp => placeOf_inj mode hash hk hl (hkp.trans hplace.symm)⟩

end Sys2Proof.Machine
end

section
/-! SUPPORT. A data request to a node that nobody has (R34): what a packet's way to a port's queue leaves alone, and the
ADDR_ERR that the arrival sends. -/
namespace Sys2Proof.Machine

/-! ### Folds of an operation -/

/-- A view of the device that one operation keeps is kept by its fold over a list. -/
theorem Dev.each_keeps {α β : Type} {view : Dev → β} {f : Dev → α → Dev} (h : ∀ s a, view (f s a) = view s) (s : Dev)
    (xs : List α) : view (s.each xs f) = view s := by
  unfold Dev.each
  induction xs generalizing s with
  | nil => rfl
  | cons a xs ih => exact (ih (f s a)).trans (h s a)

/-! ### Performance counters and the crossbar's trace leave queues and lines alone -/

@[simp] theorem Dev.perfAdd_frame (s : Dev) (u sel n : Nat) : (s.perfAdd u sel n).crown = s.crown ∧
    (s.perfAdd u sel n).pcs = s.pcs ∧ (s.perfAdd u sel n).fps = s.fps := by
  unfold Dev.perfAdd
  dsimp only
  split <;> simp

@[simp] theorem Dev.perfCounter_frame (s : Dev) (u inst ev n k : Nat) : (s.perfCounter u inst ev n k).crown = s.crown ∧
    (s.perfCounter u inst ev n k).pcs = s.pcs ∧ (s.perfCounter u inst ev n k).fps = s.fps := by
  unfold Dev.perfCounter
  dsimp only
  repeat' split
  all_goals simp

@[simp] theorem Dev.perf_frame (s : Dev) (u inst ev n : Nat) : (s.perf u inst ev n).crown = s.crown ∧
    (s.perf u inst ev n).pcs = s.pcs ∧ (s.perf u inst ev n).fps = s.fps := by
  unfold Dev.perf
  split
  · simp
  · exact ⟨Dev.each_keeps (view := Dev.crown) (by simp) _ _, Dev.each_keeps (view := Dev.pcs) (by simp) _ _,
      Dev.each_keeps (view := Dev.fps) (by simp) _ _⟩

@[simp] theorem Dev.traceHdr_frame (s : Dev) (out : Nat) (hdr : Slot) : (s.traceHdr out hdr).crown = s.crown ∧
    (s.traceHdr out hdr).pcs = s.pcs ∧ (s.traceHdr out hdr).fps = s.fps := by
  unfold Dev.traceHdr Dev.when
  dsimp only
  repeat' split
  all_goals simp

@[simp] theorem Dev.delivered_frame (s : Dev) (out : Nat) (vc : BitVec 2) (fwd : Bool) (hdr : Slot) :
    (s.delivered out vc fwd hdr).crown = s.crown ∧ (s.delivered out vc fwd hdr).pcs = s.pcs ∧
    (s.delivered out vc fwd hdr).fps = s.fps := by
  unfold Dev.delivered
  simp

/-! ### Packets that join a port's queue (R174) -/

/-- A list with its longest tail of elements that pass a test cut off and put back. -/
theorem take_append_tailWhile {α : Type} (test : α → Bool) (q : List α) :
    q.take (q.length - (q.reverse.takeWhile test).reverse.length) ++ (q.reverse.takeWhile test).reverse = q := by
  rw [← List.suffix_iff_eq_append, ← List.reverse_prefix, List.reverse_reverse]
  exact List.takeWhile_prefix test

/-- The queue after a packet has joined holds that packet and what it held. -/
theorem mem_enqueue (q : List Packet) (p k : Packet) : k ∈ enqueue q p ↔ k = p ∨ k ∈ q := by
  unfold enqueue
  split
  · set free := (q.reverse.takeWhile (fun x => !x.sameLine p)).reverse
    have hq : k ∈ q ↔ k ∈ q.take (q.length - free.length) ∨ k ∈ free := by
      rw [← List.mem_append, take_append_tailWhile]
    have hfree : k ∈ free ↔ k ∈ free.takeWhile Packet.ahead ∨ k ∈ free.dropWhile Packet.ahead := by
      rw [← List.mem_append, List.takeWhile_append_dropWhile]
    simp only [List.mem_append, List.mem_cons, hq, hfree]
    tauto
  · simp [or_comm]

@[simp] theorem Dev.crown_emit (s : Dev) (n : Nat) (vc : BitVec 2) (slots : List Slot) : (s.emit n vc slots).crown = s.crown := by
  simp [Dev.emit, Dev.emitFrom]

@[simp] theorem Dev.pcs_emit (s : Dev) (n : Nat) (vc : BitVec 2) (slots : List Slot) : (s.emit n vc slots).pcs = s.pcs := by
  simp [Dev.emit, Dev.emitFrom]

/-- A packet of the device's own joins the queue of its port, and no other queue changes. -/
theorem Dev.mem_txq_emit (s : Dev) (n : Nat) (vc : BitVec 2) (slots : List Slot) (m : Nat) (k : Packet) :
    k ∈ ((s.emit n vc slots).fp m).txq ↔ (m = n ∧ k = ⟨vc, slots, none⟩) ∨ k ∈ (s.fp m).txq := by
  have hfp : (s.emit n vc slots).fp m =
      (s.upFp n (fun p => { p with txq := enqueue p.txq ⟨vc, slots, none⟩ })).fp m := by
    simp [Dev.emit, Dev.emitFrom, Dev.fp]
  rw [hfp, Dev.fp_upFp]
  by_cases hm : m = n
  · simp [hm, mem_enqueue]
  · simp [hm]

/-! ### Taking a packet in (R96) -/

theorem Dev.takeIn_frame (s : Dev) (port : Nat) (p : Packet) : (s.takeIn port p).crown = s.crown ∧
    (s.takeIn port p).pcs = s.pcs := by
  unfold Dev.takeIn
  dsimp only
  split <;> simp

theorem Dev.txq_takeIn (s : Dev) (port : Nat) (p : Packet) (n : Nat) :
    ((s.takeIn port p).fp n).txq = (s.fp n).txq := by
  unfold Dev.takeIn
  dsimp only
  split
  · rw [Dev.fp_setFp]
    split <;> simp [*]
  · rfl

theorem Dev.node_takeIn (s : Dev) (port : Nat) (p : Packet) : (s.takeIn port p).node = s.node := by
  unfold Dev.takeIn
  dsimp only
  split <;> rfl

theorem Dev.lookup_takeIn (s : Dev) (port : Nat) (p : Packet) : (s.takeIn port p).lookup = s.lookup := by
  unfold Dev.takeIn
  dsimp only
  split <;> rfl

/-! ### Answers (R113, R119) -/

/-- An ADDR_ERR is no code that `countStatus` counts: the answer is its packet, out of the port that routes to the
request's source. -/
theorem Dev.answer_addrErr (s : Dev) (r : Req) {o h : Nat} (hout : s.lookup none r.src.toNat 15 vcRsp = .out o h) :
    s.answer r (Rsp.code stAddrErr) = s.emit o vcRsp (s.answerPacket r (Rsp.code stAddrErr) h).slots := by
  have hsend : s.answer r (Rsp.code stAddrErr) = s.sendRsp r.src.toNat
      [rspSlot opcRsp r.cls 15 r.tag r.src (BitVec.ofNat 12 s.node) stAddrErr 0 0 0] := rfl
  rw [hsend, Dev.sendRsp, hout]
  rfl

/-! ### A data request to a node that nobody has (R34) -/

/-- Whatever the device would do with a request of its own, one to node 0x000 or 0xFFF is answered ADDR_ERR. -/
theorem Dev.arrive_unassigned (s : Dev) (port : Nat) (slots : List Slot) (r : Req) (here : Dev → Dev)
    (hdst : Req.node r = 0 ∨ Req.node r = 0xFFF) (hnode : s.node ≠ 0) :
    s.arrive port vcReq slots r here = (s.takeIn port ⟨vcReq, slots, none⟩).answer r (Rsp.code stAddrErr) := by
  unfold Dev.arrive
  simp [Dev.node_takeIn, hnode, hdst]

/-- R34 of a request in any form: the answer waits in the queue of the source's port, and nothing else joins a queue. -/
theorem Dev.arrive_unassigned_answered (s : Dev) (port : Nat) (slots : List Slot) (r : Req) (here : Dev → Dev)
    (hdst : Req.node r = 0 ∨ Req.node r = 0xFFF) (hnode : s.node ≠ 0)
    (hroute : ∃ o h, s.lookup none r.src.toNat 15 vcRsp = .out o h) :
    let t := s.arrive port vcReq slots r here
    s.answered t r (Rsp.code stAddrErr) ∧
      (∀ (n : Fin 6) (k : Packet), k ∈ (t.fp n).txq → k ∈ (s.fp n).txq ∨ k.vc = vcRsp) ∧
      t.crown = s.crown ∧ t.pcs = s.pcs := by
  obtain ⟨o, h, hout⟩ := hroute
  obtain ⟨hcrown, hpcs⟩ := s.takeIn_frame port ⟨vcReq, slots, none⟩
  have htake : (s.takeIn port ⟨vcReq, slots, none⟩).lookup none r.src.toNat 15 vcRsp = .out o h := by
    rw [Dev.lookup_takeIn, hout]
  have hpacket : (s.takeIn port ⟨vcReq, slots, none⟩).answerPacket r (Rsp.code stAddrErr) h =
      s.answerPacket r (Rsp.code stAddrErr) h := by
    rw [Dev.answerPacket, Dev.answerPacket, Dev.node_takeIn]
  intro t
  have ht : t = (s.takeIn port ⟨vcReq, slots, none⟩).emit o vcRsp (s.answerPacket r (Rsp.code stAddrErr) h).slots := by
    rw [← hpacket, ← Dev.answer_addrErr _ r htake]
    exact s.arrive_unassigned port slots r here hdst hnode
  refine ⟨⟨o, h, hout, ?_⟩, fun n k hk => ?_, ?_, ?_⟩
  · rw [ht, Dev.mem_txq_emit]
    exact .inl ⟨rfl, rfl⟩
  · rw [ht, Dev.mem_txq_emit, Dev.txq_takeIn] at hk
    rcases hk with ⟨-, rfl⟩ | hk
    · exact .inr rfl
    · exact .inl hk
  · rw [ht, Dev.crown_emit, hcrown]
  · rw [ht, Dev.pcs_emit, hpcs]

/-- Each of the five data requests arrives on its port as a REQ packet. -/
theorem dataRequest_arrives (s : State) (port : Fin 6) (r : Req) (data : BitVec 512) (mask slot1 : BitVec 128) :
    ∀ c ∈ [Instr.rd port r, .wr port r data, .wrm port r mask data, .atom port r slot1, .tag port r],
      ∃ slots here, exec c s = .next { s with toDev := s.arrive port vcReq slots r here } := by
  simp only [List.forall_mem_cons, List.not_mem_nil, false_imp_iff, implies_true, and_true]
  refine ⟨⟨_, _, rfl⟩, ⟨_, _, rfl⟩, ?_, ⟨_, _, rfl⟩, ⟨_, _, rfl⟩⟩
  let full := decide (r.addr.toNat % 64 + wrmLen r ≤ 64) && wrmEnabled r mask = BitVec.allOnes 64
  exact ⟨wrmSlots r mask data, fun d => d.dataHere port opcWrm r (if full then .fullWrite else .merge)
    (data.zeroExtend 520) mask, rfl⟩

/-- Settles O7: each data request arrives the same way, and the arrival answers ADDR_ERR before it looks at the request. -/
theorem unassignedNode : Obligations.UnassignedNode := by
  unfold Obligations.UnassignedNode
  intro s port r hdst hnode hroute data mask slot1 c hc
  obtain ⟨slots, here, hexec⟩ := dataRequest_arrives s port r data mask slot1 c hc
  exact ⟨_, hexec, s.toDev.arrive_unassigned_answered port slots r here hdst hnode hroute⟩

end Sys2Proof.Machine
end

section
/-! SUPPORT. The zero-fill (R26, R513): a line changes only where a codeword is stored, and nothing that follows the
zero-fill stores one. One lemma per operation that Dawn's last step reaches. -/
namespace Sys2Proof.Machine

/-! ### Responses and records leave the lines alone -/

@[simp] theorem Dev.crown_each {α : Type} (s : Dev) (xs : List α) (f : Dev → α → Dev)
    (h : ∀ s a, (f s a).crown = s.crown) : (s.each xs f).crown = s.crown := Dev.each_keeps h s xs

@[simp] theorem Dev.crown_when (s : Dev) (c : Bool) (f : Dev → Dev) (h : ∀ s, (f s).crown = s.crown) :
    (s.when c f).crown = s.crown := by
  cases c
  · rfl
  · exact h s

@[simp] theorem Dev.crown_countFail (s : Dev) (h : Hop) : (s.countFail h).crown = s.crown := by
  cases h <;> simp [Dev.countFail]

@[simp] theorem Dev.crown_sendRsp (s : Dev) (dst : Nat) (slots : List Slot) : (s.sendRsp dst slots).crown = s.crown := by
  unfold Dev.sendRsp
  split <;> simp

@[simp] theorem Dev.crown_sendOwn (s : Dev) (dst : Nat) (vc : BitVec 2) (slots : List Slot) :
    (s.sendOwn dst vc slots).2.crown = s.crown := by
  unfold Dev.sendOwn
  split <;> simp

@[simp] theorem Dev.crown_countStatus (s : Dev) (status : Nat) (src : BitVec 12) :
    (s.countStatus status src).crown = s.crown := by
  unfold Dev.countStatus
  repeat' split
  all_goals simp

@[simp] theorem Dev.crown_answer (s : Dev) (r : Req) (a : Rsp) : (s.answer r a).crown = s.crown := by
  unfold Dev.answer
  dsimp only
  split <;> simp

@[simp] theorem Dev.crown_setRecord (s : Dev) (src tag : BitVec 12) (v : OutRec) :
    (s.setRecord src tag v).crown = s.crown := by
  unfold Dev.setRecord
  split <;> simp

@[simp] theorem Dev.crown_recordDone (s : Dev) (opc : BitVec 5) (r : Req) (line : Nat) (accepted : Option Nat)
    (status : Nat) : (s.recordDone opc r line accepted status).crown = s.crown := by
  unfold Dev.recordDone
  dsimp only
  repeat' split
  all_goals simp

@[simp] theorem Dev.crown_respond (s : Dev) (opc : BitVec 5) (r : Req) (line : Nat) (accepted : Option Nat) (a : Rsp) :
    (s.respond opc r line accepted a).crown = s.crown := by
  simp [Dev.respond]

@[simp] theorem Dev.crown_respondEntry (s : Dev) (e : Entry) (a : Rsp) : (s.respondEntry e a).crown = s.crown := by
  unfold Dev.respondEntry
  split <;> simp

/-! ### What joins a pseudo-channel's queues changes no line before its slot -/

@[simp] theorem Dev.crown_setPcState (s : Dev) (p st : Nat) : (s.setPcState p st).crown = s.crown := by
  rw [Dev.setPcState, Dev.pcEvent, Dev.crown_post, Dev.crown_put]

@[simp] theorem Dev.crown_qperf (s : Dev) (p ev : Nat) : (s.qperf p ev).crown = s.crown := by
  simp [Dev.qperf]

@[simp] theorem Dev.crown_tally (s : Dev) (p cls : Nat) : (s.tally p cls).crown = s.crown := by
  unfold Dev.tally
  dsimp only
  repeat' split
  all_goals simp

@[simp] theorem Dev.crown_issueMergeRead (s : Dev) (p line : Nat) : (s.issueMergeRead p line).crown = s.crown := by
  unfold Dev.issueMergeRead
  split <;> simp

@[simp] theorem Dev.crown_readReaches (s : Dev) (p : Nat) (e : Entry) : (s.readReaches p e).crown = s.crown := by
  unfold Dev.readReaches
  dsimp only
  split
  · simp
  · rw [Dev.crown_upPc]
    split <;> simp

@[simp] theorem Dev.crown_enterL2 (s : Dev) (p : Nat) (e : Entry) : (s.enterL2 p e).crown = s.crown := by
  unfold Dev.enterL2
  split <;> simp

@[simp] theorem Dev.crown_wasted (s : Dev) (p : Nat) : (s.wasted p).crown = s.crown := by
  unfold Dev.wasted
  dsimp only
  repeat' split
  all_goals simp

@[simp] theorem Dev.crown_carderStale (s : Dev) (p : Nat) (hit : Nat → Bool) : (s.carderStale p hit).crown = s.crown := by
  simp [Dev.carderStale]

@[simp] theorem Dev.crown_feedL2 (s : Dev) (e : Entry) : (s.feedL2 e).crown = s.crown := by
  unfold Dev.feedL2
  dsimp only
  repeat' split
  all_goals simp

@[simp] theorem Dev.crown_ownOp (s : Dev) (op : Op) (line : Nat) (data : Content) :
    (s.ownOp op line data).crown = s.crown := by
  simp [Dev.ownOp, Dev.nextOrder]

@[simp] theorem Dev.crown_setHold (s : Dev) (p : Nat) (e : Entry) (h : Hold) : (s.setHold p e h).crown = s.crown := by
  simp [Dev.setHold]

@[simp] theorem Dev.crown_dropEntry (s : Dev) (p : Nat) (e : Entry) : (s.dropEntry p e).crown = s.crown := by
  simp [Dev.dropEntry]

/-! ### Mirrors -/

@[simp] theorem Dev.crown_fullerEvent (s : Dev) (code : Nat) : (s.fullerEvent code).crown = s.crown := by
  simp [Dev.fullerEvent]

@[simp] theorem Dev.crown_markChunk (s : Dev) (r l : Nat) : (s.markChunk r l).crown = s.crown := by
  unfold Dev.markChunk
  dsimp only
  split <;> rfl

@[simp] theorem Dev.crown_answerBroken (s : Dev) (e : Entry) : (s.answerBroken e).crown = s.crown := by
  simp [Dev.answerBroken]

@[simp] theorem Dev.crown_breakMirror (s : Dev) (r : Nat) : (s.breakMirror r).crown = s.crown := by
  simp [Dev.breakMirror, Dev.setMirState]

@[simp] theorem Dev.crown_sendMirWr (s : Dev) (r l : Nat) (c : Content) (carried : List Entry) (resync : Bool) :
    (s.sendMirWr r l c carried resync).crown = s.crown := by
  unfold Dev.sendMirWr Dev.mirLeaves
  dsimp only
  split <;> simp

@[simp] theorem Dev.crown_mirrorGo (s : Dev) (l : Nat) : (s.mirrorGo l).crown = s.crown := by
  unfold Dev.mirrorGo
  dsimp only
  repeat' split
  all_goals simp

@[simp] theorem Dev.crown_finish (s : Dev) (e : Entry) (a : Rsp) : (s.finish e a).crown = s.crown := by
  simp [Dev.finish, Dev.finishAll]

@[simp] theorem Dev.crown_xchgTick (s : Dev) : s.xchgTick.crown = s.crown := by
  simp [Dev.xchgTick, Dev.sendXchg]

/-! ### The dirty budget and the writes it holds (R297, R298) -/

@[simp] theorem Dev.crown_setEpochs (s : Dev) (st : Nat) (o e d : BitVec 32) : (s.setEpochs st o e d).crown = s.crown := by
  simp [Dev.setEpochs]

@[simp] theorem Dev.crown_bpOn (s : Dev) : s.bpOn.crown = s.crown := by
  unfold Dev.bpOn
  split <;> simp

@[simp] theorem Dev.crown_dirtyUnit (s : Dev) (l : Nat) (e : BitVec 32) : (s.dirtyUnit l e).crown = s.crown := by
  unfold Dev.dirtyUnit
  split <;> simp

@[simp] theorem Dev.crown_admitSeed (s : Dev) (u : Nat) : (s.admitSeed u).crown = s.crown := by
  simp [Dev.admitSeed]

@[simp] theorem Dev.crown_admitSeedOf (s : Dev) (l : Nat) : (s.admitSeedOf l).crown = s.crown := by
  unfold Dev.admitSeedOf
  split <;> simp

@[simp] theorem Dev.crown_startWrite (s : Dev) (p : Nat) (e : Entry) : (s.startWrite p e).crown = s.crown := by
  unfold Dev.startWrite
  dsimp only
  split <;> simp

@[simp] theorem Dev.crown_joinMerge (s : Dev) (p : Nat) (e : Entry) : (s.joinMerge p e).crown = s.crown := by
  have hset : ∀ c k, ((s.setPc p c).qperf p k).crown = s.crown := by
    intro c k
    rw [Dev.crown_qperf, Dev.crown_setPc]
  have hhit : ∀ c k, (((s.setPc p c).count (base.pc p) PC.MERGE_HIT.COUNT).qperf p k).crown = s.crown := by
    intro c k
    rw [Dev.crown_qperf, Dev.crown_count, Dev.crown_setPc]
  unfold Dev.joinMerge
  dsimp only
  repeat' split
  all_goals simp only [Dev.crown_issueMergeRead, hset, hhit]

@[simp] theorem Dev.crown_pressMerge (s : Dev) (p : Nat) : (s.pressMerge p).crown = s.crown := by
  unfold Dev.pressMerge
  dsimp only
  split
  · rfl
  · split
    · rw [Dev.crown_issueMergeRead, Dev.crown_setPc]
    · rfl

@[simp] theorem Dev.crown_startPartial (s : Dev) (p : Nat) (e : Entry) : (s.startPartial p e).crown = s.crown := by
  rw [Dev.startPartial]
  split
  · simp
  · rw [Dev.crown_pressMerge, Dev.crown_upPc]
    simp

@[simp] theorem Dev.crown_storeMirror (s : Dev) (e : Entry) : (s.storeMirror e).crown = s.crown := by
  simp [Dev.storeMirror]

/-- A mirror write either waits for a copy read of its line, or is stored and answered. -/
theorem Dev.startMirror_cases (s : Dev) (p : Nat) (e : Entry) :
    (∃ f e', s.startMirror p e = (((((s.admitSeedOf e.line).dirtyUnit e.line e.epoch).upPc p f).feedL2 e').count
      base.fcore FULLER.COW_READ.COUNT).perf 11 noInst 2 1) ∨
    s.startMirror p e = ((s.admitSeedOf e.line).dirtyUnit e.line e.epoch).storeMirror e := by
  by_cases hcow : (s.admitSeedOf e.line).cowReads e.line = true
  · exact .inl ⟨_, _, if_pos hcow⟩
  · exact .inr (if_neg hcow)

@[simp] theorem Dev.crown_startMirror (s : Dev) (p : Nat) (e : Entry) : (s.startMirror p e).crown = s.crown := by
  obtain ⟨f, e', h⟩ | h := s.startMirror_cases p e
  · rw [h, (Dev.perf_frame _ _ _ _ _).1, Dev.crown_count, Dev.crown_feedL2, Dev.crown_upPc, Dev.crown_dirtyUnit,
      Dev.crown_admitSeedOf]
  · rw [h, Dev.crown_storeMirror, Dev.crown_dirtyUnit, Dev.crown_admitSeedOf]

@[simp] theorem Dev.crown_releaseOne (s : Dev) (p : Nat) (e : Entry) : (s.releaseOne p e).crown = s.crown := by
  unfold Dev.releaseOne
  repeat' split
  all_goals simp

@[simp] theorem Dev.crown_releaseHeld (s : Dev) : s.releaseHeld.crown = s.crown := by
  unfold Dev.releaseHeld
  refine Dev.crown_each _ _ _ fun s x => ?_
  split <;> simp

@[simp] theorem Dev.crown_bpCheck (s : Dev) : s.bpCheck.crown = s.crown := by
  unfold Dev.bpCheck
  split <;> simp

@[simp] theorem Dev.crown_releaseStalls (s : Dev) : s.releaseStalls.crown = s.crown := by
  unfold Dev.releaseStalls
  refine Dev.crown_each _ _ _ fun s x => ?_
  dsimp only
  repeat' split
  all_goals simp

/-! ### Fold, seals and their waiters -/

@[simp] theorem Dev.crown_endWaiterOnce (s : Dev) (w : Waiter) (status val : Nat) :
    (s.endWaiterOnce w status val).crown = s.crown := by
  cases w <;> simp [Dev.endWaiterOnce]

@[simp] theorem Dev.crown_fold (s : Dev) : s.fold.crown = s.crown := by
  unfold Dev.fold
  split
  · rfl
  · rw [Dev.crown_bpCheck, Dev.crown_releaseStalls, Dev.crown_raise, Dev.crown_fullerEvent, Dev.crown_count,
      Dev.crown_setEpochs, Dev.crown_each _ _ _ fun s p => Dev.crown_upPc s p _]
    exact Dev.crown_each s _ _ fun s b => Dev.crown_setUnitState s b.1 0

section
variable {fin : EndBy} (hfin : ∀ s w st v, (fin s w st v).crown = s.crown)
include hfin

theorem Dev.crown_sealFoldedBy (s : Dev) (ws : List Waiter) : (s.sealFoldedBy fin ws).crown = s.crown := by
  simp [Dev.sealFoldedBy, hfin]

theorem Dev.crown_takeSealBy (s : Dev) (who : Waiter) : (s.takeSealBy fin who).crown = s.crown := by
  unfold Dev.takeSealBy
  repeat' split
  all_goals simp [hfin, Dev.crown_sealFoldedBy hfin]

theorem Dev.crown_sealDeferredBy (s : Dev) : (s.sealDeferredBy fin).crown = s.crown := by
  unfold Dev.sealDeferredBy
  dsimp only
  repeat' split
  all_goals simp [Dev.crown_sealFoldedBy hfin, Dev.crown_takeSealBy hfin]

theorem Dev.crown_startFlushBy (s : Dev) (who : Waiter) (rgn : Option Nat) :
    (s.startFlushBy fin who rgn).crown = s.crown := by
  unfold Dev.startFlushBy
  dsimp only
  repeat' split
  all_goals simp [hfin]

theorem Dev.crown_cmdBy (s : Dev) (op : Nat) : (s.cmdBy fin op).crown = s.crown := by
  unfold Dev.cmdBy Dev.takeCmd
  dsimp only
  repeat' split
  all_goals simp [hfin, Dev.crown_takeSealBy hfin, Dev.crown_startFlushBy hfin, Dev.crown_sealDeferredBy hfin]

end

@[simp] theorem Dev.crown_endWaiter (s : Dev) (w : Waiter) (status val : Nat) :
    (s.endWaiter w status val).crown = s.crown := by
  unfold Dev.endWaiter
  dsimp only
  split <;> simp [Dev.crown_cmdBy Dev.crown_endWaiterOnce]

@[simp] theorem Dev.crown_sealDeferred (s : Dev) : s.sealDeferred.crown = s.crown :=
  Dev.crown_sealDeferredBy Dev.crown_endWaiter s

@[simp] theorem Dev.crown_completeWaits (s : Dev) : s.completeWaits.crown = s.crown := by
  simp [Dev.completeWaits]

@[simp] theorem Dev.crown_endFlushes (s : Dev) : s.endFlushes.crown = s.crown := by
  unfold Dev.endFlushes
  dsimp only
  split <;> simp

@[simp] theorem Dev.crown_endCatchUp (s : Dev) : s.endCatchUp.crown = s.crown := by
  unfold Dev.endCatchUp
  dsimp only
  split <;> simp

@[simp] theorem Dev.crown_evalDurability (s : Dev) : s.evalDurability.crown = s.crown := by
  unfold Dev.evalDurability
  dsimp only
  repeat' split
  all_goals simp

/-! ### Resynchronisation of a cartridge (R391, R392) -/

@[simp] theorem Dev.crown_hbAppend (s : Dev) (n : Nat) (bs : List Block) : (s.hbAppend n bs).crown = s.crown := by
  simp [Dev.hbAppend]

@[simp] theorem Dev.crown_hbCheckpoint (s : Dev) (n : Nat) : (s.hbCheckpoint n).crown = s.crown := by
  unfold Dev.hbCheckpoint
  dsimp only
  rw [Dev.crown_upHb, Dev.crown_hbAppend, Dev.crown_hbAppend]

@[simp] theorem Dev.crown_synced (s : Dev) (n : Nat) : (s.synced n).crown = s.crown := by
  simp [Dev.synced, Dev.hbEvent, Dev.setHbState, Dev.reSuper]

@[simp] theorem Dev.crown_rebuild (s : Dev) (n : Nat) : (s.rebuild n).crown = s.crown := by
  rw [Dev.rebuild, Dev.crown_synced, Dev.crown_each _ _ _ fun s u => Dev.crown_admitSeed s u, Dev.crown_upHb]

@[simp] theorem Dev.crown_resyncGo (s : Dev) (n : Nat) : (s.resyncGo n).crown = s.crown := by
  unfold Dev.resyncGo
  dsimp only
  repeat' split
  all_goals simp [Dev.nvmeIssue, Dev.copyRecords]

@[simp] theorem Dev.crown_startResync (s : Dev) (n : Nat) : (s.startResync n).crown = s.crown := by
  unfold Dev.startResync
  split <;> simp

/-! ### Dawn's last step -/

@[simp] theorem Dev.crown_setDawnPhase (s : Dev) (ph : Nat) : (s.setDawnPhase ph).crown = s.crown := by
  unfold Dev.setDawnPhase
  split <;> simp

@[simp] theorem Dev.crown_stepDone (s : Dev) (k : Nat) : (s.stepDone k).crown = s.crown := by
  unfold Dev.stepDone
  split <;> simp

@[simp] theorem Dev.crown_rungEvent (s : Dev) (code : Nat) : (s.rungEvent code).crown = s.crown := by
  unfold Dev.rungEvent
  dsimp only
  split <;> simp

@[simp] theorem Dev.crown_pcsServe (s : Dev) : s.pcsServe.crown = s.crown := by
  unfold Dev.pcsServe
  refine Dev.crown_each _ _ _ fun s p => ?_
  split <;> simp

@[simp] theorem Dev.crown_goReady (s : Dev) : s.goReady.crown = s.crown := by
  unfold Dev.goReady
  dsimp only
  repeat' split
  all_goals simp

@[simp] theorem Dev.crown_openEpochs (s : Dev) (h d : BitVec 32) : (s.openEpochs h d).crown = s.crown := by
  unfold Dev.openEpochs
  dsimp only
  split <;> simp

@[simp] theorem Dev.crown_initDone (s : Dev) (ps : List Nat) : (s.initDone ps).crown = s.crown :=
  Dev.crown_each s ps _ fun s _ => Dev.crown_put s _ _ _

/-! ### The zero-fill (R513) -/

/-- A zero-fill that ends leaves no line listed: the steps after it write no line. -/
theorem Dev.crown_zeroFillDone (s : Dev) (hfill : s.pf.zeroFill = true) (hidle : s.pfPhase = pfIdle) :
    s.zeroFillDone.crown = [] := by
  have hruns : ¬ ((!s.pf.zeroFill || s.pfPhase != pfIdle) = true) := by simp [hfill, hidle]
  unfold Dev.zeroFillDone
  rw [if_neg hruns]
  dsimp only
  split <;> simp

/-- The all-zero codeword is the codeword of the all-zero content: zero message symbols have zero checks (R26). -/
theorem encodeLine_contentOf_zero : encodeLine (contentOf 0) = 0 := by decide +kernel

/-- Settles O8: after the zero-fill no line is listed, so each reads as the all-zero codeword. -/
theorem zeroFilledLine : Obligations.ZeroFilledLine := by
  unfold Obligations.ZeroFilledLine
  intro s hfill hidle _ _ _
  refine ⟨{ s with toDev := s.toDev.zeroFillDone }, rfl, fun k => ?_⟩
  have hline : s.toDev.zeroFillDone.lineAt k = 0 := by
    rw [Dev.lineAt, s.toDev.crown_zeroFillDone hfill hidle]
    rfl
  have hcontent : contentOf 0 = 0 := by simp [contentOf]
  exact ⟨hline.symm ▸ hcontent, hline.symm ▸ encodeLine_contentOf_zero.symm⟩

end Sys2Proof.Machine
end
